-- ==== Sys2Proof/Word.lean ====
section
/-!
DEFINITION. The words of the model: bytes, object values, sparse tables and the unit of time.
-/
namespace Sys2Proof

/-- One byte of a frame, of a BLOCK object or of memory. -/
abbrev Byte := BitVec 8

/-- A sparse table: entries by number, rising, none equal to the table's default (canonical form: `Tbl.wf`). -/
abbrev Tbl (α : Type) := List (Nat × α)

/-- The value of an object: a fixed-size type as the number its bytes spell (R370), a STR or BLOCK as its bytes. -/
inductive Val where
  | n (v : Nat)
  | b (v : List Byte)
deriving DecidableEq, Repr

/-- The time unit of the model is 1/36 ns: every clock of Table 1-5 and the nanosecond are whole numbers of it. -/
def tuNs (n : Nat) : Nat := 36 * n
def tuUs (n : Nat) : Nat := 36000 * n
def tuMs (n : Nat) : Nat := 36000000 * n
def tuSec (n : Nat) : Nat := 36000000000 * n

/-- One 400 MHz tick, 2.5 ns (R201). -/
def tuTick : Nat := 90

end Sys2Proof
end

