-- ==== Sys2Proof/Syntax.lean ====
section
/-!
DEFINITION. The commands of the module: one constructor for each row of the table of operations and events. The first
operand of every command is the instant, in 1/36 ns, at which it reaches the module (assumption 2).
-/
namespace Sys2Proof

/-- Where a Granil request comes from and where its answer goes: the I3C target in SDR or HDR-DDR, a management
datagram (port code, source MAC, source IPv4, source UDP port), or a Flue port (origin identity and SESSION). -/
inductive Path where
  | i3c
  | ddr
  | mgmt (port mac ip udp : Nat)
  | flue (port origin session : Nat)
deriving DecidableEq, Repr

/-- The route extension of Table 16-6. -/
structure Route where
  dest : Nat
  via : Nat
  session : Nat
deriving DecidableEq, Repr

/-- A Granil request frame as it arrives (Table 16-5): FLAGS, SEQUENCE, LENGTH, the route extension, the data bytes
and the CRC-16 it carries, and whether the I3C bus found an error in it (SDR parity; HDR preamble, parity or CRC-5). OP,
INDEX and SUBINDEX come with the command. -/
structure Req where
  path : Path := .i3c
  flags : Nat := 0
  seq : Nat := 0
  len : Nat := 0
  route : Option Route := none
  data : List Byte := []
  crc : Nat := 0
  lineErr : Bool := false
deriving DecidableEq, Repr

/-- A part that a wear monitor measures (Table 14-8). -/
inductive WearPart where
  | withy (wid : Fin 288)
  | flueLane (port : Fin 3) (lane : Fin 3)
  | ethLane (net : Fin 2) (lane : Fin 4)
  | dramDevice (ch : Fin 8) (rank sub : Fin 2) (dev : Fin 3)
  | sramRow (stove : Fin 2) (offset : Nat)
  | withyRow (wid : Fin 288) (row : Nat)
deriving DecidableEq, Repr

/-- One 100 µs sample of the Damper (R335): VIN in mV, input power in mW, VAUX33 load in mA and the 16 rails in mW,
stove A first. -/
structure RailSmp where
  vin : Nat
  input : Nat
  vaux : Nat
  rails : List Nat
deriving DecidableEq, Repr

/-- What the SRAM self-test of power-up finds (R311): rows repaired on each stove; the withies, skeins and hearths whose
local memory, cache or shared memory has more failing rows than spares, and the stoves with another such array. -/
structure SramTest where
  repaired : List Nat := [0, 0]
  withies : List (Fin 288) := []
  skeins : List (Fin 32) := []
  hearths : List (Fin 8) := []
  others : List (Fin 2) := []
deriving DecidableEq, Repr

/-- A block that has no step of its own whose checker fires (BLOCK_CHECKER_EVENT). -/
inductive Block where
  | rateCouncil (stove : Fin 2)
  | dieBridge (stove : Fin 2)
  | standInBuilder (stove : Fin 2)
  | shaper
  | audio
  | housekeeping (n : Fin 2)
  | tables
  | collector
deriving DecidableEq, Repr

/-- A receiver with an RS-FEC decoder. -/
inductive FecPort where
  | eth (p : Fin 10)
  | flue (p : Fin 3)
deriving DecidableEq, Repr

/-- An asynchronous crossing (R26). -/
inductive Crossing where
  | eth (net : Fin 2)
  | flue (port : Fin 3)
  | hdmi (p : Fin 2)
  | i3c
  | i2s (p : Fin 8)
  | refPps
deriving DecidableEq, Repr

/-- A Flue frame: the header of Table 10-3 and the payload as the fields its TYPE carries, in the order the owning
rule lists them; Granil payloads are their bytes. -/
structure FlueFrame where
  dest : Nat
  src : Nat
  cls : Nat
  typ : Nat
  hops : Nat := 0
  tag : Nat := 0
  pay : List Nat := []
  /-- LENGTH: payload bytes. -/
  len : Nat := 0
deriving DecidableEq, Repr

/-- An Ethernet frame without its FCS: addresses, VLAN identifier (0 untagged) and priority, EtherType, the IPv4 and UDP
fields where it carries them, and the payload after the last of these headers. A fragment or a frame whose IPv4
header has options is marked; IPv4 frames sent have identification 0 and DF set. -/
structure EthFrame where
  dstMac : Nat := 0
  srcMac : Nat := 0
  vlan : Nat := 0
  pcp : Nat := 0
  ety : Nat := 0x0800
  srcIp : Nat := 0
  dstIp : Nat := 0
  proto : Nat := 17
  ttl : Nat := 0
  dscp : Nat := 0
  frag : Bool := false
  /-- Of a received frame: shorter than 64 bytes; with IPv4 options (Table 7-1 supports neither). -/
  runt : Bool := false
  options : Bool := false
  srcUdp : Nat := 0
  dstUdp : Nat := 0
  udpSum : Nat := 0
  payload : List Byte := []
deriving DecidableEq, Repr

/-- A command on a DRAM subchannel's command bus. -/
inductive DramCmd where
  | act (rank bank row : Nat)
  | pre (rank bank : Nat)
  | rd (rank bank col : Nat) (autoPre : Bool)
  | wr (rank bank col : Nat) (autoPre : Bool)
  | ref (rank bank : Nat) (all : Bool)
  | rfm (rank bank : Nat)
  | mr4 (rank : Nat)
  | selfRefresh (enter : Bool)
deriving DecidableEq, Repr

/-- One sample row data header of an ST 2110-20 packet with its samples: row length in bytes, row, offset, and the
samples it carries of each plane, in order. -/
structure Srd where
  len : Nat
  row : Nat
  offset : Nat
  planes : List (List Nat)
deriving DecidableEq, Repr

/-- An ST 2110-20 packet (R155, R157): leg, addresses, payload type, 32-bit extended sequence number, RTP timestamp,
marker, and its SRDs. -/
structure IngestPkt where
  leg : Fin 2
  payloadType : Nat
  seq : Nat
  rtp : Nat
  marker : Bool
  srds : List Srd
deriving DecidableEq, Repr

/-- A source's access over DDC (R159): the device address, the bytes written, or how many bytes are read. -/
inductive Ddc where
  | write (addr : Nat) (bytes : List Byte)
  | read (addr : Nat) (count : Nat)
deriving DecidableEq, Repr

/-- The timing an HDMI link locks to (R158): size, frame period in ns, interlaced, sampling, depth, link mode. -/
structure HdmiTiming where
  w : Nat
  h : Nat
  periodNs : Nat
  interlaced : Bool
  samp : Nat
  depth : Nat
  link : Nat
  unsupported : Bool
deriving DecidableEq, Repr

/-- A frame as an HDMI sink received it (R151): the line-side instant of its start, the samples of its planes, and the character errors
that SCDC counted on each lane since the frame before. -/
structure HdmiFrame where
  lineAt : Nat
  planes : List (List Nat)
  errors : List Nat := []
deriving DecidableEq, Repr

/-- A relayed line (R166): origin identity, entry, line number, frame time in 2^-40 ns of the counter, frame size and format,
the destinations that this copy is for, and the samples of its planes. -/
structure RelayLine where
  dests : List Nat
  origin : Nat
  entry : Nat
  line : Nat
  tsrc : Nat
  w : Nat
  h : Nat
  samp : Nat
  depth : Nat
  colour : Nat
  planes : List (List Nat)
deriving DecidableEq, Repr

/-- What link bring-up learns of the far end (Table 10-1): serial number, identity (0xFFFF unnumbered), port number,
whether it is an excess module. -/
structure LinkPeer where
  serial : Nat
  id : Nat
  port : Nat
  excess : Bool := false
deriving DecidableEq, Repr



/-- What a PTP message is (R207, R208). -/
inductive PtpKind where
  | sync
  | followUp
  | delayResp
  | pdelayResp
  | pdelayRespFollowUp
  | announce
deriving DecidableEq, Repr

/-- A PTP message as an instance receives it (R207, R208): its sender's port identity, sequenceId, the receive timestamp
of the line side and the timestamp it carries, as times in 2^-16 ns, its correction and logMessageInterval, whether
its sender's IPv4 address, it is two-step and whether it answers this instance's request; and what an Announce carries: the values the best
master clock algorithm compares in their order, flags as TIME_FLAGS has them, UTC offset and grandmaster identity. -/
structure PtpMsg where
  kind : PtpKind
  domain : Nat := 127
  port : Nat
  ip : Nat := 0
  seq : Nat
  rx : Int := 0
  stamp : Int := 0
  correction : Int := 0
  logInt : Int := 0
  twoStep : Bool := false
  mine : Bool := false
  rank : List Nat := []
  flags : Nat := 0
  utc : Nat := 0
  gm : Nat := 0
deriving DecidableEq, Repr


/-- What a touch device's descriptors say (R362, R364): whether it has an accepted touch-screen collection, its vendor
and product, the largest input report, and the logical ranges of X and Y. -/
structure TouchDev where
  supported : Bool
  vidPid : Nat
  maxLen : Nat
  xMin : Int
  xMax : Int
  yMin : Int
  yMax : Int
deriving DecidableEq, Repr

/-- A contact in a report: identifier, tip switch, X and Y. -/
structure TouchPoint where
  id : Nat
  tip : Bool
  x : Int
  y : Int
deriving DecidableEq, Repr

/-- What a read of the input report gives (R363): a NACK, a failed read, or a report with its length field. -/
inductive TouchRead where
  | nack
  | failed
  | report (len : Nat) (points : List TouchPoint)
deriving DecidableEq, Repr



/-- An HDMI audio sample packet (R226): its line-side arrival, rate in Hz, whether its audio is of an accepted kind, and for
each pair of channels its layout carries the samples. -/
structure HdmiAudio where
  lineAt : Nat
  rate : Nat
  supported : Bool
  pairs : List (List (Int × Int))
deriving DecidableEq, Repr


/-- A request that reaches a DRAM channel controller (R295): the address of its line, its class, its page-policy hint
(0 CLOSE, 1 OPEN, 2 AUTO), and the 64 bytes that a write carries. -/
structure DramReq where
  addr : Nat
  cls : Nat
  hint : Nat
  data : Option (List Byte) := none
deriving DecidableEq, Repr

/-- Who reads a poisoned line (Table 12-7): a composition pipe a captured frame of an input or a library item, a withy
for its job (through a skip CU of R305 or not), the packet builder a slice, a housekeeping processor the firmware
image or module tables. -/
inductive PoisonUser where
  | frame (p : Fin 8) (input id : Nat)
  | item (p : Fin 8) (n : Nat)
  | withy (wid : Fin 288) (skip : Bool)
  | slice (flow : Fin 4096) (f j seg : Nat)
  | firmware (stove : Fin 2)
deriving DecidableEq, Repr

/-- Who meets an uncorrectable SRAM word (R311): a withy its skein cache, a pipe its store, the output stage a slice, the
fault collector its memory, or nobody yet. -/
inductive SramUser where
  | withy (wid : Fin 288)
  | pipe (p : Fin 8)
  | slice (flow : Fin 4096) (f j seg : Nat)
  | collector
  | nobody
deriving DecidableEq, Repr


/-- The canvas stripe whose readiness deadline it is (R87), and what the check of the pairs' mirror records finds at it: those that fail
their CRC, and those that fail it once more after being asked for again (R266). -/
structure DueStripe where
  stripe : Nat
  bad : List (Fin 8208)
  again : List (Fin 8208)
deriving DecidableEq, Repr

/-- The commands: the rows of the opcode table. -/
inductive Instr where
  /-- R334: After VIN has held at or above 34.0 V for 10 ms, the power stage starts converting. -/
  | powerStageStart (t vin : Nat)
  /-- R399: All rails come within ±5 %, PG asserts and the always-on domain runs from the crystal. -/
  | pgAsserted (t : Nat)
  /-- R22: The root PLL locks, the boot ROM starts and Flue training begins. -/
  | rootPllLock (t : Nat)
  /-- R399: SRAM self-test and row repair complete, the fault collector and I3C target run, and STATE reads KINDLING. -/
  | kindlingEntered (t : Nat) (test : SramTest)
  /-- R399: Training of every DRAM channel, spare ranks included, completes. -/
  | dramTrainingDone (t usable spare : Nat)
  /-- R334: VIN above 80 V for 1 µs stops the main converters, latches the stage off and enters COLD. -/
  | inputOvervoltage (t vin : Nat)
  /-- R334: A fault of the power stage itself latches it off and enters COLD. -/
  | powerStageFault (t : Nat)
  /-- R334: VIN falling below 27.0 V releases the latched-off power stage. -/
  | overvoltageLatchRelease (t vin : Nat)
  /-- R335: A rail outside ±5 % of nominal for 50 µs makes group 1 source 7 or 8 present. -/
  | railOutOfRegulation (t : Nat) (stove : Fin 2) (outside : Bool)
  /-- R335: VAUX33 starts or stops limiting at 0.75 A, which sets or clears group 1 source 11. -/
  | vaux33CurrentLimit (t : Nat) (limiting : Bool)
  /-- R335: The Damper samples every rail every 100 µs and updates the 1 ms means. -/
  | railSample (t : Nat) (smp : RailSmp)
  /-- R336: VIN falls below a sag threshold; that level and every lower level are entered. -/
  | sagLevelEnter (t vin : Nat)
  /-- R336: VIN rises above a restore threshold and the level is left. -/
  | sagLevelLeave (t vin : Nat)
  /-- R341: Every 1 ms each stove's power is compared with its allowance, and a channel's power demand is lowered or raised by one step. -/
  | powerLoopTick (t : Nat)
  /-- R343: Every 1 ms the thermal model advances, the diodes are read and T_HOT is updated. -/
  | thermalModelTick (t : Nat) (readings : List Int)
  /-- R345: A spare diode that has agreed with the model for 10 s takes over the node and the guard is removed. -/
  | spareDiodeTakeover (t : Nat) (stove : Fin 2) (diode : Fin 6)
  /-- R346: Every 20 ms at or above THROTTLE_LIMIT, the thermal demand is lowered by one step. -/
  | throttleStep (t : Nat) (stove : Fin 2)
  /-- R347: Every 200 ms after THROTTLE is left, the thermal demand rises by one step. -/
  | throttleRecoveryStep (t : Nat) (stove : Fin 2)
  /-- R312: In BANKED, the band is re-checked on the diodes every 1 s and the retention voltage follows it. -/
  | retentionBandCheck (t : Nat) (temps : List Int)
  /-- R352: A wear monitor interval expires; the part is measured, and may be entered as worn or retired. -/
  | wearMeasurement (t : Nat) (part : WearPart) (measure : Int)
  /-- R354: Host software writes the wear record in KINDLING; it is checked, merged and applied. -/
  | wearRecordWrite (t : Nat) (r : Req)
  /-- R407: A write of COMMIT_REQ starts validation of the pending configuration. -/
  | commitReq (t : Nat) (r : Req)
  /-- R408: Validation ends; the configuration is accepted and copied to the committed copies, or it is refused. -/
  | commitValidationDone (t : Nat) (dev : Option TouchDev)
  /-- R413: START in LAID arms every enabled channel to start at its frame f0. -/
  | start (t : Nat) (r : Req)
  /-- R414: STOP makes each channel stop after its current frame, or cancels a pending START. -/
  | stop (t : Nat) (r : Req)
  /-- R349: BANK makes every channel stop after its current frame, as the first part of entering BANKED. -/
  | bank (t : Nat) (r : Req)
  /-- R349: Once every channel has stopped, Flue stops, DRAM self-refreshes, domains gate and BANK_N asserts. -/
  | bankedEntry (t : Nat)
  /-- R351: An enabled wake source is seen in BANKED and the wake sequence begins. -/
  | wakeSource (t : Nat) (bit : Fin 13)
  /-- R351: Housekeeping restarts, templates are rebuilt, STATE reads LAID and BANK_N is released. -/
  | wakeComplete (t : Nat) (dev : Option TouchDev)
  /-- R416: A write of RESET returns the module through power-up from the PLL row, keeping identity and wear record. -/
  | reset (t : Nat) (r : Req)
  /-- R433: RST_N held low for 10 µs stops the ports and resets the module. -/
  | rstNLow (t : Nat)
  /-- R400: RST_N rising lets the power-up sequence continue from the PLL row. -/
  | rstNRelease (t : Nat)
  /-- R415: HOLD_N low for 100 µs defers START or stops LIT channels. -/
  | holdNAsserted (t : Nat)
  /-- R415: HOLD_N high for 100 µs lets a deferred START proceed. -/
  | holdNReleased (t : Nat)
  /-- R213: A canvas frame start arrives; corrections, staged changes, actions, latching and stripe 0 begin. -/
  | frameStart (t : Nat) (c : Fin 16)
  /-- R36: A canvas stripe boundary arrives; composition starts and boundary changes are applied in the order of R31. -/
  | stripeStart (t : Nat) (c : Fin 16)
  /-- R123: Every band of a canvas stripe has been written, and stripe-ready is sent. -/
  | compositionComplete (t : Nat) (c : Fin 16) (f k : Nat) (late : List (Fin 8))
  /-- R145: RUN reaches K, and the region's action is set to run from the next frame start. -/
  | signatureActionTrigger (t : Nat) (c : Fin 16) (region : Fin 64)
  /-- R104: Stripe-ready reaches a Grate, which builds the jobs and their dependence counters. -/
  | stripeReady (t : Nat) (h : Fin 8) (c : Fin 16) (f k : Nat)
  /-- R79: At Tf the council result, or its absence, is latched and the council dependence is satisfied. -/
  | councilDependenceTf (t : Nat) (c : Fin 16) (f k : Nat)
  /-- R104: A withy finishes a job, and the dependences it satisfies are decremented. -/
  | jobComplete (t : Nat) (wid : Fin 288)
  /-- R103: The slice's coded data arrives in the output buffer. -/
  | sliceInOutputBuffer (t : Nat) (h : Fin 8) (flow : Fin 4096) (f j seg : Nat)
  /-- R102: The seam filter finishes a flow stripe's reference samples. -/
  | seamFilterDone (t : Nat) (h : Fin 8) (flow : Fin 4096) (f j : Nat)
  /-- R107: Every 1 µs each canvas with ready jobs gains credit. -/
  | grateCreditTick (t : Nat) (h : Fin 8)
  /-- R87: At the readiness deadline every slice of the stripe is checked, and slices not ready are replaced by stand-ins. -/
  | readinessDeadline (t : Nat) (c : Fin 16) (f : Nat) (k : DueStripe)
  /-- R105: The reference copy for a stripe whose stripe-ready never arrived completes. -/
  | missingStripeCopyDone (t : Nat) (h : Fin 8) (c : Fin 16) (f k : Nat)
  /-- R186: The send window of a stripe opens and its body packets are released. -/
  | sendWindowOpen (t : Nat) (c : Fin 16) (f k : Nat)
  /-- R183: The tail slot opens, and tail packets are sent whatever the gate states. -/
  | tailSlotOpen (t : Nat) (port : Fin 10) (c : Fin 16) (f k : Nat)
  /-- R414: The last byte of a stopping channel leaves; the flows return to armed, and LAID is entered when all channels have stopped. -/
  | channelStopComplete (t : Nat) (c : Fin 16)
  /-- R116: An observation window of OBS_PERIOD frames ends, and its values are copied to the RO objects. -/
  | obsWindowEnd (t : Nat)
  /-- R111: A checker in a withy fires; the withy is fenced and its job re-run. -/
  | withyCheckerFault (t : Nat) (wid : Fin 288) (addr : Option Nat)
  /-- R111: A job running 1 µs past its fixed time is a withy fault. -/
  | jobOverrun (t : Nat) (wid : Fin 288)
  /-- R113: The 20 µs self-test of a spare withy passes or fails. -/
  | spareSelfTestDone (t : Nat) (wid : Fin 288) (pass : Bool)
  /-- R118: Host software marks a withy for retirement. -/
  | retireReq (t : Nat) (r : Req)
  /-- R112: A marked withy finishes its jobs and is fenced without loss. -/
  | retirementDrainDone (t : Nat) (wid : Fin 288)
  /-- R77: 2 µs after complexity is complete, a member forms its summary and sends it upward. -/
  | councilSummarySend (t : Nat) (c : Fin 16) (f k : Nat)
  /-- R77: A council summary is received and combined; the sum is forwarded, or the root broadcasts once all children have reported. -/
  | councilSummaryRx (t : Nat) (port : Fin 3) (frame : FlueFrame)
  /-- R78: At the wait limit, a partial sum that omits the missing children is sent. -/
  | councilWaitLimit (t : Nat) (c : Fin 16) (f k : Nat)
  /-- R77: The root's broadcast of q̄, DRAUGHT and the active set is received and forwarded. -/
  | councilBroadcastRx (t : Nat) (port : Fin 3) (frame : FlueFrame)
  /-- R80: A child missing for LATE_LIMIT rounds is reported absent. -/
  | councilChildAbsent (t : Nat) (c : Fin 16) (child : Nat)
  /-- R81: After LATE_LIMIT rounds without a broadcast, a new root is elected. -/
  | councilRootLost (t : Nat) (c : Fin 16)
  /-- R130: After REPEAT_MAX frames that are not ready, the layer fills or hides. -/
  | layerNrAction (t : Nat) (c : Fin 16) (layer : Fin 16)
  /-- R146: COMP_RELEASE ends SAFETY or HOLD from the next frame start. -/
  | compRelease (t : Nat) (r : Req) (c : Fin 16)
  /-- R147: A pipe checker event abandons the stripe in every band that pipe is composing. -/
  | pipeCheckerFault (t : Nat) (p : Fin 8)
  /-- R145: A write of EXPECTED resets RUN of every region of the channel. -/
  | expectedWrite (t : Nat) (r : Req) (c : Fin 16)
  /-- R157: An ST 2110-20 packet is received, de-duplicated and written. -/
  | ingestPacketRx (t : Nat) (i : Fin 16) (pkt : IngestPkt)
  /-- R155: A run of 64 bad packets sets IN_STATE 0x04. -/
  | ingestFormatError (t : Nat) (i : Fin 16)
  /-- R152: Every sample of a captured frame has been written. -/
  | captureFrameComplete (t : Nat) (input : Fin 26) (key : Nat) (hdmi : Option HdmiFrame)
  /-- R152: After SKEW_MAX an incomplete frame is discarded. -/
  | frameIncompleteTimeout (t : Nat) (input : Fin 26) (key : Nat)
  /-- R154: A LOCKED input releases its frame at Tsrc + LOCK_DELAY. -/
  | lockedFrameRelease (t : Nat) (input : Fin 26) (id : Nat)
  /-- R157: A leg with no packets for 10 frame periods raises an event. -/
  | ingestLegLost (t : Nat) (i : Fin 16) (leg : Fin 2)
  /-- R367: +5V_DET rises after a confirmed unplug, and debounce starts. -/
  | hdmi5vRise (t : Nat) (p : Fin 2)
  /-- R160: The 100 ms debounce ends; HPD asserts or deasserts. -/
  | hdmi5vDebounceEnd (t : Nat) (p : Fin 2)
  /-- R160: +5V_DET falls, and debounce of the fall starts. -/
  | hdmi5vFall (t : Nat) (p : Fin 2)
  /-- R160: HPD_LOW_TIME ends and HPD is asserted again. -/
  | hdmiHpdLowEnd (t : Nat) (p : Fin 2)
  /-- R159: An EDID write is checked and pulses HPD if it is asserted. -/
  | edidWrite (t : Nat) (r : Req) (p : Fin 2)
  /-- R159: The source accesses EDID, the segment pointer or SCDC over DDC. -/
  | ddcAccess (t : Nat) (p : Fin 2) (a : Ddc)
  /-- R160: The HDMI link locks and capture begins. -/
  | hdmiLock (t : Nat) (p : Fin 2) (timing : HdmiTiming)
  /-- R161: Lock is lost; the frame in capture is discarded and HDMI_STATE falls. -/
  | hdmiLockLoss (t : Nat) (p : Fin 2)
  /-- R161: A new AVI InfoFrame changes colorimetry or range from the next frame. -/
  | aviInfoframeRx (t : Nat) (p : Fin 2) (format colour : Nat)
  /-- R163: ITEM_ALLOC reserves library space for the selected item. -/
  | itemAlloc (t : Nat) (r : Req)
  /-- R163: ITEM_DATA writes whole lines and advances LINE_SEL. -/
  | itemData (t : Nat) (r : Req)
  /-- R163: ITEM_DONE makes a fully written item latchable. -/
  | itemDone (t : Nat) (r : Req)
  /-- R164: ITEM_DELETE frees an item that is not in use. -/
  | itemDelete (t : Nat) (r : Req)
  /-- R166: A relayed line is received into its relay-in slot. -/
  | relayLineRx (t : Nat) (port : Fin 3) (line : RelayLine)
  /-- R247: A stored relay line is forwarded at its paced rate. -/
  | relayLineForward (t : Nat) (port : Fin 3)
  /-- R167: A REF_IN edge is accepted or rejected against its prediction. -/
  | refInEdge (t : Nat) (lineAt : Nat)
  /-- R167: A REF_IN period passes with no edge; three in a row declare loss. -/
  | refPeriodMissing (t : Nat)
  /-- R167: A write of REF_FORM, REF_FRAME_RATE or REF_PHASE starts re-qualification. -/
  | refSettingWrite (t : Nat) (r : Req) (sub : Nat)
  /-- R220: A PPS_IN rising edge is timestamped and counted. -/
  | ppsInEdge (t : Nat) (lineAt : Nat)
  /-- R173: A received Ethernet frame is filtered, metered and dispatched. -/
  | ethFrameRx (t : Nat) (port : Fin 10) (frame : EthFrame)
  /-- R174: A port's link comes up and a gratuitous ARP is sent. -/
  | ethLinkUp (t : Nat) (port : Fin 10)
  /-- R175: A port's link goes down; its packets are discarded at enqueue. -/
  | ethLinkDown (t : Nat) (port : Fin 10)
  /-- R174: Every 60 s ARP resolution of each destination is refreshed. -/
  | neighbourRefresh (t : Nat) (port : Fin 10)
  /-- R185: An entry's credit reaches its head packet's length, and the packet becomes eligible. -/
  | packetEligible (t : Nat) (e : Fin 4128)
  /-- R182: When the port is free, the highest open class with an eligible head frame that can finish is sent. -/
  | portTxSelect (t : Nat) (port : Fin 10)
  /-- R193: A gate list entry's interval ends and the next entry's gate states apply. -/
  | gateIntervalEnd (t : Nat) (port : Fin 10)
  /-- R194: CONFIG_CHANGE validates the admin gate list and schedules its change time. -/
  | configChange (t : Nat) (r : Req) (port : Fin 10)
  /-- R194: At the change time the admin gate list becomes operational. -/
  | gateChangeTime (t : Nat) (port : Fin 10)
  /-- R197: A write to a meter's configuration refills its buckets. -/
  | meterConfigWrite (t : Nat) (r : Req) (m : Fin 1024) (sub : Nat)
  /-- R198: Every 1.28 µs each class queue's depth is sampled into its histogram. -/
  | queueDepthSample (t : Nat) (port : Fin 10)
  /-- R198: HIST_WINDOW ends and the histograms are copied to their RO objects. -/
  | histWindowEnd (t : Nat) (port : Fin 10)
  /-- R203: TIME_SET steps the counter to a value. -/
  | timeSet (t : Nat) (r : Req)
  /-- R203: TIME_ADJUST steps the counter by a value. -/
  | timeAdjust (t : Nat) (r : Req)
  /-- R208: A PTP message is received and timestamped, and may yield an offset sample. -/
  | ptpEventRx (t : Nat) (inst : Fin 4) (msg : PtpMsg)
  /-- R208: An Announce receipt timeout loses the PTP instance. -/
  | ptpAnnounceTimeout (t : Nat) (inst : Fin 4)
  /-- R208: No Sync for 4 intervals loses the PTP instance. -/
  | ptpSyncTimeout (t : Nat) (inst : Fin 4)
  /-- R207: A Delay_Req or Pdelay_Req is sent at its interval. -/
  | ptpDelayReqSend (t : Nat) (inst : Fin 4)
  /-- R209: A host-written PTP frame is sent in PTP_CLASS. -/
  | ptpTx (t : Nat) (r : Req) (q : Fin 2)
  /-- R209: A read of PTP_RX returns the waiting frames and removes them. -/
  | ptpRxRead (t : Nat) (r : Req) (q : Fin 2)
  /-- R206: A read of TS_READ returns up to 64 timestamps and removes them. -/
  | tsRead (t : Nat) (r : Req) (q : Fin 5)
  /-- R206: A timestamp entry unread for 2 s is discarded. -/
  | tsEntryStale (t : Nat) (q : Fin 5)
  /-- R211: A HOST_SAMPLE write gives the servo a sample from source 0x06. -/
  | hostSample (t : Nat) (r : Req)
  /-- R210: 4 s without a HOST_SAMPLE disqualifies source 0x06. -/
  | hostSampleExpire (t : Nat)
  /-- R210: A source listed earlier than the one in use, qualified for 10 s, replaces it. -/
  | sourcePreferenceTimer (t : Nat)
  /-- R212: HOLDOVER_MAX seconds in HOLDOVER raise an event. -/
  | holdoverMaxPassed (t : Nat)
  /-- R27: Once per second the two stoves' counters are compared. -/
  | stoveCounterCompare (t : Nat) (diff : Int)
  /-- R220: PPS_OUT rises at each whole second of the counter. -/
  | ppsOutPulse (t : Nat)
  /-- R254: Every 15.625 ms each link end sends a time frame with its offer. -/
  | flueTimeExchange (t : Nat) (port : Fin 3)
  /-- R254: A time frame gives link delay, offset and an offer, and may change the upstream. -/
  | flueTimeFrameRx (t : Nat) (port : Fin 3) (frame : FlueFrame) (lineAt : Nat)
  /-- R223: A word-select period's two channels are received on an I2S port: the levels of SD at the rising edges of BCLK while WS is low,
  and those while it is high, the first edge after the period with them. -/
  | i2sFrameRx (t : Nat) (p : Fin 8) (lineAt : Nat) (left right : List Bool)
  /-- R226: An HDMI audio sample packet is received for the virtual ports. -/
  | hdmiAudioPacketRx (t : Nat) (p : Fin 2) (packet : HdmiAudio)
  /-- R227: A port's converter acquires and locks to its input. -/
  | asrcLocked (t : Nat) (p : Fin 16)
  /-- R229: A port's FIFO is empty when a sample is needed, and the output holds. -/
  | audioUnderrun (t : Nat) (p : Fin 16)
  /-- R229: A FIFO passes 1 ms of input and is re-centred. -/
  | audioOverrun (t : Nat) (p : Fin 16)
  /-- R229: After UNDERRUN_HOLD the held output ramps to 0. -/
  | underrunHoldEnd (t : Nat) (p : Fin 16)
  /-- R229: The FIFO reaches its centre again and the port ramps in. -/
  | audioResume (t : Nat) (p : Fin 16)
  /-- R232: An audio packet is released at its packet time. -/
  | audioPacketRelease (t : Nat) (a : Fin 32)
  /-- R238: Lanes adapt, align and exchange link control, and the link delay is measured. -/
  | flueTrainingDone (t : Nat) (port : Fin 3) (lanes : Nat) (peer : LinkPeer) (delayPs : Nat)
  /-- R238: Failed training with signal present is retried every 500 ms. -/
  | flueTrainingRetry (t : Nat) (port : Fin 3)
  /-- R238: After LINK_HOLD the link is admitted to the path table. -/
  | flueLinkAdmit (t : Nat) (port : Fin 3)
  /-- R240: A link is declared down and returns through bring-up. -/
  | flueLinkDown (t : Nat) (port : Fin 3)
  /-- R239: A lane above LANE_SER_LIMIT for 1 s moves to the spare. -/
  | laneSerExceeded (t : Nat) (port : Fin 3) (lane : Fin 3) (ser : Nat)
  /-- R239: LANE_RETIRE moves the named lane to the spare. -/
  | laneRetire (t : Nat) (r : Req) (port : Fin 3)
  /-- R239: An active lane lost suddenly is replaced, or the link runs on one lane. -/
  | laneLost (t : Nat) (port : Fin 3) (lane : Fin 3)
  /-- R243: A Flue frame is received, CRC-checked, and forwarded or consumed. -/
  | flueFrameRx (t : Nat) (port : Fin 3) (frame : FlueFrame) (crcOk : Bool)
  /-- R252: A broadcast frame is accepted from the path-table port and flooded on. -/
  | broadcastFrameRx (t : Nat) (port : Fin 3) (frame : FlueFrame)
  /-- R251: Every 100 ms a topology advert is flooded. -/
  | topologyAdvertTimer (t : Nat)
  /-- R251: An advert updates the path table and detects duplicate identities. -/
  | topologyAdvertRx (t : Nat) (port : Fin 3) (frame : FlueFrame)
  /-- R249: ENUM_START on the root numbers the chimney depth-first. -/
  | enumStart (t : Nat) (r : Req)
  /-- R249: An enumeration frame numbers this module and passes the enumeration on. -/
  | enumerationFrameRx (t : Nat) (port : Fin 3) (frame : FlueFrame)
  /-- R270: SWITCH_REQ requests a switch-over of a pair with cause 0x04. -/
  | switchReq (t : Nat) (r : Req)
  /-- R270: TWIN_SWITCH_REQ requests a twin handoff with cause 0x04. -/
  | twinSwitchReq (t : Nat) (r : Req)
  /-- R270: A hearth-level fault fences the hearth and decides a switch-over. -/
  | hearthLevelFault (t : Nat) (h : Fin 8) (part : Fin 16)
  /-- R269: Mismatch arbitration results are known and the outcome is applied. -/
  | arbitrationResult (t : Nat) (which : Fin 5) (faulty : List (Fin 288)) (twinFaulty : Bool)
  /-- R274: A repaired hearth's self-test passes or fails. -/
  | hearthSelfTestDone (t : Nat) (h : Fin 8) (pass : Bool) (failed : List (Fin 288))
  /-- R275: Resynchronisation completes and the pair reaches state 0x01. -/
  | pairResyncDone (t : Nat) (pair : Fin 4)
  /-- R276: Every BIST_PERIOD the standby runs periodic self-test. -/
  | bistPeriodTimer (t : Nat) (pair : Fin 4) (failed : List (Fin 288)) (memoryOk : Bool)
  /-- R279: The twin's TWIN_HASH is received and compared. -/
  | twinHashRx (t : Nat) (port : Fin 3) (frame : FlueFrame)
  /-- R281: The standby receives a send token and compares hashes. -/
  | sendTokenRx (t : Nat) (port : Fin 3) (frame : FlueFrame)
  /-- R284: A token is missed; at TWIN_LOSS the standby takes over. -/
  | sendTokenMissed (t : Nat) (c : Fin 16) (f k : Nat)
  /-- R283: A give-up frame from the active twin starts a handoff. -/
  | giveUpFrameRx (t : Nat) (port : Fin 3) (frame : FlueFrame)
  /-- R283: A last-gasp notice from the active twin starts a handoff. -/
  | lastGaspRx (t : Nat) (port : Fin 3) (frame : FlueFrame)
  /-- R284: A fence frame mutes the twinned channels of the active twin. -/
  | fenceFrameRx (t : Nat) (port : Fin 3) (frame : FlueFrame)
  /-- R290: A corrected line is written back and counted. -/
  | dramCorrectedError (t : Nat) (addr : Nat) (rank : Fin 2) (dev : Fin 3) (scrub : Bool)
  /-- R303: An uncorrectable line retires a rank, or is poisoned. -/
  | dramUncorrectable (t : Nat) (addr : Nat) (access : Nat)
  /-- R304: A consumer reads a poisoned line and reacts as in Table 12-7. -/
  | poisonedRead (t : Nat) (addr : Nat) (user : PoisonUser)
  /-- R303: Migration of a retired rank to the spare completes. -/
  | rankMigrationDone (t : Nat) (ch : Fin 8)
  /-- R314: RANK_RETIRE retires the usable rank of channel 0 or 4. -/
  | rankRetire (t : Nat) (r : Req)
  /-- R300: A scrub read of a line falls due within SCRUB_PERIOD. -/
  | scrubPass (t : Nat) (ch : Fin 8)
  /-- R301: A CA parity alert stops command issue and replays the retry buffer. -/
  | caParityAlert (t : Nat) (ch : Fin 8) (sub : Fin 2)
  /-- R301: Retraining of a channel completes or fails. -/
  | dramRetrainDone (t : Nat) (ch : Fin 8) (ok : Bool)
  /-- R306: Every 1 ms MR4 is polled and the refresh band may change. -/
  | dramTempPoll (t : Nat) (ch : Fin 8) (temps : List Int)
  /-- R306: A tREFI interval falls due and a refresh is issued. -/
  | dramRefreshDue (t : Nat) (ch : Fin 8) (sub : Fin 2)
  /-- R307: A bank's activate count reaches the threshold and RFM is issued. -/
  | rfmDue (t : Nat) (ch : Fin 8) (sub : Fin 2) (rank : Fin 2) (bank : Fin 16)
  /-- R311: A corrected SRAM word is written back. -/
  | sramCorrected (t : Nat) (stove : Fin 2) (off : Nat)
  /-- R311: An uncorrectable SRAM word is poisoned. -/
  | sramUncorrectable (t : Nat) (stove : Fin 2) (off : Nat) (user : SramUser)
  /-- R315: 1 ms after an occurrence, its PRESENT bit returns to 0. -/
  | presentPulseEnd (t : Nat)
  /-- R316: Writing 1 to STATUS bits clears those whose source is not present. -/
  | statusClear (t : Nat) (r : Req) (g : Fin 20)
  /-- R394: At bus-free, a waiting in-band interrupt arbitrates for the bus. -/
  | ibiArbitration (t : Nat) (won : Bool)
  /-- R319: CAPTURE_CLEAR empties the group's capture record. -/
  | captureClear (t : Nat) (r : Req) (g : Fin 20)
  /-- R324: QUIET_PERIOD passes without fault and the recovery ends. -/
  | quietPeriodEnd (t : Nat) (dom : Fin 65536)
  /-- R324: A RELEASE write ends recoveries that await host release. -/
  | release (t : Nat) (r : Req) (cls : Fin 2)
  /-- R330: ASH_READ returns up to 128 records and advances ASH_CURSOR. -/
  | ashRead (t : Nat) (r : Req)
  /-- R333: ASH_CLEAR empties the ring while SEQUENCE continues. -/
  | ashClear (t : Nat) (r : Req)
  /-- R331: INJ_ARM arms or disarms an injection slot. -/
  | injArm (t : Nat) (r : Req) (i : Fin 4)
  /-- R331: INJ_STOP disarms every injection slot. -/
  | injStop (t : Nat) (r : Req)
  /-- R99: STANDINS_CLEAR zeroes all stand-in counters at the next frame start. -/
  | standinsClear (t : Nat) (r : Req)
  /-- R360: A key's debounced state changes; a release before LONG_TIME is a short press. -/
  | keyDebouncedChange (t : Nat) (k : Fin 8) (pressed : Bool)
  /-- R360: A key held for LONG_TIME triggers its long record. -/
  | keyLongPress (t : Nat) (k : Fin 8)
  /-- R357: A remote-action record is received and queued for its target label. -/
  | remoteAction (t : Nat) (r : Req)
  /-- R363: TCH_INT falls and the input report is read. -/
  | touchInt (t : Nat)
  /-- R363: Every TCH_POLL ms the input report is read. -/
  | touchPoll (t : Nat)
  /-- R365: A read report is mapped to contacts, which bind to or fire zones. -/
  | touchReportRead (t : Nat) (res : TouchRead)
  /-- R365: A contact down for LONG_TIME fires its hold zone. -/
  | touchHold (t : Nat) (contact : Nat)
  /-- R363: Every 1 s a device that is not answering is re-initialised. -/
  | touchRetry (t : Nat) (dev : Option TouchDev)
  /-- R381: A READ returns an object's whole value. -/
  | granilRead (t : Nat) (r : Req) (idx sub : Nat)
  /-- R381: A WRITE to an object without a row of its own sets its value. -/
  | granilWrite (t : Nat) (r : Req) (op idx sub : Nat)
  /-- R384: SEG_INIT opens a segmented write with its total length. -/
  | segInitWrite (t : Nat) (r : Req) (idx sub : Nat)
  /-- R386: SEG_INIT with the read flag snapshots the object and returns its length. -/
  | segInitRead (t : Nat) (r : Req) (idx sub : Nat)
  /-- R384: SEG_DATA appends bytes to the open write. -/
  | segDataWrite (t : Nat) (r : Req) (idx sub : Nat)
  /-- R386: SEG_DATA returns the next bytes of the snapshot. -/
  | segDataRead (t : Nat) (r : Req) (idx sub : Nat)
  /-- R384: SEG_END applies the whole written value at once. -/
  | segEndWrite (t : Nat) (r : Req) (idx sub : Nat)
  /-- R386: SEG_END closes a segmented read. -/
  | segEndRead (t : Nat) (r : Req) (idx sub : Nat)
  /-- R385: A host ABORT discards the open transfer. -/
  | granilAbort (t : Nat) (r : Req) (idx sub : Nat)
  /-- R385: A transfer idle for SEG_TIMEOUT is discarded. -/
  | segTimeout (t : Nat) (who : Path)
  /-- R404: The firmware image check ends; the image runs or is refused. -/
  | firmwareCheckDone (t : Nat)
  /-- R396: The answer to a forwarded request returns to its originating session. -/
  | forwardedResponseRx (t : Nat) (port : Fin 3) (frame : FlueFrame)
  /-- R396: A forwarded request unanswered for FWD_TIMEOUT is answered with 0x0E. -/
  | fwdTimeout (t : Nat)
  /-- R375: LEVEL_REQ changes the session's access level. -/
  | levelReq (t : Nat) (r : Req)
  /-- R375: The 10 s lock-out after three PIN failures ends. -/
  | pinLockoutEnd (t : Nat) (who : Path)
  /-- R390: A management or Flue session idle past its limit ends. -/
  | sessionIdleTimeout (t : Nat) (who : Path)
  /-- R392: A private read returns one response frame, or is NACKed. -/
  | i3cPrivateRead (t : Nat)
  /-- R393: An HDR-DDR read command 0xC7 returns one response frame. -/
  | hdrDdrRead (t : Nat) (lineErr : Bool)
  /-- R391: Without a dynamic address, the target requests Hot-Join on its timer. -/
  | hotJoinRequest (t : Nat)
  /-- R391: ENTDAA assigns the dynamic address. -/
  | entdaa (t : Nat) (addr : Fin 128)
  /-- R391: SETNEWDA changes the dynamic address. -/
  | setnewda (t : Nat) (addr : Fin 128)
  /-- R391: RSTDAA clears the dynamic address. -/
  | rstdaa (t : Nat)
  /-- R391: ENEC enables interrupts or Hot-Join. -/
  | enec (t : Nat) (ints hj : Bool)
  /-- R391: DISEC disables interrupts or Hot-Join. -/
  | disec (t : Nat) (ints hj : Bool)
  /-- R391: SETMWL sets the maximum write length. -/
  | setmwl (t : Nat) (len : Nat)
  /-- R391: GETMWL returns the maximum write length. -/
  | getmwl (t : Nat)
  /-- R391: SETMRL sets the maximum read length. -/
  | setmrl (t : Nat) (len payload : Nat)
  /-- R391: GETMRL returns the maximum read length. -/
  | getmrl (t : Nat)
  /-- R391: GETPID returns the provisional ID. -/
  | getpid (t : Nat)
  /-- R391: GETBCR returns the BCR. -/
  | getbcr (t : Nat)
  /-- R391: GETDCR returns the DCR. -/
  | getdcr (t : Nat)
  /-- R391: GETSTATUS returns outstanding interrupts and the protocol-error flag. -/
  | getstatus (t : Nat)
  /-- R391: ENTHDR0 enters HDR-DDR mode. -/
  | enthdr0 (t : Nat)
  /-- R391: An unsupported common command is NACKed when direct and ignored when broadcast. -/
  | unsupportedCcc (t : Nat) (direct : Bool)
  /-- R429: TEST_RST_N changes level, setting or clearing group 19 source 8. -/
  | testRstNChange (t : Nat) (high : Bool)
  /-- R429: The IDCODE instruction selects the identification register. -/
  | tapIdcode (t : Nat) (stove : Fin 2)
  /-- R429: The BYPASS instruction selects the bypass register. -/
  | tapBypass (t : Nat) (stove : Fin 2)
  /-- R429: A boundary-scan instruction takes the contacts only at level 3 in KINDLING, and is otherwise decoded as BYPASS. -/
  | tapBoundaryScan (t : Nat) (stove : Fin 2)
  /-- R23: Loss of root PLL lock, or of the forwarded root clock at stove B, is a GRAVE fault and the module enters COLD. -/
  | rootPllLockLost (t : Nat) (forwarded : Bool)
  /-- R26: An asynchronous crossing FIFO overflows or underflows, and an event is raised in the group of its port. -/
  | crossingFifoError (t : Nat) (x : Crossing)
  /-- R315: A checker fires in a block that has no step of its own (rate council block, stand-in builder, shaper or timing wheel, audio block, housekeeping processor or watchdog, fault collector), or the die bridge retries. -/
  | blockCheckerEvent (t : Nat) (b : Block)
  /-- R315: An RS-FEC decoder on an Ethernet or Flue receiver meets a codeword it cannot correct, which is counted and raises group 5 or 6 source 11. -/
  | uncorrectableFecCodeword (t : Nat) (port : FecPort)
  /-- R220: PPS_OUT falls after PPS_WIDTH, or FRAME_OUT falls 1 µs after its rise. -/
  | timeOutputPulseEnd (t : Nat) (which : Fin 2)
  /-- R361: A blink phase of an LED in Blink or State mode ends, and the output turns on or off. -/
  | ledBlinkTimer (t : Nat) (n : Fin 4)
  /-- R351: VIN reaches 34.0 V while a wake is deferred in BANKED, and the deferred wake proceeds. -/
  | wakeDeferralEnd (t vin : Nat)
  /-- R413: 1 ms after START takes effect with no channel enabled, STATE becomes LIT. -/
  | startNoChannelTimer (t : Nat)
  /-- R298: In each command slot, a DRAM subchannel chooses and issues a command by the order of R298, including in-order banks, write mode and migration accesses. -/
  | dramCommandSlot (t : Nat) (ch : Fin 8) (sub : Fin 2) (arrivals : List DramReq)
deriving DecidableEq, Repr

end Sys2Proof
end

