-- ==== Sys2Proof/Decode.lean ====
section
/-!
DEFINITION. The commands that a word spells: none, since the table of commands gives no row bits.
-/
namespace Sys2Proof

/-- The command that the bits `w` of a row of `nbits` bits spell: no row of the table has bits. -/
def decodeTableWord (_nbits _w : Nat) : Option Instr := none

end Sys2Proof
end

