-- ==== Sys2Proof/Machine/Bytes.lean ====
section
/-!
DEFINITION. Byte order, checksums and exact arithmetic that several chapters share: little-endian numbers (R3),
the CRC-16 of Granil frames (R378), the CRC-32C of R144, and the roundings the spec names.
-/
namespace Sys2Proof

/-- The number that bytes spell, least significant byte first (R3). -/
def leNat : List Byte → Nat
  | [] => 0
  | b :: bs => b.toNat + 256 * leNat bs

/-- `n` bytes of a number, least significant byte first (R3). -/
def leBytes : Nat → Nat → List Byte
  | 0, _ => []
  | n + 1, v => BitVec.ofNat 8 v :: leBytes n (v / 256)

/-- `n` bytes of a number, most significant byte first (R231, R403). -/
def beBytes (n v : Nat) : List Byte := (leBytes n v).reverse

/-- The number in bytes `lo` to `hi` of a little-endian record. -/
def fieldAt (bs : List Byte) (hi lo : Nat) : Nat := leNat ((bs.drop lo).take (hi + 1 - lo))

/-- Record `i` of a BLOCK of `w`-byte records. -/
def recAt (bs : List Byte) (w i : Nat) : List Byte := (bs.drop (w * i)).take w

/-- Bits `hi` to `lo` of a number. -/
def bitsOf (v hi lo : Nat) : Nat := (v >>> lo) % 2 ^ (hi + 1 - lo)

/-- A number of `w` bits read as two's complement (Table 16-1). -/
def signed (w v : Nat) : Int := if v < 2 ^ (w - 1) then (v : Int) else (v : Int) - (2 ^ w : Nat)

/-- An integer as `w` bits of two's complement. -/
def unsigned (w : Nat) (i : Int) : Nat := (i % ((2 ^ w : Nat) : Int)).toNat

/-- Adding to a saturating counter of `w` bits. -/
def satAdd (w v d : Nat) : Nat := min (v + d) (2 ^ w - 1)

/-- The smallest whole number not below a / b. -/
def ceilDiv (a b : Nat) : Nat := (a + b - 1) / b

/-- a / b rounded to the nearest whole number, halves up. -/
def roundDiv (a b : Nat) : Nat := (2 * a + b) / (2 * b)

/-- a / b rounded to the nearest whole number, halves away from 0 (R214). -/
def roundDivInt (a : Int) (b : Nat) : Int :=
  if a < 0 then - ((2 * (-a) + b) / (2 * b)) else (2 * a + b) / (2 * b)

def clampInt (v lo hi : Int) : Int := max lo (min v hi)

def clampNat (v lo hi : Nat) : Nat := max lo (min v hi)

/-- One bit of CRC-16 with polynomial 0x1021, no reflection (R378). -/
def crc16Bit (c : Nat) : Nat := if c ≥ 0x8000 then ((c * 2) % 0x10000) ^^^ 0x1021 else c * 2

def crc16Bits : Nat → Nat → Nat
  | 0, c => c
  | n + 1, c => crc16Bits n (crc16Bit c)

def crc16Go : Nat → List Byte → Nat
  | c, [] => c
  | c, b :: bs => crc16Go (crc16Bits 8 (c ^^^ (b.toNat * 256))) bs

/-- CRC-16 of a Granil frame (R378): initial value 0xFFFF, no final exclusive-or. -/
def crc16 (bs : List Byte) : Nat := crc16Go 0xFFFF bs

/-- One bit of CRC-32C, reflected form of polynomial 0x1EDC_6F41 (R144). -/
def crc32cBit (c : Nat) : Nat := if c % 2 = 1 then (c / 2) ^^^ 0x82F63B78 else c / 2

def crc32cBits : Nat → Nat → Nat
  | 0, c => c
  | n + 1, c => crc32cBits n (crc32cBit c)

def crc32cGo : Nat → List Byte → Nat
  | c, [] => c
  | c, b :: bs => crc32cGo (crc32cBits 8 (c ^^^ b.toNat)) bs

/-- CRC-32C (R144): initial value and final exclusive-or 0xFFFF_FFFF. -/
def crc32c (bs : List Byte) : Nat := (crc32cGo 0xFFFFFFFF bs) ^^^ 0xFFFFFFFF

/-- The bytes of an ASCII text. -/
def asciiBytes (s : String) : List Byte := s.toList.map (fun c => BitVec.ofNat 8 c.toNat)

/-- How many more bytes the UTF-8 sequence that this byte opens has; `none` when it opens none. -/
def utf8Tail (b : Nat) : Option Nat :=
  if b < 0x80 then some 0
  else if 0xC2 ≤ b ∧ b ≤ 0xDF then some 1
  else if 0xE0 ≤ b ∧ b ≤ 0xEF then some 2
  else if 0xF0 ≤ b ∧ b ≤ 0xF4 then some 3
  else none

/-- Whether the second byte of a sequence is one UTF-8 allows after its first. -/
def utf8Second (b c : Nat) : Bool :=
  if b = 0xE0 then decide (0xA0 ≤ c ∧ c ≤ 0xBF)
  else if b = 0xED then decide (0x80 ≤ c ∧ c ≤ 0x9F)
  else if b = 0xF0 then decide (0x90 ≤ c ∧ c ≤ 0xBF)
  else if b = 0xF4 then decide (0x80 ≤ c ∧ c ≤ 0x8F)
  else decide (0x80 ≤ c ∧ c ≤ 0xBF)

/-- Valid UTF-8 (R370): `want` continuation bytes are still due, the next one after `prev` when `fst`. -/
def utf8Go : Nat → Bool → Nat → List Byte → Bool
  | want, _, _, [] => want == 0
  | 0, _, _, b :: bs =>
    match utf8Tail b.toNat with
    | some n => utf8Go n true b.toNat bs
    | none => false
  | want + 1, fst, prev, b :: bs =>
    (if fst then utf8Second prev b.toNat else decide (0x80 ≤ b.toNat ∧ b.toNat ≤ 0xBF))
      && utf8Go want false prev bs

def utf8Ok (bs : List Byte) : Bool := utf8Go 0 false 0 bs

/-- Whether no entry of a list stands in it twice. -/
def noRepeat : List Nat → Bool
  | [] => true
  | a :: as => !(as.contains a) && noRepeat as

/-- The first number below `n` with a property. -/
def firstBelow (n : Nat) (p : Nat → Bool) : Option Nat := (List.range n).find? p

/-- How many numbers below `n` have a property. -/
def countBelow (n : Nat) (p : Nat → Bool) : Nat := ((List.range n).filter p).length

def sumList (xs : List Nat) : Nat := xs.foldl (· + ·) 0

def maxList (xs : List Nat) : Nat := xs.foldl max 0

/-- Bit `i` of a bitmap. -/
def bitAt (v i : Nat) : Bool := v.testBit i

/-- A bitmap with bit `i` set or cleared. -/
def setBit (v i : Nat) (b : Bool) : Nat :=
  if v.testBit i then (if b then v else v - 2 ^ i) else (if b then v + 2 ^ i else v)

/-- The binary logarithm, rounded down, of a number below 2 ^ fuel; 0 for 0 and 1. -/
def log2Go : Nat → Nat → Nat
  | 0, _ => 0
  | n + 1, v => if v ≤ 1 then 0 else 1 + log2Go n (v / 2)

end Sys2Proof
end

