-- ==== Sys2Proof/Config.lean ====
section
/-!
DEFINITION. What one implementation fixes and the spec leaves open: free values, opaque constants without a body, of
which no proof can see a value; and the default tables that the spec states by a formula.
-/
namespace Sys2Proof.Config

/-- A value the spec leaves open after an operation that goes on, by the number of the draw. A free value. -/
opaque freeValue (n : Nat) : BitVec 64

/-- What a counter object reads when it is advanced past its width: the spec states no result. A free value. -/
opaque counterPast (key value : Nat) : Nat

/-- Entry i of the default LUT ramp (R143). -/
def rampEntry (i : Nat) : Nat := (i * 65535 + 2047) / 4095

/-- Default LUT: the ramp, for each of three components (R138, R143). -/
def lutRamp : List Byte :=
  (List.replicate 3 ((List.range 4096).flatMap (fun i => leBytes 2 (rampEntry i)))).flatten

/-- Default matrix: the identity (R143, Table 5-4). -/
def matIdentity : List Byte :=
  (List.range 9).flatMap (fun i => leBytes 4 (if i % 4 = 0 then 65536 else 0)) ++ List.replicate 12 0

/-- The 64 × 8 horizontal and 64 × 6 vertical coefficients of the Lanczos and bicubic default banks: Table 5-2 names
the filters, not their roundings. Free values, within what R133 and the kernels fix (`phaseTaps`). -/
opaque filterCoef (bank : Nat) (vertical : Bool) (phase tap : Nat) : BitVec 16

/-- 256 times the bicubic kernel with B = 0 and C = 0.5 at a distance of u / 64 samples, in units of 1/2048. -/
def bicubic (u : Nat) : Int :=
  let v : Int := u
  if u < 64 then 524288 + 3 * v ^ 3 - 320 * v ^ 2
  else if u < 128 then 1048576 - v ^ 3 + 320 * v ^ 2 - 32768 * v
  else 0

/-- Taps that meet a bank where the free ones do not: bilinear for Lanczos, for bicubic the kernel rounded with the rest on the tap at
the sample itself. -/
def plainTap (bank first phase n tap : Nat) : Int :=
  let at_ := fun (t : Nat) => (bicubic ((64 * t : Int) - (64 * first + phase : Nat)).natAbs + 1024) / 2048
  if bank ≠ 1 then (if tap = first then 256 - 4 * (phase : Int) else if tap = first + 1 then 4 * (phase : Int) else 0)
  else if tap = first then 256 - ((List.range n).filter (· ≠ first)).foldl (fun (a : Int) t => a + at_ t) 0
  else at_ tap

/-- The taps of a phase of the Lanczos (0) and bicubic (1) banks: at phase 0 the sample itself, else free values from −512 to 511 that
sum to 256 (R133), for the bicubic within 1 of its kernel (assumption 49). -/
def phaseTaps (bank : Nat) (vertical : Bool) (phase : Nat) : List Int :=
  let n := if vertical then 6 else 8
  let first := if vertical then 2 else 3
  let free := (List.range n).map (fun t => (filterCoef bank vertical phase t).toInt)
  let near := fun (t : Nat) (c : Int) =>
    decide (bank ≠ 1) || decide ((2048 * c - bicubic ((64 * t : Int) - (64 * first + phase : Nat)).natAbs).natAbs ≤ 2048)
  if phase = 0 then (List.range n).map (fun t => if t = first then 256 else 0)
  else if free.all (fun c => decide (-512 ≤ c ∧ c ≤ 511)) && decide (free.foldl (· + ·) 0 = 256) &&
      (List.range n).all (fun t => near t (free.getD t 0)) then free
  else (List.range n).map (plainTap bank first phase n)

/-- A default coefficient (Table 5-2); `tap` counts from the first tap of the phase. -/
def coefAt (bank : Nat) (vertical : Bool) (phase tap : Nat) : Nat :=
  let first := if vertical then 2 else 3
  if bank = 2 then (if tap = first then 256 - 4 * phase else if tap = first + 1 then 4 * phase else 0)
  else if bank = 3 then
    (if tap = first then (if phase < 32 then 256 else 0)
     else if tap = first + 1 then (if phase < 32 then 0 else 256) else 0)
  else unsigned 16 ((phaseTaps bank vertical phase).getD tap 0)

/-- A default coefficient bank of 1,792 bytes (R133, Table 5-2). -/
def coefDefault (bank : Nat) : List Byte :=
  (List.range 64).flatMap (fun p => (List.range 8).flatMap (fun i => leBytes 2 (coefAt bank false p i))) ++
  (List.range 64).flatMap (fun p => (List.range 6).flatMap (fun i => leBytes 2 (coefAt bank true p i)))

/-- An action record with ACTION 0x00 and EVENT_LINE 0xFF (Tables 15-1 and 15-2). -/
def actionRecordDefault : List Byte := BitVec.ofNat 8 0xFF :: List.replicate 7 0

/-- Whether a 64-byte line of a stored picture, by its address, holds a sample of a plane: the spec does not give the layout of a picture
in DRAM. Free values. -/
opaque lineHolds (line plane x y : Nat) : Bool

/-- Entry `i` of a preset matrix record (R143): nine coefficients in Q15.16, then three offsets. `kind` 0 input, 1 gamut,
2 post-blend, 3 output; `args` the colour codes, sampling, range and depth it depends on. The standards R143 names give
the coefficients, not their roundings. Free values. -/
opaque presetMatrix (kind : Nat) (args : List Nat) (i : Nat) : BitVec 32

/-- Entry `i` of component `ch` of a preset LUT (R143): `kind` 0 pre-blend, 1 post-blend; `args` the colour code,
LIN_PEAK and SDR_WHITE. Free values, as above. -/
opaque presetLut (kind : Nat) (args : List Nat) (ch i : Nat) : BitVec 16

/-- q_own, the QP in 1/16 steps at which a stripe would spend its target (R71), from the complexity, the target and the
last coded stripes' bits, complexities and QPs: the spec does not give the model's form. A free value. -/
opaque qOwn (args : List Nat) : BitVec 16

/-- The size the same model predicts at a QP, in 2^-16 bit (R71). A free value. -/
opaque predictBits (args : List Nat) : Nat

/-- Coded bits and unfiltered reconstruction of a job, from the inputs that R72 and R110 allow; the samples that its filters, or the
seam filter, finish, from the unfiltered samples on both sides (R102); the CRC-32C of a slice from its jobs; the temporal-candidate
hint bit of R89. Free values: the encoder's choices are not specified. -/
opaque codedBits (args : List Nat) : Nat
opaque recon (args : List Nat) : Nat
opaque filtered (args : List Nat) : Nat
opaque sliceCrc (args : List Nat) : BitVec 32
opaque standInHint (args : List Nat) : Bool

/-- Size in bytes of a NAL unit that the module writes from a template, by its kind and the values fixed in it (R88, R92, R95, R97),
and the token of the bytes of any NAL unit, from the same values. Free values: R88 to R97 fix what is in them, not how many bytes
they take. -/
opaque nalSize (args : List Nat) : Nat
opaque nalToken (args : List Nat) : Nat

/-- Byte `i` of the NAL unit a token stands for, past its header (R177). Free values. -/
opaque codedByte (token i : Nat) : BitVec 8

/-- The longest a DRAM row may stay open (tRAS maximum, R295), in 1/36 ns; the activate count at which a bank needs RFM, which
the devices report (R307); the first byte of the SRAM row that holds an offset (R311). Free values. -/
opaque trasMax : Nat
opaque rfmThreshold (ch sub : Nat) : Nat
opaque sramRow (off : Nat) : Nat

/-- The thermal model of R343, whose network the spec does not give: temperature of a node (24 and 25 the spare positions) from
the temperatures before, the rail powers and the activity; the power of a node; and the correction that a node without
a diode takes from those of the four diode nodes. Free values. -/
opaque thermalStep (stove node : Nat) (temps : List Int) (rails activity : List Nat) : Int
opaque nodePower (stove node : Nat) (rails activity : List Nat) : Nat
opaque corrBetween (stove node : Nat) (corrs : List Int) : Int

/-- A limit of a level in the level tables of ITU-T H.266 or H.265 (R56), by codec, general_level_idc and tier: 0 luma picture size,
1 luma sample rate, 2 bit rate in bit/s, 3 CPB size in bits, 4 tile columns, 5 tile rows, 6 slices in a picture. Free values: the
tables are not in the spec. -/
opaque levelLimit (hevc : Bool) (level : Nat) (high : Bool) (limit : Nat) : Nat

/-- The bytes of a parameter set after its NAL unit header, from the fields of Table 2-5 and Table 2-4 (R53 to R55): the syntax is
that of the ITU-T recommendations. Free values. -/
opaque paramBytes (kind : Nat) (fields : List Nat) : List (BitVec 8)

/-- PTP domain in a ts-refclk line when the servo follows no ST 2059-2 instance, and the twin's address of a leg (R181, R280).
Free values. -/
opaque sdpDomain (source : Nat) : Nat
opaque twinAddr (entry leg : Nat) : BitVec 32

/-- Bytes of DRAM that the structures of R292 take whose number and packing the spec does not give: the buffers of a canvas
window, of a flow, and of an input whose size a commit does not know. Free values. -/
opaque canvasBytes (args : List Nat) : Nat
opaque flowBytes (args : List Nat) : Nat
opaque inputBytes (kind bufs : Nat) : Nat

/-- Pixel rate, times 1001, at which a capture unit counts an input whose format no object states (R150): an HDMI sink (0) or a
relay-in slot (1). A free value. -/
opaque captureRate (kind : Nat) : Nat

/-- The SCDC offset at which Max_FRL_Rate reads (R159 names the field and not its place). A free value. -/
opaque scdcMaxFrlAt : Nat

/-- What manufacture fixes: SERIAL, HW_REVISION, ROM_VERSION (Table 16-10), and the revoked keys. Free values. -/
opaque serial : BitVec 64
opaque hwRevision : BitVec 32
opaque romVersion : BitVec 32
opaque keyRevoked (index : Nat) : Bool

/-- Whether a firmware image's signature over its header holds under a key, and whether its body has the header's hash (R403:
ECDSA on P-384 and SHA-384, which the spec takes from FIPS 186-5). Free values. -/
opaque signatureOk (key : Nat) (header signature : List (BitVec 8)) : Bool
opaque bodyHashOk (hash body : List (BitVec 8)) : Bool

/-- A converter's output for a channel from the input samples around a capture instant (R227): the filter is not given.
A free value. -/
opaque asrcOut (args : List Int) : Int

/-- What a ratio loop of bandwidth ASRC_BW makes of a capture instant's error against its prediction, both in 2^-40 ns (R227): its
second-order gains are not given. `which` is 0 for the prediction, 1 for the period. A free value. -/
opaque asrcLoop (which bw : Nat) (err : Int) : Int

end Sys2Proof.Config
end

