-- ==== Sys2Proof/Machine/Events.lean ====
section
/-!
DEFINITION. The 640 event sources of Table 13-1 (R315): class of each source, and whether it is a condition.
-/
namespace Sys2Proof.Machine

/-- Source number of bit b of group g (R315). -/
def src (g b : Nat) : Nat := 32 * g + b

/-- The entries of one group of Table 13-1: bits lo to hi, class, condition. -/
def evGroup : Nat → List (Nat × Nat × Nat × Bool)
  | 0 => [(0, 3, 0, false), (4, 4, 0, true), (5, 5, 0, false), (6, 6, 0, true), (7, 7, 0, false)]
  | 1 => [(0, 3, 2, true), (4, 4, 4, true), (5, 6, 5, false), (7, 8, 4, true), (9, 10, 0, false), (11, 11, 2, true)]
  | 2 => [(0, 1, 0, true), (2, 3, 2, true), (4, 5, 5, false), (6, 19, 2, true), (20, 21, 4, true), (22, 23, 1, false),
          (24, 31, 4, true)]
  | 3 => [(0, 1, 5, false), (2, 2, 1, false), (3, 3, 0, false), (4, 4, 2, false), (5, 5, 2, true), (6, 6, 2, false),
          (7, 7, 0, false), (8, 8, 2, true), (9, 9, 2, false), (10, 14, 0, false), (15, 15, 2, false)]
  | 4 => [(0, 2, 2, true), (3, 11, 2, false), (12, 12, 0, false), (13, 16, 3, true)]
  | 5 | 6 => [(0, 4, 2, true), (5, 9, 3, true), (10, 10, 2, true), (11, 11, 1, false), (12, 12, 2, false),
          (13, 13, 2, true), (14, 14, 0, false)]
  | 7 => [(0, 17, 2, false), (18, 19, 2, true), (20, 30, 2, false)]
  | 8 => [(0, 31, 2, false)]
  | 9 | 10 => [(0, 3, 3, false), (4, 19, 3, true), (20, 20, 4, false), (21, 21, 1, false), (22, 22, 4, false)]
  | 11 => [(0, 7, 2, false), (8, 15, 2, true), (16, 31, 3, true)]
  | 12 => [(0, 0, 2, false), (1, 1, 3, false), (2, 2, 2, false), (3, 3, 4, false)]
  | 13 | 14 => (List.range 4).flatMap (fun c =>
          [(8 * c, 8 * c + 1, 1, false), (8 * c + 2, 8 * c + 2, 2, false), (8 * c + 3, 8 * c + 3, 4, true),
           (8 * c + 4, 8 * c + 5, 2, false), (8 * c + 6, 8 * c + 6, 3, false), (8 * c + 7, 8 * c + 7, 2, true)])
  | 15 => (List.range 2).flatMap (fun s =>
          [(8 * s, 8 * s, 1, false), (8 * s + 1, 8 * s + 1, 2, false), (8 * s + 2, 8 * s + 2, 4, false),
           (8 * s + 3, 8 * s + 3, 2, false), (8 * s + 4, 8 * s + 4, 3, false), (8 * s + 5, 8 * s + 5, 5, false)])
  | 16 => [(0, 11, 2, false), (12, 15, 3, true), (16, 21, 2, false)]
  | 17 => [(0, 23, 2, false), (24, 24, 3, false)]
  | 18 => [(0, 7, 0, false), (8, 8, 2, true), (9, 12, 0, false), (16, 31, 0, false)]
  | 19 => [(0, 0, 0, false), (1, 3, 4, false), (4, 4, 2, false), (5, 6, 0, false), (7, 8, 0, true), (9, 9, 5, false),
          (10, 10, 2, false)]
  | _ => []

/-- The entry of a source; unused bits have none. -/
def evEntry (s : Nat) : Option (Nat × Nat × Nat × Bool) :=
  (evGroup (s / 32)).find? (fun e => decide (e.1 ≤ s % 32) && decide (s % 32 ≤ e.2.1))

/-- The fixed class of a source (R315). -/
def evClass (s : Nat) : Nat :=
  match evEntry s with
  | some e => e.2.2.1
  | none => 0

/-- Whether a source is a condition, marked c in Table 13-1. -/
def evCond (s : Nat) : Bool :=
  match evEntry s with
  | some e => e.2.2.2
  | none => false

/-- Whether a source is listed in Table 13-1; unused bits are never set. -/
def evUsed (s : Nat) : Bool := (evEntry s).isSome

/-- The entry of CLASSES: the class, 0xFF unused (Table 13-8). -/
def classCode (s : Nat) : Nat := if evUsed s then evClass s else 0xFF

/-- Default ALERT_EN of a group: the bits of class 2 and above (Tables 13-3 and 13-8). -/
def alertDefault (g : Nat) : Nat :=
  (List.range 32).foldl (fun a b => if evUsed (32 * g + b) && decide (2 ≤ evClass (32 * g + b)) then a + 2 ^ b else a) 0

end Sys2Proof.Machine
end

