-- ==== Sys2Proof/Machine/Tbl.lean ====
section
/-!
DEFINITION. Sparse tables in one canonical form: reading, writing, and the check that the form holds.
-/
namespace Sys2Proof

/-- Reading entry `j`; an unlisted entry reads as the table's default `d`. -/
def Tbl.get {α : Type} (d : α) : Tbl α → Nat → α
  | [], _ => d
  | (k, v) :: m, j => if j = k then v else Tbl.get d m j

/-- The table without entry `j`. -/
def Tbl.erase {α : Type} : Tbl α → Nat → Tbl α
  | [], _ => []
  | (k, v) :: m, j => if j = k then Tbl.erase m j else (k, v) :: Tbl.erase m j

/-- Entry `j` put in its place by number. -/
def Tbl.insert {α : Type} : Tbl α → Nat → α → Tbl α
  | [], j, w => [(j, w)]
  | (k, v) :: m, j, w => if j < k then (j, w) :: (k, v) :: m else (k, v) :: Tbl.insert m j w

/-- Writing entry `j`; writing the default removes it, so that equal tables are equal lists. -/
def Tbl.put {α : Type} [DecidableEq α] (d : α) (m : Tbl α) (j : Nat) (v : α) : Tbl α :=
  if v = d then m.erase j else (m.erase j).insert j v

/-- Changing entry `j` by `f`. -/
def Tbl.upd {α : Type} [DecidableEq α] (d : α) (m : Tbl α) (j : Nat) (f : α → α) : Tbl α :=
  m.put d j (f (m.get d j))

/-- Keys rise strictly. -/
def Tbl.rising {α : Type} : Tbl α → Bool
  | [] => true
  | [_] => true
  | (j, _) :: (k, w) :: m => decide (j < k) && Tbl.rising ((k, w) :: m)

/-- The canonical form: keys rise strictly and no entry is the default. -/
def Tbl.wf {α : Type} [DecidableEq α] (d : α) (m : Tbl α) : Bool :=
  m.rising && m.all (fun e => decide (e.2 ≠ d))

/-- The number of a fixed-size value; 0 for bytes. -/
def Val.nat : Val → Nat
  | .n v => v
  | .b _ => 0

/-- The bytes of a STR or BLOCK value; none for a number. -/
def Val.blk : Val → List Byte
  | .n _ => []
  | .b bs => bs

end Sys2Proof
end

