-- ==== Sys2Proof/Machine/Dict.lean ====
section
/-!
DEFINITION. The object dictionary (chapter "The object dictionary and Granil access", R369 to R377, R397): one row
for each object of the owning chapters' tables, with its type, access code, write level, default, range, size rule
and boundary of application.
-/
namespace Sys2Proof.Machine

/-- Object types of Table 16-1. -/
inductive Ty where
  | bool | u8 | u16 | u32 | u64 | i16 | i32 | i64 | q | time | str | block
deriving DecidableEq, Repr

/-- Access codes of Table 16-2. -/
inductive Acc where
  | ro | rw | rs | wo | rc
deriving DecidableEq, Repr

/-- Ranges that name other objects, or that a rule gives for the fields of a BLOCK (R441). -/
inductive Chk where
  | members | retireReq | layerSource | lut | matrix | coefBank | regionTable | edid | colourFull | relayDest
  | frameSel | lineSel | portMode | flowTx | adminList | adminExt | pir | meterActions | sourceOrder | channelMap
  | enumTable | release | injTarget | injPattern | throttleLimit | wearWarn | keyActions | ledOnTime | ledPeriod
  | zoneTable | plugActions | remoteAction | levelReq | mgmtAllow | flowRc
deriving DecidableEq, Repr

/-- The Range column of an object (R441). -/
inductive Rng where
  | any
  | span (lo hi : Nat)
  | orSpan (also : List Nat) (lo hi : Nat)
  | step (lo hi m : Nat)
  | oneOf (vs : List Nat)
  | int (lo hi : Int)
  | mask (reserved : Nat)
  | chk (c : Chk)
deriving DecidableEq, Repr

/-- The Default column of an object; a dash is 0 or empty. -/
inductive Dflt where
  | num (v : Nat)
  | bytes (vs : List Nat)
  | zeros (n : Nat)
  | sames (n v : Nat)
  | text (s : String)
  | lutRamp | matIdentity | coefTable | regionDflt | flowTxDflt | flowRcDflt | actionsDflt (n : Nat)
  | alertDflt | maskDflt | ageDflt | classes
deriving DecidableEq, Repr

/-- One object, or one object of each of `cnt` indices and of each subindex from `sub` to `subHi`. -/
structure Row where
  idx : Nat
  cnt : Nat
  sub : Nat
  subHi : Nat
  ty : Ty
  acc : Acc
  /-- The write level a table or rule gives in place of the default (R371). -/
  lvl : Option Nat
  dflt : Dflt
  rng : Rng
  /-- Smallest size, largest size and unit of size, in bytes. -/
  lo : Nat
  hi : Nat
  unit : Nat
  /-- APPLY of Table 16-4. -/
  apply : Nat
deriving DecidableEq, Repr

/-- Objects of Tables 2-7 and 2-8. -/
def rowsCanvas : List Row := [
  ⟨0x4000, 16, 0x01, 0x01, .bool, .rs, none, .num 0, .span 0 1, 1, 1, 1, 4⟩, -- CH_ENABLE
  ⟨0x4000, 16, 0x02, 0x02, .u16, .rs, none, .num 0, .span 0 65535, 2, 2, 1, 5⟩, -- CANVAS_TAG
  ⟨0x4000, 16, 0x03, 0x03, .u16, .rs, none, .num 0x780, .step 64 32768 8, 2, 2, 1, 5⟩, -- CANVAS_WIDTH
  ⟨0x4000, 16, 0x04, 0x04, .u16, .rs, none, .num 0x438, .step 64 32768 8, 2, 2, 1, 5⟩, -- CANVAS_HEIGHT
  ⟨0x4000, 16, 0x05, 0x05, .u8, .rs, none, .num 9, .span 1 12, 1, 1, 1, 5⟩, -- FRAME_RATE
  ⟨0x4000, 16, 0x06, 0x06, .u8, .rs, none, .num 1, .span 0 1, 1, 1, 1, 5⟩, -- PIXEL_FORMAT
  ⟨0x4000, 16, 0x07, 0x07, .u8, .rs, none, .num 0, .span 0 1, 1, 1, 1, 5⟩, -- CODEC
  ⟨0x4000, 16, 0x08, 0x08, .u8, .rs, none, .num 0x40, .oneOf [32, 64, 128], 1, 1, 1, 5⟩, -- CTU_SIZE
  ⟨0x4000, 16, 0x09, 0x09, .u8, .rs, none, .num 3, .span 0 64, 1, 1, 1, 5⟩, -- DELAY_D
  ⟨0x4000, 16, 0x0A, 0x0A, .i32, .rs, none, .num 0, .int (-20854167) 20854167, 4, 4, 1, 4⟩, -- FRAME_OFFSET
  ⟨0x4000, 16, 0x0B, 0x0B, .u8, .rs, none, .num 0xff, .any, 1, 1, 1, 5⟩, -- HEARTH_MASK
  ⟨0x4000, 16, 0x0C, 0x0C, .u16, .rs, none, .num 0, .orSpan [0] 8 65535, 2, 2, 1, 4⟩, -- REFRESH_PERIOD
  ⟨0x4000, 16, 0x0D, 0x0D, .u8, .rs, none, .num 4, .span 2 16, 1, 1, 1, 4⟩, -- REFRESH_PICS
  ⟨0x4000, 16, 0x0E, 0x0E, .bool, .rs, none, .num 0, .span 0 1, 1, 1, 1, 5⟩, -- MERGE_ENABLE
  ⟨0x4000, 16, 0x0F, 0x0F, .u16, .ro, none, .num 0, .any, 2, 2, 1, 0⟩, -- N_STRIPES
  ⟨0x4000, 16, 0x10, 0x10, .u64, .ro, none, .num 0, .any, 8, 8, 1, 0⟩, -- STRIPE_PERIOD
  ⟨0x4000, 16, 0x11, 0x11, .u8, .ro, none, .num 0, .any, 1, 1, 1, 0⟩, -- D_MIN
  ⟨0x4000, 16, 0x12, 0x12, .u8, .ro, none, .num 0, .any, 1, 1, 1, 0⟩, -- LC
  ⟨0x4000, 16, 0x13, 0x13, .u32, .ro, none, .num 0, .any, 4, 4, 1, 0⟩, -- CANVAS_DELAY
  ⟨0x4000, 16, 0x14, 0x14, .u64, .ro, none, .num 0, .any, 8, 8, 1, 0⟩, -- ENC_RATE
  ⟨0x4000, 16, 0x15, 0x15, .u8, .ro, none, .num 0, .any, 1, 1, 1, 0⟩, -- CH_STATE
  ⟨0x4000, 16, 0x16, 0x16, .u64, .ro, none, .num 0, .any, 8, 8, 1, 0⟩, -- FRAME_COUNT
  ⟨0x5000, 4096, 0x01, 0x01, .bool, .rs, none, .num 0, .span 0 1, 1, 1, 1, 4⟩, -- FLOW_ENABLE
  ⟨0x5000, 4096, 0x02, 0x02, .u8, .rs, none, .num 0, .span 0 15, 1, 1, 1, 5⟩] -- FLOW_CHANNEL

/-- Objects of Tables 2-7 and 2-8. -/
def rowsCanvas1 : List Row := [
  ⟨0x5000, 4096, 0x03, 0x03, .u8, .rs, none, .num 0, .span 0 1, 1, 1, 1, 5⟩, -- FLOW_KIND
  ⟨0x5000, 4096, 0x04, 0x04, .u32, .rs, none, .num 0x4e20, .span 1000 2000000, 4, 4, 1, 5⟩, -- FLOW_RATE
  ⟨0x5000, 4096, 0x05, 0x05, .u16, .rs, none, .num 0, .step 0 32704 8, 2, 2, 1, 5⟩, -- GROUP_X
  ⟨0x5000, 4096, 0x06, 0x06, .u16, .rs, none, .num 0, .step 0 32704 8, 2, 2, 1, 5⟩, -- GROUP_Y
  ⟨0x5000, 4096, 0x07, 0x07, .u16, .rs, none, .num 0x40, .step 64 4096 8, 2, 2, 1, 5⟩, -- GROUP_W
  ⟨0x5000, 4096, 0x08, 0x08, .u16, .rs, none, .num 0x40, .step 64 2176 8, 2, 2, 1, 5⟩, -- GROUP_H
  ⟨0x5000, 4096, 0x09, 0x09, .u8, .rs, none, .num 0, .step 0 62 2, 1, 1, 1, 5⟩, -- CROP_L
  ⟨0x5000, 4096, 0x0A, 0x0A, .u8, .rs, none, .num 0, .step 0 62 2, 1, 1, 1, 5⟩, -- CROP_R
  ⟨0x5000, 4096, 0x0B, 0x0B, .u8, .rs, none, .num 0, .span 0 62, 1, 1, 1, 5⟩, -- CROP_T
  ⟨0x5000, 4096, 0x0C, 0x0C, .u8, .rs, none, .num 0, .span 0 62, 1, 1, 1, 5⟩, -- CROP_B
  ⟨0x5000, 4096, 0x0D, 0x0D, .u8, .rs, none, .num 0xff, .orSpan [0xFF] 0 7, 1, 1, 1, 5⟩, -- FLOW_HEARTH
  ⟨0x5000, 4096, 0x0E, 0x0E, .u32, .rs, none, .num 0x4080200, .mask 0xC0000000, 4, 4, 1, 5⟩, -- FILL_COLOUR
  ⟨0x5000, 4096, 0x0F, 0x0F, .u16, .ro, none, .num 0, .any, 2, 2, 1, 0⟩, -- SUBPIC_INDEX
  ⟨0x5000, 4096, 0x10, 0x10, .u8, .ro, none, .num 0, .any, 1, 1, 1, 0⟩, -- PLACED_HEARTH
  ⟨0x5000, 4096, 0x11, 0x11, .u8, .ro, none, .num 0, .any, 1, 1, 1, 0⟩, -- SEG_WIDTH
  ⟨0x5000, 4096, 0x12, 0x12, .u8, .ro, none, .num 0, .any, 1, 1, 1, 0⟩, -- N_FLOW_STRIPES
  ⟨0x5000, 4096, 0x13, 0x13, .u16, .ro, none, .num 0, .any, 2, 2, 1, 0⟩, -- PROFILE_LEVEL
  ⟨0x5000, 4096, 0x14, 0x14, .block, .ro, none, .bytes [], .any, 0, 4096, 1, 0⟩, -- PARAM_SETS
  ⟨0x5000, 4096, 0x15, 0x15, .u8, .ro, none, .num 0, .any, 1, 1, 1, 0⟩] -- FLOW_STATE

/-- Objects of Tables 3-6 to 3-8. -/
def rowsRate : List Row := [
  ⟨0x4100, 16, 0x01, 0x01, .bool, .rs, none, .num 1, .span 0 1, 1, 1, 1, 5⟩, -- COUNCIL_ENABLE
  ⟨0x4100, 16, 0x02, 0x02, .block, .rs, none, .bytes [], .chk .members, 0, 2048, 2, 5⟩, -- MEMBERS
  ⟨0x4100, 16, 0x03, 0x03, .u16, .rs, none, .num 0xffff, .orSpan [0xFFFF] 0 1023, 2, 2, 1, 5⟩, -- ROOT_ID
  ⟨0x4100, 16, 0x04, 0x04, .u8, .rw, none, .num 0xc, .span 0 16, 1, 1, 1, 2⟩, -- PULL
  ⟨0x4100, 16, 0x05, 0x05, .u8, .rw, none, .num 6, .span 0 12, 1, 1, 1, 2⟩, -- OFFSET_LIMIT
  ⟨0x4100, 16, 0x06, 0x06, .u8, .rs, none, .num 8, .span 2 64, 1, 1, 1, 4⟩, -- LATE_LIMIT
  ⟨0x4100, 16, 0x07, 0x07, .u32, .ro, none, .num 0, .any, 4, 4, 1, 0⟩, -- ROUND_TRIP
  ⟨0x4100, 16, 0x08, 0x08, .u16, .ro, none, .num 0, .any, 2, 2, 1, 0⟩, -- DEPTH
  ⟨0x4100, 16, 0x09, 0x09, .u16, .ro, none, .num 0, .any, 2, 2, 1, 0⟩, -- ROOT_NOW
  ⟨0x4100, 16, 0x0A, 0x0A, .u8, .ro, none, .num 0, .any, 1, 1, 1, 0⟩, -- COUNCIL_STATE
  ⟨0x4100, 16, 0x0B, 0x0B, .u16, .ro, none, .num 0, .any, 2, 2, 1, 0⟩, -- ACTIVE_MEMBERS
  ⟨0x4100, 16, 0x0C, 0x0C, .u32, .rc, none, .num 0, .any, 4, 4, 1, 1⟩, -- LATE_ROUNDS
  ⟨0x4100, 16, 0x0D, 0x0D, .u32, .rc, none, .num 0, .any, 4, 4, 1, 1⟩, -- PARTIAL_ROUNDS
  ⟨0x4100, 16, 0x0E, 0x0E, .i16, .ro, none, .num 0, .any, 2, 2, 1, 0⟩, -- LAST_OFFSET
  ⟨0x4100, 16, 0x0F, 0x0F, .u32, .ro, none, .num 0, .any, 4, 4, 1, 0⟩, -- DEF_HASH
  ⟨0x4200, 16, 0x01, 0x01, .u8, .rw, none, .num 0, .span 0 3, 1, 1, 1, 2⟩, -- DRAUGHT_CEIL
  ⟨0x4200, 16, 0x02, 0x02, .u8, .ro, none, .num 0, .any, 1, 1, 1, 0⟩, -- DRAUGHT_NOW
  ⟨0x4200, 16, 0x03, 0x03, .u8, .ro, none, .num 0, .any, 1, 1, 1, 0⟩, -- DRAUGHT_CAUSE
  ⟨0x4200, 16, 0x04, 0x04, .bool, .rs, none, .num 1, .span 0 1, 1, 1, 1, 4⟩, -- DRAUGHT_ALIGN
  ⟨0x4200, 16, 0x05, 0x05, .u8, .rs, none, .num 1, .span 1 3, 1, 1, 1, 4⟩, -- HASH_TYPE
  ⟨0x4200, 16, 0x06, 0x06, .u32, .rc, none, .num 0, .any, 4, 4, 1, 1⟩, -- DRAUGHT_CHANGES
  ⟨0x4200, 16, 0x07, 0x07, .u64, .ro, none, .num 0, .any, 8, 8, 1, 0⟩, -- STRIPES_LOW
  ⟨0x4210, 1, 0x01, 0x01, .block, .rs, none, .flowRcDflt, .chk .flowRc, 16384, 16384, 1, 4⟩, -- FLOW_RC_TABLE
  ⟨0x4211, 1, 0x01, 0x01, .block, .ro, none, .zeros 65536, .any, 0, 65536, 1, 0⟩] -- FLOW_STANDINS

/-- Objects of Tables 3-6 to 3-8. -/
def rowsRate1 : List Row := [
  ⟨0x4211, 1, 0x02, 0x02, .bool, .wo, none, .num 0, .oneOf [1], 1, 1, 1, 1⟩] -- STANDINS_CLEAR

/-- Objects of Tables 4-4 to 4-7. -/
def rowsGrate : List Row := [
  ⟨0xC000, 1, 0x01, 0x01, .bool, .rw, none, .num 1, .span 0 1, 1, 1, 1, 1⟩, -- OBS_ENABLE
  ⟨0xC000, 1, 0x02, 0x02, .u16, .rw, none, .num 0x78, .span 1 65535, 2, 2, 1, 8⟩, -- OBS_PERIOD
  ⟨0xC000, 1, 0x03, 0x03, .bool, .wo, none, .num 0, .oneOf [1], 1, 1, 1, 1⟩, -- OBS_CLEAR
  ⟨0xC010, 8, 0x01, 0x01, .u8, .ro, none, .num 0, .any, 1, 1, 1, 0⟩, -- ACTIVE_WITHIES
  ⟨0xC010, 8, 0x02, 0x02, .u64, .ro, none, .num 0, .any, 8, 8, 1, 0⟩, -- ALLOC_LIMIT
  ⟨0xC010, 8, 0x03, 0x03, .u64, .ro, none, .num 0, .any, 8, 8, 1, 0⟩, -- ALLOC_RATE
  ⟨0xC010, 8, 0x04, 0x04, .u16, .ro, none, .num 0, .any, 2, 2, 1, 0⟩, -- LOAD
  ⟨0xC010, 8, 0x05, 0x05, .u16, .ro, none, .num 0, .any, 2, 2, 1, 0⟩, -- READY_MAX
  ⟨0xC010, 8, 0x06, 0x06, .block, .ro, none, .zeros 64, .any, 0, 64, 1, 0⟩, -- WAIT_HIST
  ⟨0xC010, 8, 0x07, 0x07, .i32, .ro, none, .num 0, .any, 4, 4, 1, 0⟩, -- SLACK_MIN
  ⟨0xC010, 8, 0x08, 0x08, .u32, .rc, none, .num 0, .any, 4, 4, 1, 1⟩, -- RERUNS
  ⟨0xC010, 8, 0x09, 0x09, .u32, .rc, none, .num 0, .any, 4, 4, 1, 1⟩, -- LATE_JOBS
  ⟨0xC010, 8, 0x0A, 0x0A, .u32, .rc, none, .num 0, .any, 4, 4, 1, 1⟩, -- REF_WAITS
  ⟨0xC010, 8, 0x0B, 0x0B, .u8, .ro, none, .num 0, .any, 1, 1, 1, 0⟩, -- SPARES_LEFT
  ⟨0xC020, 16, 0x01, 0x01, .u16, .rs, none, .num 0, .span 0 65535, 2, 2, 1, 4⟩, -- SHARE_WEIGHT
  ⟨0xC020, 16, 0x02, 0x02, .i32, .ro, none, .num 0, .any, 4, 4, 1, 0⟩, -- SLACK_MIN
  ⟨0xC020, 16, 0x03, 0x03, .block, .ro, none, .zeros 64, .any, 0, 64, 1, 0⟩, -- SLACK_HIST
  ⟨0xC020, 16, 0x04, 0x04, .bool, .ro, none, .num 0, .any, 1, 1, 1, 0⟩, -- REF_BOUND
  ⟨0xC020, 16, 0x05, 0x05, .u32, .rc, none, .num 0, .any, 4, 4, 1, 1⟩, -- LATE_SLICES
  ⟨0xC040, 1, 0x01, 0x01, .block, .ro, none, .bytes [], .any, 0, 4608, 1, 0⟩, -- WITHY_TABLE
  ⟨0xC041, 1, 0x01, 0x01, .u16, .wo, (some 2), .num 0, .chk .retireReq, 2, 2, 1, 1⟩] -- RETIRE_REQ

/-- Objects of Tables 5-7 to 5-10. -/
def rowsComp : List Row := [
  ⟨0x3000, 16, 0x01, 0x01, .u8, .rs, none, .num 0, .any, 1, 1, 1, 5⟩, -- PIPE_MASK
  ⟨0x3000, 16, 0x02, 0x02, .u8, .rs, none, .num 1, .span 1 6, 1, 1, 1, 5⟩, -- OUT_COLOUR
  ⟨0x3000, 16, 0x03, 0x03, .u8, .rs, none, .num 0, .span 0 1, 1, 1, 1, 5⟩, -- OUT_RANGE
  ⟨0x3000, 16, 0x04, 0x04, .u16, .rs, none, .num 0x3e8, .span 100 10000, 2, 2, 1, 4⟩, -- LIN_PEAK
  ⟨0x3000, 16, 0x05, 0x05, .u64, .rw, none, .num 0, .mask 0xFFFF000000000000, 8, 8, 1, 3⟩, -- BG_COLOUR
  ⟨0x3000, 16, 0x06, 0x06, .u8, .rs, none, .num 0, .mask 0xF8, 1, 1, 1, 4⟩, -- USER_COLOUR
  ⟨0x3000, 16, 0x07, 0x07, .u16, .rs, none, .num 0xffff, .orSpan [0xFFFF] 0 1023, 2, 2, 1, 4⟩, -- SAFETY_ITEM
  ⟨0x3000, 16, 0x08, 0x08, .bool, .wo, none, .num 0, .oneOf [1], 1, 1, 1, 3⟩, -- COMP_RELEASE
  ⟨0x3000, 16, 0x09, 0x09, .u8, .ro, none, .num 0, .any, 1, 1, 1, 0⟩, -- COMP_STATE
  ⟨0x3000, 16, 0x0A, 0x0A, .u8, .ro, none, .num 0, .any, 1, 1, 1, 0⟩, -- PIPES_PLACED
  ⟨0x3000, 16, 0x0B, 0x0B, .u16, .ro, none, .num 0, .any, 2, 2, 1, 0⟩, -- WINDOW_X
  ⟨0x3000, 16, 0x0C, 0x0C, .u16, .ro, none, .num 0, .any, 2, 2, 1, 0⟩, -- WINDOW_Y
  ⟨0x3000, 16, 0x0D, 0x0D, .u16, .ro, none, .num 0, .any, 2, 2, 1, 0⟩, -- WINDOW_W
  ⟨0x3000, 16, 0x0E, 0x0E, .u16, .ro, none, .num 0, .any, 2, 2, 1, 0⟩, -- WINDOW_H
  ⟨0x3000, 16, 0x0F, 0x0F, .u64, .ro, none, .num 0, .any, 8, 8, 1, 0⟩, -- COMP_RATE
  ⟨0x3000, 16, 0x10, 0x10, .block, .ro, none, .bytes [], .any, 0, 16, 1, 0⟩, -- BAND_EDGES
  ⟨0x3000, 16, 0x11, 0x11, .u32, .rc, none, .num 0, .any, 4, 4, 1, 1⟩, -- OVERRUNS
  ⟨0x3000, 16, 0x12, 0x12, .u16, .rs, none, .num 0xcb, .span 48 1000, 2, 2, 1, 4⟩, -- SDR_WHITE
  ⟨0x3100, 256, 0x01, 0x01, .bool, .rs, none, .num 0, .span 0 1, 1, 1, 1, 4⟩, -- LAYER_ENABLE
  ⟨0x3100, 256, 0x02, 0x02, .u8, .rs, none, .num 1, .chk .layerSource, 1, 1, 1, 4⟩, -- LAYER_SOURCE
  ⟨0x3100, 256, 0x03, 0x03, .u16, .rs, none, .num 0, .span 0 1023, 2, 2, 1, 4⟩, -- LAYER_ITEM
  ⟨0x3100, 256, 0x04, 0x04, .u8, .rs, none, .num 0, .span 0 1, 1, 1, 1, 4⟩, -- SCALE_MODE
  ⟨0x3100, 256, 0x05, 0x05, .u16, .rw, none, .num 0, .span 0 32767, 2, 2, 1, 3⟩, -- SRC_X
  ⟨0x3100, 256, 0x06, 0x06, .u16, .rw, none, .num 0, .span 0 32767, 2, 2, 1, 3⟩] -- SRC_Y

/-- Objects of Tables 5-7 to 5-10. -/
def rowsComp1 : List Row := [
  ⟨0x3100, 256, 0x07, 0x07, .u16, .rs, none, .num 0, .orSpan [0] 2 32768, 2, 2, 1, 4⟩, -- SRC_W
  ⟨0x3100, 256, 0x08, 0x08, .u16, .rs, none, .num 0, .orSpan [0] 2 32768, 2, 2, 1, 4⟩, -- SRC_H
  ⟨0x3100, 256, 0x09, 0x09, .i16, .rw, none, .num 0, .any, 2, 2, 1, 3⟩, -- DST_X
  ⟨0x3100, 256, 0x0A, 0x0A, .i16, .rw, none, .num 0, .any, 2, 2, 1, 3⟩, -- DST_Y
  ⟨0x3100, 256, 0x0B, 0x0B, .u16, .rs, none, .num 0x780, .step 2 32768 2, 2, 2, 1, 4⟩, -- DST_W
  ⟨0x3100, 256, 0x0C, 0x0C, .u16, .rs, none, .num 0x438, .step 2 32768 2, 2, 2, 1, 4⟩, -- DST_H
  ⟨0x3100, 256, 0x0D, 0x0D, .bool, .rw, none, .num 1, .span 0 1, 1, 1, 1, 3⟩, -- LAYER_SHOW
  ⟨0x3100, 256, 0x0E, 0x0E, .u16, .rw, none, .num 0x400, .span 0 1024, 2, 2, 1, 3⟩, -- LAYER_ALPHA
  ⟨0x3100, 256, 0x0F, 0x0F, .u8, .rs, none, .num 0, .span 0 1, 1, 1, 1, 4⟩, -- ALPHA_MODE
  ⟨0x3100, 256, 0x10, 0x10, .u8, .rw, none, .num 0, .mask 0xF0, 1, 1, 1, 3⟩, -- COEF_BANK
  ⟨0x3100, 256, 0x11, 0x11, .u8, .rs, none, .num 1, .span 1 7, 1, 1, 1, 4⟩, -- LAYER_COLOUR
  ⟨0x3100, 256, 0x12, 0x12, .u8, .rs, none, .num 0, .mask 0xF8, 1, 1, 1, 4⟩, -- USER_COLOUR
  ⟨0x3100, 256, 0x13, 0x13, .u8, .rw, none, .num 3, .span 0 255, 1, 1, 1, 3⟩, -- REPEAT_MAX
  ⟨0x3100, 256, 0x14, 0x14, .u8, .rw, none, .num 0, .span 0 1, 1, 1, 1, 3⟩, -- NR_ACTION
  ⟨0x3100, 256, 0x15, 0x15, .u64, .rw, none, .num 0, .mask 0xFFFF000000000000, 8, 8, 1, 3⟩, -- LAYER_FILL
  ⟨0x3100, 256, 0x16, 0x16, .u8, .ro, none, .num 0, .any, 1, 1, 1, 0⟩, -- LAYER_STATE
  ⟨0x3100, 256, 0x17, 0x17, .u32, .rc, none, .num 0, .any, 4, 4, 1, 1⟩, -- REPEATS
  ⟨0x3100, 256, 0x18, 0x18, .u8, .ro, none, .num 0, .any, 1, 1, 1, 0⟩, -- SCALERS
  ⟨0x3100, 256, 0x19, 0x19, .u32, .ro, none, .num 0, .any, 4, 4, 1, 0⟩, -- SRC_SIZE
  ⟨0x3800, 16, 0x01, 0x10, .block, .rw, none, .lutRamp, .chk .lut, 24576, 24576, 1, 3⟩, -- PRE_LUT of layer sub − 1
  ⟨0x3800, 16, 0x11, 0x11, .block, .rw, none, .lutRamp, .chk .lut, 24576, 24576, 1, 3⟩, -- POST_LUT
  ⟨0x3810, 16, 0x01, 0x10, .block, .rw, none, .matIdentity, .chk .matrix, 48, 48, 1, 3⟩, -- IN_MATRIX of layer sub − 1
  ⟨0x3810, 16, 0x11, 0x20, .block, .rw, none, .matIdentity, .chk .matrix, 48, 48, 1, 3⟩, -- GAMUT_MATRIX of layer sub − 0x11
  ⟨0x3810, 16, 0x21, 0x21, .block, .rw, none, .matIdentity, .chk .matrix, 48, 48, 1, 3⟩] -- POST_MATRIX

/-- Objects of Tables 5-7 to 5-10. -/
def rowsComp2 : List Row := [
  ⟨0x3810, 16, 0x22, 0x22, .block, .rw, none, .matIdentity, .chk .matrix, 48, 48, 1, 3⟩, -- OUT_MATRIX
  ⟨0x3820, 1, 0x01, 0x04, .block, .rw, none, .coefTable, .chk .coefBank, 1792, 1792, 1, 3⟩, -- COEF_BANK_k
  ⟨0x3830, 8, 0x01, 0x01, .u64, .ro, none, .num 0, .any, 8, 8, 1, 0⟩, -- PIPE_RATE
  ⟨0x3830, 8, 0x02, 0x02, .u8, .ro, none, .num 0, .any, 1, 1, 1, 0⟩, -- SCALERS_USED
  ⟨0x3830, 8, 0x03, 0x03, .u16, .ro, none, .num 0, .any, 2, 2, 1, 0⟩, -- PIPE_CHANNELS
  ⟨0x3830, 8, 0x04, 0x04, .u32, .rc, none, .num 0, .any, 4, 4, 1, 1⟩, -- PIPE_OVERRUNS
  ⟨0x3900, 16, 0x01, 0x01, .block, .rs, none, .regionDflt, .chk .regionTable, 1024, 1024, 1, 4⟩, -- REGION_TABLE
  ⟨0x3900, 16, 0x02, 0x02, .block, .rw, none, .zeros 256, .any, 256, 256, 1, 3⟩, -- EXPECTED
  ⟨0x3900, 16, 0x03, 0x03, .block, .ro, none, .zeros 1024, .any, 0, 1024, 1, 0⟩] -- REGION_STATUS

/-- Objects of Tables 6-7 to 6-11. -/
def rowsInput : List Row := [
  ⟨0x2000, 2, 0x01, 0x01, .bool, .rs, none, .num 0, .span 0 1, 1, 1, 1, 4⟩, -- HDMI_ENABLE
  ⟨0x2000, 2, 0x02, 0x02, .block, .rw, none, .bytes [], .chk .edid, 512, 512, 1, 8⟩, -- EDID
  ⟨0x2000, 2, 0x03, 0x03, .u8, .rs, none, .num 6, .span 0 6, 1, 1, 1, 4⟩, -- FRL_MAX
  ⟨0x2000, 2, 0x04, 0x04, .u16, .rw, none, .num 0x12c, .span 100 2000, 2, 2, 1, 8⟩, -- HPD_LOW_TIME
  ⟨0x2000, 2, 0x05, 0x05, .u8, .rs, none, .num 3, .span 3 8, 1, 1, 1, 5⟩, -- BUF_FRAMES
  ⟨0x2000, 2, 0x06, 0x06, .u8, .ro, none, .num 0, .any, 1, 1, 1, 0⟩, -- HDMI_STATE
  ⟨0x2000, 2, 0x07, 0x07, .u8, .ro, none, .num 0, .any, 1, 1, 1, 0⟩, -- LINK_MODE
  ⟨0x2000, 2, 0x08, 0x08, .u32, .ro, none, .num 0, .any, 4, 4, 1, 0⟩, -- VIDEO_SIZE
  ⟨0x2000, 2, 0x09, 0x09, .u32, .ro, none, .num 0, .any, 4, 4, 1, 0⟩, -- VIDEO_RATE
  ⟨0x2000, 2, 0x0A, 0x0A, .u8, .ro, none, .num 0, .any, 1, 1, 1, 0⟩, -- VIDEO_FORMAT
  ⟨0x2000, 2, 0x0B, 0x0B, .u8, .ro, none, .num 0, .any, 1, 1, 1, 0⟩, -- VIDEO_COLOUR
  ⟨0x2000, 2, 0x0C, 0x0C, .u32, .rc, none, .num 0, .any, 4, 4, 1, 1⟩, -- LOCK_LOSSES
  ⟨0x2000, 2, 0x0D, 0x0D, .u32, .rc, none, .num 0, .any, 4, 4, 1, 1⟩, -- FRL_ERRORS
  ⟨0x2000, 2, 0x0E, 0x0E, .u32, .rc, none, .num 0, .any, 4, 4, 1, 1⟩, -- FRAMES_SKIPPED
  ⟨0x2000, 2, 0x0F, 0x0F, .u32, .rc, none, .num 0, .any, 4, 4, 1, 1⟩, -- FRAMES_INCOMPLETE
  ⟨0x2100, 16, 0x01, 0x01, .bool, .rs, none, .num 0, .span 0 1, 1, 1, 1, 4⟩, -- IN_ENABLE
  ⟨0x2100, 16, 0x02, 0x02, .u8, .rs, none, .num 0, .span 0 9, 1, 1, 1, 5⟩, -- IN_PORT_A
  ⟨0x2100, 16, 0x03, 0x03, .u8, .rs, none, .num 0xff, .orSpan [0xFF] 0 9, 1, 1, 1, 5⟩, -- IN_PORT_B
  ⟨0x2100, 16, 0x04, 0x04, .u32, .rs, none, .num 0, .any, 4, 4, 1, 5⟩, -- DEST_A
  ⟨0x2100, 16, 0x05, 0x05, .u32, .rs, none, .num 0, .any, 4, 4, 1, 5⟩, -- DEST_B
  ⟨0x2100, 16, 0x06, 0x06, .u16, .rs, none, .num 0x138c, .span 1 65535, 2, 2, 1, 5⟩, -- UDP_A
  ⟨0x2100, 16, 0x07, 0x07, .u16, .rs, none, .num 0x138c, .span 1 65535, 2, 2, 1, 5⟩, -- UDP_B
  ⟨0x2100, 16, 0x08, 0x08, .u64, .rs, none, .num 0, .any, 8, 8, 1, 5⟩, -- SRC_FILTER
  ⟨0x2100, 16, 0x09, 0x09, .u8, .rs, none, .num 0x60, .span 96 127, 1, 1, 1, 5⟩] -- PAYLOAD_TYPE

/-- Objects of Tables 6-7 to 6-11. -/
def rowsInput1 : List Row := [
  ⟨0x2100, 16, 0x0A, 0x0A, .u8, .rs, none, .num 1, .span 1 4, 1, 1, 1, 5⟩, -- SAMPLING
  ⟨0x2100, 16, 0x0B, 0x0B, .u8, .rs, none, .num 0xa, .oneOf [8, 10, 12], 1, 1, 1, 5⟩, -- DEPTH
  ⟨0x2100, 16, 0x0C, 0x0C, .u16, .rs, none, .num 0x780, .step 64 16384 2, 2, 2, 1, 5⟩, -- IN_WIDTH
  ⟨0x2100, 16, 0x0D, 0x0D, .u16, .rs, none, .num 0x438, .span 64 8640, 2, 2, 1, 5⟩, -- IN_HEIGHT
  ⟨0x2100, 16, 0x0E, 0x0E, .u8, .rs, none, .num 9, .span 1 12, 1, 1, 1, 5⟩, -- IN_RATE
  ⟨0x2100, 16, 0x0F, 0x0F, .u8, .rs, none, .num 1, .chk .colourFull, 1, 1, 1, 5⟩, -- IN_COLOUR
  ⟨0x2100, 16, 0x10, 0x10, .u8, .rs, none, .num 0, .span 0 1, 1, 1, 1, 5⟩, -- PACKING
  ⟨0x2100, 16, 0x11, 0x11, .u8, .rs, none, .num 0, .span 0 1, 1, 1, 1, 4⟩, -- SYNC_MODE
  ⟨0x2100, 16, 0x12, 0x12, .u32, .rs, none, .num 0, .span 0 100000000, 4, 4, 1, 4⟩, -- LOCK_DELAY
  ⟨0x2100, 16, 0x13, 0x13, .u16, .rs, none, .num 0x3e8, .span 0 50000, 2, 2, 1, 5⟩, -- SKEW_MAX
  ⟨0x2100, 16, 0x14, 0x14, .u8, .rs, none, .num 3, .span 3 8, 1, 1, 1, 5⟩, -- BUF_FRAMES
  ⟨0x2100, 16, 0x15, 0x15, .u8, .ro, none, .num 0, .any, 1, 1, 1, 0⟩, -- IN_STATE
  ⟨0x2100, 16, 0x16, 0x16, .u8, .ro, none, .num 0, .any, 1, 1, 1, 0⟩, -- CAPTURE_UNIT
  ⟨0x2100, 16, 0x17, 0x17, .i32, .ro, none, .num 0, .any, 4, 4, 1, 0⟩, -- SKEW_NOW
  ⟨0x2100, 16, 0x18, 0x18, .u32, .rc, none, .num 0, .any, 4, 4, 1, 1⟩, -- PKTS_LOST
  ⟨0x2100, 16, 0x19, 0x19, .u32, .rc, none, .num 0, .any, 4, 4, 1, 1⟩, -- PKTS_LATE
  ⟨0x2100, 16, 0x1A, 0x1A, .u32, .rc, none, .num 0, .any, 4, 4, 1, 1⟩, -- PKTS_BAD
  ⟨0x2100, 16, 0x1B, 0x1B, .u32, .rc, none, .num 0, .any, 4, 4, 1, 1⟩, -- FRAMES_INCOMPLETE
  ⟨0x2100, 16, 0x1C, 0x1C, .u32, .rc, none, .num 0, .any, 4, 4, 1, 1⟩, -- FRAMES_SKIPPED
  ⟨0x2100, 16, 0x1D, 0x1D, .u32, .rc, none, .num 0, .any, 4, 4, 1, 1⟩, -- LATE_FRAMES
  ⟨0x2180, 8, 0x01, 0x01, .bool, .rs, none, .num 0, .span 0 1, 1, 1, 1, 4⟩, -- RELAY_ENABLE
  ⟨0x2180, 8, 0x02, 0x02, .u8, .rs, none, .num 0x10, .orSpan [0x20, 0x21] 0x10 0x1F, 1, 1, 1, 5⟩, -- RELAY_SOURCE
  ⟨0x2180, 8, 0x03, 0x03, .u64, .rs, none, .num 0, .any, 8, 8, 1, 5⟩, -- RELAY_CROP
  ⟨0x2180, 8, 0x04, 0x04, .block, .rs, none, .bytes [], .chk .relayDest, 2, 128, 2, 5⟩] -- RELAY_DEST

/-- Objects of Tables 6-7 to 6-11. -/
def rowsInput2 : List Row := [
  ⟨0x2180, 8, 0x05, 0x05, .u64, .ro, none, .num 0, .any, 8, 8, 1, 0⟩, -- RELAY_RATE
  ⟨0x2190, 8, 0x01, 0x01, .bool, .rs, none, .num 0, .span 0 1, 1, 1, 1, 4⟩, -- SLOT_ENABLE
  ⟨0x2190, 8, 0x02, 0x02, .u16, .rs, none, .num 0, .span 0 1023, 2, 2, 1, 5⟩, -- ORIGIN_ID
  ⟨0x2190, 8, 0x03, 0x03, .u8, .rs, none, .num 0, .span 0 7, 1, 1, 1, 5⟩, -- ORIGIN_ENTRY
  ⟨0x2190, 8, 0x04, 0x04, .u8, .rs, none, .num 0, .span 0 1, 1, 1, 1, 4⟩, -- SYNC_MODE
  ⟨0x2190, 8, 0x05, 0x05, .u32, .rs, none, .num 0, .span 0 100000000, 4, 4, 1, 4⟩, -- LOCK_DELAY
  ⟨0x2190, 8, 0x06, 0x06, .u8, .rs, none, .num 3, .span 3 8, 1, 1, 1, 5⟩, -- BUF_FRAMES
  ⟨0x2190, 8, 0x07, 0x07, .u8, .ro, none, .num 0, .any, 1, 1, 1, 0⟩, -- SLOT_STATE
  ⟨0x2190, 8, 0x08, 0x08, .u32, .rc, none, .num 0, .any, 4, 4, 1, 1⟩, -- FRAMES_INCOMPLETE
  ⟨0x2200, 1, 0x01, 0x01, .u8, .rw, none, .num 0, .span 0 2, 1, 1, 1, 1⟩, -- REF_MODE
  ⟨0x2200, 1, 0x02, 0x02, .u8, .rw, none, .num 2, .span 1 3, 1, 1, 1, 1⟩, -- REF_FORM
  ⟨0x2200, 1, 0x03, 0x03, .u8, .rw, none, .num 9, .span 1 12, 1, 1, 1, 1⟩, -- REF_FRAME_RATE
  ⟨0x2200, 1, 0x04, 0x04, .i32, .rw, none, .num 0, .int (-500000000) 500000000, 4, 4, 1, 1⟩, -- REF_PHASE
  ⟨0x2200, 1, 0x05, 0x05, .u32, .rw, none, .num 0x3e8, .span 50 100000, 4, 4, 1, 1⟩, -- REF_WINDOW
  ⟨0x2200, 1, 0x06, 0x06, .u32, .rw, none, .num 0x3e8, .span 10 1000000, 4, 4, 1, 1⟩, -- REF_CHECK_LIMIT
  ⟨0x2200, 1, 0x07, 0x07, .u8, .ro, none, .num 0, .any, 1, 1, 1, 0⟩, -- REF_STATE
  ⟨0x2200, 1, 0x08, 0x08, .i32, .ro, none, .num 0, .any, 4, 4, 1, 0⟩, -- REF_OFFSET
  ⟨0x2200, 1, 0x09, 0x09, .i32, .ro, none, .num 0, .any, 4, 4, 1, 0⟩, -- REF_FREQ_OFFSET
  ⟨0x2200, 1, 0x0A, 0x0A, .u64, .ro, none, .num 0, .any, 8, 8, 1, 0⟩, -- REF_PERIOD
  ⟨0x2200, 1, 0x0B, 0x0B, .u32, .rc, none, .num 0, .any, 4, 4, 1, 1⟩, -- REF_REJECTS
  ⟨0x2200, 1, 0x0C, 0x0C, .u32, .rc, none, .num 0, .any, 4, 4, 1, 1⟩, -- REF_LOSSES
  ⟨0x2300, 1, 0x01, 0x01, .u8, .rs, none, .num 0, .span 0 16, 1, 1, 1, 4⟩, -- LIB_SIZE
  ⟨0x2300, 1, 0x02, 0x02, .u64, .ro, none, .num 0, .any, 8, 8, 1, 0⟩, -- LIB_FREE
  ⟨0x2300, 1, 0x03, 0x03, .u16, .rw, none, .num 0, .span 0 1023, 2, 2, 1, 1⟩] -- ITEM_SEL

/-- Objects of Tables 6-7 to 6-11. -/
def rowsInput3 : List Row := [
  ⟨0x2300, 1, 0x04, 0x04, .u16, .rw, none, .num 0, .span 2 16384, 2, 2, 1, 1⟩, -- ITEM_W
  ⟨0x2300, 1, 0x05, 0x05, .u16, .rw, none, .num 0, .span 2 8640, 2, 2, 1, 1⟩, -- ITEM_H
  ⟨0x2300, 1, 0x06, 0x06, .u8, .rw, none, .num 1, .span 1 5, 1, 1, 1, 1⟩, -- ITEM_FORMAT
  ⟨0x2300, 1, 0x07, 0x07, .u8, .rw, none, .num 1, .chk .colourFull, 1, 1, 1, 1⟩, -- ITEM_COLOUR
  ⟨0x2300, 1, 0x08, 0x08, .u16, .rw, none, .num 1, .span 1 65535, 2, 2, 1, 1⟩, -- ITEM_FRAMES
  ⟨0x2300, 1, 0x09, 0x09, .u8, .rw, none, .num 9, .span 1 12, 1, 1, 1, 1⟩, -- ITEM_RATE
  ⟨0x2300, 1, 0x0A, 0x0A, .u8, .rw, none, .num 0, .span 0 1, 1, 1, 1, 1⟩, -- ITEM_PLAY
  ⟨0x2300, 1, 0x0B, 0x0B, .time, .rw, none, .num 0, .any, 12, 12, 1, 1⟩, -- ITEM_EPOCH
  ⟨0x2300, 1, 0x0C, 0x0C, .bool, .wo, none, .num 0, .oneOf [1], 1, 1, 1, 1⟩, -- ITEM_ALLOC
  ⟨0x2300, 1, 0x0D, 0x0D, .u16, .rw, none, .num 0, .chk .frameSel, 2, 2, 1, 1⟩, -- FRAME_SEL
  ⟨0x2300, 1, 0x0E, 0x0E, .u16, .rw, none, .num 0, .chk .lineSel, 2, 2, 1, 1⟩, -- LINE_SEL
  ⟨0x2300, 1, 0x0F, 0x0F, .block, .wo, none, .bytes [], .any, 0, 16777216, 1, 1⟩, -- ITEM_DATA
  ⟨0x2300, 1, 0x10, 0x10, .bool, .wo, none, .num 0, .oneOf [1], 1, 1, 1, 1⟩, -- ITEM_DONE
  ⟨0x2300, 1, 0x11, 0x11, .bool, .wo, none, .num 0, .oneOf [1], 1, 1, 1, 1⟩, -- ITEM_DELETE
  ⟨0x2301, 1, 0x01, 0x01, .block, .ro, none, .bytes [], .any, 0, 8192, 1, 0⟩] -- ITEM_TABLE

/-- Objects of Tables 7-8 to 7-13. -/
def rowsOutput : List Row := [
  ⟨0x6000, 10, 0x01, 0x01, .bool, .rs, none, .num 0, .span 0 1, 1, 1, 1, 4⟩, -- PORT_ENABLE
  ⟨0x6000, 10, 0x02, 0x02, .u8, .rs, none, .num 0, .chk .portMode, 1, 1, 1, 5⟩, -- PORT_MODE
  ⟨0x6000, 10, 0x03, 0x03, .u64, .rs, none, .num 0, .mask 0xFFFF000000000000, 8, 8, 1, 5⟩, -- MAC_ADDR
  ⟨0x6000, 10, 0x04, 0x04, .u32, .rs, none, .num 0, .any, 4, 4, 1, 5⟩, -- IP_ADDR
  ⟨0x6000, 10, 0x05, 0x05, .u8, .rs, none, .num 0x18, .span 0 32, 1, 1, 1, 5⟩, -- IP_PREFIX
  ⟨0x6000, 10, 0x06, 0x06, .u32, .rs, none, .num 0, .any, 4, 4, 1, 5⟩, -- GATEWAY
  ⟨0x6000, 10, 0x07, 0x07, .u16, .rs, none, .num 0, .span 0 4094, 2, 2, 1, 5⟩, -- VLAN_ID
  ⟨0x6000, 10, 0x08, 0x08, .u8, .rs, none, .num 0x40, .span 1 255, 1, 1, 1, 5⟩, -- TTL
  ⟨0x6000, 10, 0x09, 0x09, .u16, .rs, none, .num 0x5dc, .span 576 9000, 2, 2, 1, 5⟩, -- MTU
  ⟨0x6000, 10, 0x0A, 0x0A, .u8, .rs, none, .num 0x14, .span 0 63, 1, 1, 1, 4⟩, -- OVERHEAD
  ⟨0x6000, 10, 0x0B, 0x0B, .u16, .rw, none, .num 0x3e8, .span 1 65535, 2, 2, 1, 8⟩, -- HIST_WINDOW
  ⟨0x6000, 10, 0x0C, 0x0C, .u8, .ro, none, .num 0, .any, 1, 1, 1, 0⟩, -- LINK_STATE
  ⟨0x6000, 10, 0x0D, 0x0D, .u64, .ro, none, .num 0, .any, 8, 8, 1, 0⟩, -- TX_FRAMES
  ⟨0x6000, 10, 0x0E, 0x0E, .u64, .ro, none, .num 0, .any, 8, 8, 1, 0⟩, -- TX_BYTES
  ⟨0x6000, 10, 0x0F, 0x0F, .u64, .ro, none, .num 0, .any, 8, 8, 1, 0⟩, -- RX_FRAMES
  ⟨0x6000, 10, 0x10, 0x10, .u64, .rc, none, .num 0, .any, 8, 8, 1, 1⟩, -- RX_DROPS
  ⟨0x6000, 10, 0x11, 0x11, .u64, .rc, none, .num 0, .any, 8, 8, 1, 1⟩, -- FEC_CORRECTED
  ⟨0x6000, 10, 0x12, 0x12, .u64, .rc, none, .num 0, .any, 8, 8, 1, 1⟩, -- FEC_UNCORRECTED
  ⟨0x6000, 10, 0x13, 0x13, .u32, .rc, none, .num 0, .any, 4, 4, 1, 1⟩, -- NO_NEIGHBOUR
  ⟨0x6000, 10, 0x14, 0x14, .u32, .rc, none, .num 0, .any, 4, 4, 1, 1⟩, -- TOO_LONG
  ⟨0x6000, 10, 0x15, 0x15, .u32, .rc, none, .num 0, .any, 4, 4, 1, 1⟩, -- BODY_LATE
  ⟨0x6000, 10, 0x16, 0x16, .u32, .rc, none, .num 0, .any, 4, 4, 1, 1⟩, -- TX_DROPS
  ⟨0x6000, 10, 0x17, 0x17, .u64, .ro, none, .num 0, .any, 8, 8, 1, 0⟩, -- PEAK_LOAD
  ⟨0x6000, 10, 0x18, 0x18, .u16, .ro, none, .num 0, .any, 2, 2, 1, 0⟩] -- TAIL_TIME

/-- Objects of Tables 7-8 to 7-13. -/
def rowsOutput1 : List Row := [
  ⟨0x6100, 1, 0x01, 0x01, .block, .rs, none, .flowTxDflt, .chk .flowTx, 132096, 132096, 1, 4⟩, -- FLOW_TX_TABLE
  ⟨0x6100, 1, 0x02, 0x02, .block, .ro, none, .bytes [], .any, 0, 66048, 1, 0⟩, -- FLOW_TX_STATE
  ⟨0x6102, 1, 0x01, 0x01, .u8, .rs, none, .num 7, .span 0 7, 1, 1, 1, 4⟩, -- PTP_CLASS
  ⟨0x6102, 1, 0x02, 0x02, .u8, .rs, none, .num 3, .span 0 7, 1, 1, 1, 4⟩, -- MGMT_CLASS
  ⟨0x6102, 1, 0x03, 0x03, .u8, .rs, none, .num 3, .span 0 7, 1, 1, 1, 4⟩, -- CONTROL_CLASS
  ⟨0x6103, 1, 0x01, 0x01, .u16, .rw, none, .num 0, .span 0 4127, 2, 2, 1, 1⟩, -- SDP_SEL
  ⟨0x6103, 1, 0x02, 0x02, .block, .ro, none, .bytes [], .any, 0, 8192, 1, 0⟩, -- SDP_TEXT
  ⟨0x6110, 10, 0x01, 0x08, .block, .ro, none, .zeros 64, .any, 0, 64, 1, 0⟩, -- DEPTH_HIST of class sub − 1
  ⟨0x6110, 10, 0x11, 0x18, .block, .ro, none, .zeros 64, .any, 0, 64, 1, 0⟩, -- SOJOURN_HIST of class sub − 0x11
  ⟨0x6110, 10, 0x21, 0x28, .u64, .ro, none, .num 0, .any, 8, 8, 1, 0⟩, -- CLASS_TX_BYTES of class sub − 0x21
  ⟨0x6110, 10, 0x31, 0x38, .u32, .rc, none, .num 0, .any, 4, 4, 1, 1⟩, -- CLASS_HELD of class sub − 0x31
  ⟨0x6200, 10, 0x01, 0x01, .bool, .rw, none, .num 0, .span 0 1, 1, 1, 1, 1⟩, -- GATE_ENABLE
  ⟨0x6200, 10, 0x02, 0x02, .u8, .rw, none, .num 0xff, .any, 1, 1, 1, 1⟩, -- ADMIN_GATES
  ⟨0x6200, 10, 0x03, 0x03, .block, .rw, none, .bytes [], .chk .adminList, 8, 8192, 8, 1⟩, -- ADMIN_LIST
  ⟨0x6200, 10, 0x04, 0x04, .u32, .rw, none, .num 0x61a80, .span 400 400000000, 4, 4, 1, 1⟩, -- ADMIN_CYCLE
  ⟨0x6200, 10, 0x05, 0x05, .u32, .rw, none, .num 0, .chk .adminExt, 4, 4, 1, 1⟩, -- ADMIN_CYCLE_EXT
  ⟨0x6200, 10, 0x06, 0x06, .time, .rw, none, .num 0, .any, 12, 12, 1, 1⟩, -- ADMIN_BASE
  ⟨0x6200, 10, 0x07, 0x07, .bool, .wo, none, .num 0, .oneOf [1], 1, 1, 1, 1⟩, -- CONFIG_CHANGE
  ⟨0x6200, 10, 0x08, 0x08, .bool, .ro, none, .num 0, .any, 1, 1, 1, 0⟩, -- CONFIG_PENDING
  ⟨0x6200, 10, 0x09, 0x09, .time, .ro, none, .num 0, .any, 12, 12, 1, 0⟩, -- CONFIG_CHANGE_TIME
  ⟨0x6200, 10, 0x0A, 0x0A, .u8, .ro, none, .num 0xff, .any, 1, 1, 1, 0⟩, -- OPER_GATES
  ⟨0x6200, 10, 0x0B, 0x0B, .block, .ro, none, .bytes [], .any, 0, 8192, 1, 0⟩, -- OPER_LIST
  ⟨0x6200, 10, 0x0C, 0x0C, .u32, .ro, none, .num 0, .any, 4, 4, 1, 0⟩, -- OPER_CYCLE
  ⟨0x6200, 10, 0x0D, 0x0D, .u32, .ro, none, .num 0, .any, 4, 4, 1, 0⟩] -- OPER_CYCLE_EXT

/-- Objects of Tables 7-8 to 7-13. -/
def rowsOutput2 : List Row := [
  ⟨0x6200, 10, 0x0E, 0x0E, .time, .ro, none, .num 0, .any, 12, 12, 1, 0⟩, -- OPER_BASE
  ⟨0x6200, 10, 0x0F, 0x0F, .u32, .rc, none, .num 0, .any, 4, 4, 1, 1⟩, -- BASE_PASSED
  ⟨0x6200, 10, 0x10, 0x10, .u32, .rc, none, .num 0, .any, 4, 4, 1, 1⟩, -- CONFIG_REJECTS
  ⟨0x6200, 10, 0x11, 0x11, .u16, .ro, none, .num 0x400, .any, 2, 2, 1, 0⟩, -- SUPPORTED_LIST_MAX
  ⟨0x6200, 10, 0x12, 0x12, .u32, .ro, none, .num 0x19, .any, 4, 4, 1, 0⟩, -- TICK_GRANULARITY
  ⟨0x6200, 10, 0x13, 0x13, .block, .ro, none, .bytes [], .any, 0, 64, 1, 0⟩, -- CLASS_WINDOWS
  ⟨0x6400, 1024, 0x01, 0x01, .bool, .rw, none, .num 0, .span 0 1, 1, 1, 1, 1⟩, -- METER_ENABLE
  ⟨0x6400, 1024, 0x02, 0x02, .u8, .rw, none, .num 0, .span 0 3, 1, 1, 1, 1⟩, -- METER_MODE
  ⟨0x6400, 1024, 0x03, 0x03, .u16, .rw, none, .num 3, .mask 0xFC00, 2, 2, 1, 1⟩, -- METER_PORTS
  ⟨0x6400, 1024, 0x04, 0x04, .u32, .rw, none, .num 0, .any, 4, 4, 1, 1⟩, -- MATCH_DEST
  ⟨0x6400, 1024, 0x05, 0x05, .u8, .rw, none, .num 0, .span 0 32, 1, 1, 1, 1⟩, -- MATCH_PREFIX
  ⟨0x6400, 1024, 0x06, 0x06, .u16, .rw, none, .num 0, .span 0 65535, 2, 2, 1, 1⟩, -- MATCH_UDP
  ⟨0x6400, 1024, 0x07, 0x07, .u64, .rw, none, .num 0, .span 0 400000000000, 8, 8, 1, 1⟩, -- CIR
  ⟨0x6400, 1024, 0x08, 0x08, .u32, .rw, none, .num 0x4000, .span 64 16777216, 4, 4, 1, 1⟩, -- CBS
  ⟨0x6400, 1024, 0x09, 0x09, .u64, .rw, none, .num 0, .chk .pir, 8, 8, 1, 1⟩, -- PIR
  ⟨0x6400, 1024, 0x0A, 0x0A, .u32, .rw, none, .num 0x4000, .span 64 16777216, 4, 4, 1, 1⟩, -- EBS_PBS
  ⟨0x6400, 1024, 0x0B, 0x0B, .u8, .rw, none, .num 8, .chk .meterActions, 1, 1, 1, 1⟩, -- ACTIONS
  ⟨0x6400, 1024, 0x0C, 0x0C, .u64, .rc, none, .num 0, .any, 8, 8, 1, 1⟩, -- GREEN_FRAMES
  ⟨0x6400, 1024, 0x0D, 0x0D, .u64, .rc, none, .num 0, .any, 8, 8, 1, 1⟩, -- YELLOW_FRAMES
  ⟨0x6400, 1024, 0x0E, 0x0E, .u64, .rc, none, .num 0, .any, 8, 8, 1, 1⟩, -- RED_FRAMES
  ⟨0x6400, 1024, 0x0F, 0x0F, .u64, .rc, none, .num 0, .any, 8, 8, 1, 1⟩] -- DISCARD_BYTES

/-- Objects of Tables 8-7 to 8-9. -/
def rowsTime : List Row := [
  ⟨0x6800, 5, 0x01, 0x01, .block, .ro, none, .bytes [], .any, 0, 512, 1, 0⟩, -- TS_READ
  ⟨0x6800, 5, 0x02, 0x02, .u8, .ro, none, .num 0, .any, 1, 1, 1, 0⟩, -- TS_COUNT
  ⟨0x6800, 5, 0x03, 0x03, .u32, .rc, none, .num 0, .any, 4, 4, 1, 1⟩, -- TS_OVERFLOWS
  ⟨0x6800, 5, 0x04, 0x04, .u32, .rc, none, .num 0, .any, 4, 4, 1, 1⟩, -- TS_STALE
  ⟨0x6808, 2, 0x01, 0x01, .block, .wo, none, .bytes [], .any, 64, 1522, 1, 1⟩, -- PTP_TX
  ⟨0x6808, 2, 0x02, 0x02, .block, .ro, none, .bytes [], .any, 0, 49152, 1, 0⟩, -- PTP_RX
  ⟨0x6808, 2, 0x03, 0x03, .u32, .rc, none, .num 0, .any, 4, 4, 1, 1⟩, -- RX_OVERFLOWS
  ⟨0x7000, 1, 0x01, 0x01, .time, .ro, none, .num 0, .any, 12, 12, 1, 0⟩, -- TIME_NOW
  ⟨0x7000, 1, 0x02, 0x02, .time, .wo, none, .num 0, .any, 12, 12, 1, 1⟩, -- TIME_SET
  ⟨0x7000, 1, 0x03, 0x03, .i64, .wo, none, .num 0, .any, 8, 8, 1, 1⟩, -- TIME_ADJUST
  ⟨0x7000, 1, 0x04, 0x04, .i32, .ro, none, .num 0, .any, 4, 4, 1, 0⟩, -- FREQ_NOW
  ⟨0x7000, 1, 0x05, 0x05, .i16, .ro, none, .num 0, .any, 2, 2, 1, 0⟩, -- UTC_OFFSET
  ⟨0x7000, 1, 0x06, 0x06, .u8, .ro, none, .num 0, .any, 1, 1, 1, 0⟩, -- TIME_FLAGS
  ⟨0x7000, 1, 0x07, 0x07, .u32, .rc, none, .num 0, .any, 4, 4, 1, 1⟩, -- STEP_COUNT
  ⟨0x7000, 1, 0x08, 0x08, .i64, .ro, none, .num 0, .any, 8, 8, 1, 0⟩, -- LAST_STEP
  ⟨0x7001, 1, 0x01, 0x01, .block, .rs, none, .bytes [5, 1, 2], .chk .sourceOrder, 1, 6, 1, 4⟩, -- SOURCE_ORDER
  ⟨0x7001, 1, 0x02, 0x02, .q, .rw, none, .num 0x8000, .span 0 262144, 4, 4, 1, 8⟩, -- KP
  ⟨0x7001, 1, 0x03, 0x03, .q, .rw, none, .num 0x1000, .span 0 65536, 4, 4, 1, 8⟩, -- KI
  ⟨0x7001, 1, 0x04, 0x04, .u32, .rw, none, .num 0x186a0, .span 1000 200000, 4, 4, 1, 8⟩, -- FREQ_CLAMP
  ⟨0x7001, 1, 0x05, 0x05, .u32, .rw, none, .num 0xc350, .span 1000 200000, 4, 4, 1, 8⟩, -- INTEGRAL_CLAMP
  ⟨0x7001, 1, 0x06, 0x06, .u32, .rw, none, .num 0x186a0, .orSpan [0] 1000 1000000000, 4, 4, 1, 8⟩, -- STEP_THRESHOLD
  ⟨0x7001, 1, 0x07, 0x07, .bool, .rw, none, .num 1, .span 0 1, 1, 1, 1, 8⟩, -- STEP_IN_LIT
  ⟨0x7001, 1, 0x08, 0x08, .u32, .rw, none, .num 0x3e8, .span 10 1000000, 4, 4, 1, 8⟩, -- LOCK_THRESHOLD
  ⟨0x7001, 1, 0x09, 0x09, .u32, .rw, none, .num 0x2710, .span 100 1000000000, 4, 4, 1, 8⟩] -- OUTLIER_LIMIT

/-- Objects of Tables 8-7 to 8-9. -/
def rowsTime1 : List Row := [
  ⟨0x7001, 1, 0x0A, 0x0A, .u16, .rw, none, .num 0x3c, .span 1 3600, 2, 2, 1, 8⟩, -- HOLDOVER_AVG
  ⟨0x7001, 1, 0x0B, 0x0B, .u32, .rw, none, .num 0xe10, .span 1 1000000, 4, 4, 1, 8⟩, -- HOLDOVER_MAX
  ⟨0x7001, 1, 0x0C, 0x0C, .u8, .ro, none, .num 0, .any, 1, 1, 1, 0⟩, -- SERVO_STATE
  ⟨0x7001, 1, 0x0D, 0x0D, .u8, .ro, none, .num 0, .any, 1, 1, 1, 0⟩, -- SOURCE_NOW
  ⟨0x7001, 1, 0x0E, 0x0E, .i64, .ro, none, .num 0, .any, 8, 8, 1, 0⟩, -- OFFSET_NOW
  ⟨0x7001, 1, 0x0F, 0x0F, .u64, .ro, none, .num 0, .any, 8, 8, 1, 0⟩, -- PATH_DELAY
  ⟨0x7001, 1, 0x10, 0x10, .u32, .ro, none, .num 0, .any, 4, 4, 1, 0⟩, -- HOLDOVER_TIME
  ⟨0x7001, 1, 0x11, 0x11, .u32, .rc, none, .num 0, .any, 4, 4, 1, 1⟩, -- LOCK_LOSSES
  ⟨0x7001, 1, 0x12, 0x12, .i64, .wo, none, .num 0, .any, 8, 8, 1, 1⟩, -- HOST_SAMPLE
  ⟨0x7001, 1, 0x13, 0x13, .u32, .rc, none, .num 0, .any, 4, 4, 1, 1⟩, -- OUTLIERS
  ⟨0x7020, 1, 0x01, 0x01, .u8, .rw, none, .num 0, .span 0 1, 1, 1, 1, 1⟩, -- PHASE_POLICY
  ⟨0x7020, 1, 0x02, 0x02, .u16, .rw, none, .num 0x2710, .span 100 10000, 2, 2, 1, 1⟩, -- SLEW_MAX
  ⟨0x7020, 1, 0x03, 0x03, .i64, .ro, none, .num 0, .any, 8, 8, 1, 0⟩, -- AUDIO_PHASE
  ⟨0x7030, 1, 0x01, 0x01, .bool, .rs, none, .num 0, .span 0 1, 1, 1, 1, 4⟩, -- PPS_OUT_ENABLE
  ⟨0x7030, 1, 0x02, 0x02, .u32, .rw, none, .num 0x2710, .span 100 500000000, 4, 4, 1, 1⟩, -- PPS_WIDTH
  ⟨0x7030, 1, 0x03, 0x03, .u8, .rs, none, .num 0xff, .orSpan [0xFF] 0 15, 1, 1, 1, 4⟩, -- FRAME_OUT_CHANNEL
  ⟨0x7030, 1, 0x04, 0x04, .bool, .rs, none, .num 0, .span 0 1, 1, 1, 1, 4⟩, -- PPS_IN_ENABLE
  ⟨0x7030, 1, 0x05, 0x05, .time, .ro, none, .num 0, .any, 12, 12, 1, 0⟩, -- PPS_IN_TIME
  ⟨0x7030, 1, 0x06, 0x06, .u32, .rc, none, .num 0, .any, 4, 4, 1, 1⟩, -- PPS_IN_COUNT
  ⟨0x7010, 2, 0x01, 0x01, .u8, .rs, none, .num 1, .span 0 2, 1, 1, 1, 5⟩, -- PTP_ENGINE
  ⟨0x7010, 2, 0x02, 0x02, .u8, .rs, none, .num 1, .mask 0xFC, 1, 1, 1, 5⟩, -- PROFILE
  ⟨0x7010, 2, 0x03, 0x03, .u8, .rs, none, .num 0x7f, .span 0 127, 1, 1, 1, 5⟩, -- DOMAIN
  ⟨0x7010, 2, 0x04, 0x04, .u8, .rs, none, .num 0, .span 0 1, 1, 1, 1, 5⟩, -- TRANSPORT
  ⟨0x7010, 2, 0x05, 0x05, .i32, .rw, none, .num 0, .int (-1000000) 1000000, 4, 4, 1, 1⟩] -- ASYMMETRY

/-- Objects of Tables 8-7 to 8-9. -/
def rowsTime2 : List Row := [
  ⟨0x7010, 2, 0x06, 0x06, .u8, .rs, none, .num 0, .span 0 3, 1, 1, 1, 5⟩, -- PTP_SUBPORT
  ⟨0x7010, 2, 0x07, 0x07, .u8, .ro, none, .num 5, .any, 1, 1, 1, 0⟩, -- PORT_STATE
  ⟨0x7010, 2, 0x08, 0x08, .u8, .ro, none, .num 5, .any, 1, 1, 1, 0⟩, -- AS_STATE
  ⟨0x7010, 2, 0x09, 0x09, .u64, .ro, none, .num 0, .any, 8, 8, 1, 0⟩, -- GM_IDENTITY
  ⟨0x7010, 2, 0x0A, 0x0A, .u32, .ro, none, .num 0, .any, 4, 4, 1, 0⟩, -- AS_PDELAY
  ⟨0x7010, 2, 0x0B, 0x0B, .u32, .rc, none, .num 0, .any, 4, 4, 1, 1⟩, -- SYNC_RX
  ⟨0x7010, 2, 0x0C, 0x0C, .u32, .rc, none, .num 0, .any, 4, 4, 1, 1⟩, -- ANNOUNCE_TIMEOUTS
  ⟨0x7040, 16, 0x01, 0x01, .i64, .ro, none, .num 0, .any, 8, 8, 1, 0⟩, -- PHASE_ERROR
  ⟨0x7040, 16, 0x02, 0x02, .u8, .ro, none, .num 0, .any, 1, 1, 1, 0⟩, -- PHASE_STATE
  ⟨0x7040, 16, 0x03, 0x03, .u32, .rc, none, .num 0, .any, 4, 4, 1, 1⟩, -- RELABELS
  ⟨0x7040, 16, 0x04, 0x04, .u32, .rc, none, .num 0, .any, 4, 4, 1, 1⟩] -- REPHASES

/-- Objects of Tables 9-5 to 9-7. -/
def rowsAudio : List Row := [
  ⟨0x7100, 16, 0x01, 0x01, .bool, .rs, none, .num 0, .span 0 1, 1, 1, 1, 4⟩, -- PORT_ENABLE
  ⟨0x7100, 16, 0x02, 0x02, .u8, .rs, none, .num 0, .span 0 1, 1, 1, 1, 5⟩, -- CLOCK_MODE
  ⟨0x7100, 16, 0x03, 0x03, .u8, .rs, none, .num 0, .span 0 1, 1, 1, 1, 5⟩, -- FORMAT
  ⟨0x7100, 16, 0x04, 0x04, .u8, .rs, none, .num 0x20, .oneOf [16, 24, 32], 1, 1, 1, 5⟩, -- SLOT_BITS
  ⟨0x7100, 16, 0x05, 0x05, .u8, .rs, none, .num 0x18, .span 16 32, 1, 1, 1, 5⟩, -- WORD_BITS
  ⟨0x7100, 16, 0x06, 0x06, .u8, .rs, none, .num 3, .span 1 7, 1, 1, 1, 5⟩, -- CTRL_RATE
  ⟨0x7100, 16, 0x07, 0x07, .u8, .rs, none, .num 0xff, .orSpan [0xFF] 0 3, 1, 1, 1, 5⟩, -- ALIGN_GROUP
  ⟨0x7100, 16, 0x08, 0x08, .u32, .rs, none, .num 0xf4240, .span 1000000 200000000, 4, 4, 1, 4⟩, -- AV_OFFSET
  ⟨0x7100, 16, 0x09, 0x09, .u16, .rw, none, .num 0xa, .span 0 1000, 2, 2, 1, 1⟩, -- UNDERRUN_HOLD
  ⟨0x7100, 16, 0x0A, 0x0A, .u16, .rw, none, .num 0x64, .span 10 1000, 2, 2, 1, 1⟩, -- ASRC_BW
  ⟨0x7100, 16, 0x0B, 0x0B, .u8, .ro, none, .num 0, .any, 1, 1, 1, 0⟩, -- ASRC_STATE
  ⟨0x7100, 16, 0x0C, 0x0C, .u32, .ro, none, .num 0, .any, 4, 4, 1, 0⟩, -- RATE_NOW
  ⟨0x7100, 16, 0x0D, 0x0D, .i32, .ro, none, .num 0, .any, 4, 4, 1, 0⟩, -- RATE_ERROR
  ⟨0x7100, 16, 0x0E, 0x0E, .u32, .rc, none, .num 0, .any, 4, 4, 1, 1⟩, -- UNDERRUNS
  ⟨0x7100, 16, 0x0F, 0x0F, .u32, .rc, none, .num 0, .any, 4, 4, 1, 1⟩, -- OVERRUNS
  ⟨0x7100, 16, 0x10, 0x10, .u32, .rc, none, .num 0, .any, 4, 4, 1, 1⟩, -- SLIPS
  ⟨0x7100, 16, 0x11, 0x11, .bool, .ro, none, .num 0, .any, 1, 1, 1, 0⟩, -- IS_LEAD
  ⟨0x7110, 1, 0x01, 0x01, .u8, .rs, none, .num 0, .span 0 7, 1, 1, 1, 4⟩, -- MCLK0_RATE
  ⟨0x7110, 1, 0x02, 0x02, .u16, .rs, none, .num 0x100, .oneOf [128, 256, 512], 2, 2, 1, 4⟩, -- MCLK0_MULT
  ⟨0x7110, 1, 0x03, 0x03, .u8, .rs, none, .num 0, .span 0 7, 1, 1, 1, 4⟩, -- MCLK1_RATE
  ⟨0x7110, 1, 0x04, 0x04, .u16, .rs, none, .num 0x100, .oneOf [128, 256, 512], 2, 2, 1, 4⟩, -- MCLK1_MULT
  ⟨0x7120, 32, 0x01, 0x01, .bool, .rs, none, .num 0, .span 0 1, 1, 1, 1, 4⟩, -- A_ENABLE
  ⟨0x7120, 32, 0x02, 0x02, .u8, .rs, none, .num 0, .span 0 1, 1, 1, 1, 5⟩, -- PACKET_TIME
  ⟨0x7120, 32, 0x03, 0x03, .u8, .rs, none, .num 1, .span 0 1, 1, 1, 1, 5⟩] -- ENCODING

/-- Objects of Tables 9-5 to 9-7. -/
def rowsAudio1 : List Row := [
  ⟨0x7120, 32, 0x04, 0x04, .u8, .rs, none, .num 2, .span 1 32, 1, 1, 1, 5⟩, -- CHANNELS
  ⟨0x7120, 32, 0x05, 0x05, .block, .rs, none, .bytes [0, 1], .chk .channelMap, 1, 32, 1, 4⟩, -- CHANNEL_MAP
  ⟨0x7120, 32, 0x06, 0x06, .bool, .rw, none, .num 0, .span 0 1, 1, 1, 1, 1⟩, -- A_MUTE
  ⟨0x7120, 32, 0x07, 0x07, .u8, .ro, none, .num 0, .any, 1, 1, 1, 0⟩, -- A_LEVEL
  ⟨0x7120, 32, 0x08, 0x08, .u8, .ro, none, .num 0, .any, 1, 1, 1, 0⟩] -- A_STATE

/-- Objects of Tables 10-8 to 10-10. -/
def rowsFlue : List Row := [
  ⟨0x8100, 1, 0x01, 0x01, .u8, .rw, none, .num 1, .span 0 1, 1, 1, 1, 7⟩, -- ENUM_MODE
  ⟨0x8100, 1, 0x02, 0x02, .u16, .rw, none, .num 0xffff, .orSpan [0xFFFF] 0 1023, 2, 2, 1, 7⟩, -- FIXED_ID
  ⟨0x8100, 1, 0x03, 0x03, .bool, .rw, none, .num 0, .span 0 1, 1, 1, 1, 7⟩, -- ENUM_ROOT
  ⟨0x8100, 1, 0x04, 0x04, .u16, .rw, none, .num 0, .span 0 1023, 2, 2, 1, 7⟩, -- ENUM_BASE
  ⟨0x8100, 1, 0x05, 0x05, .block, .rw, none, .bytes [], .chk .enumTable, 0, 16384, 16, 7⟩, -- ENUM_TABLE
  ⟨0x8100, 1, 0x06, 0x06, .bool, .wo, none, .num 0, .oneOf [1], 1, 1, 1, 7⟩, -- ENUM_START
  ⟨0x8100, 1, 0x07, 0x07, .u16, .ro, none, .num 0xffff, .any, 2, 2, 1, 0⟩, -- MODULE_ID
  ⟨0x8100, 1, 0x08, 0x08, .u8, .ro, none, .num 0, .any, 1, 1, 1, 0⟩, -- CHIMNEY_STATE
  ⟨0x8100, 1, 0x09, 0x09, .u16, .ro, none, .num 1, .any, 2, 2, 1, 0⟩, -- MODULE_COUNT
  ⟨0x8100, 1, 0x0A, 0x0A, .u16, .rw, none, .num 0x64, .span 0 10000, 2, 2, 1, 1⟩, -- LINK_HOLD
  ⟨0x8100, 1, 0x0B, 0x0B, .u8, .rs, none, .num 5, .span 1 50, 1, 1, 1, 4⟩, -- MGMT_SHARE
  ⟨0x8100, 1, 0x0C, 0x0C, .u32, .rc, none, .num 0, .any, 4, 4, 1, 1⟩, -- PATH_CHANGES
  ⟨0x8100, 1, 0x0D, 0x0D, .bool, .rs, none, .num 1, .span 0 1, 1, 1, 1, 4⟩, -- FLUE_TIME_OFFER
  ⟨0x8100, 1, 0x0E, 0x0E, .u8, .ro, none, .num 0xff, .any, 1, 1, 1, 0⟩, -- TIME_UPSTREAM
  ⟨0x8100, 1, 0x0F, 0x0F, .u16, .ro, none, .num 0xffff, .any, 2, 2, 1, 0⟩, -- TIME_ORIGIN
  ⟨0x8100, 1, 0x10, 0x10, .u16, .ro, none, .num 0, .any, 2, 2, 1, 0⟩, -- TIME_HOPS
  ⟨0x8100, 1, 0x11, 0x11, .u32, .rc, none, .num 0, .any, 4, 4, 1, 1⟩, -- BCAST_DISCARDS
  ⟨0x8101, 1, 0x01, 0x01, .block, .ro, none, .bytes [], .any, 0, 4096, 1, 0⟩, -- PATH_TABLE
  ⟨0x8101, 1, 0x02, 0x02, .block, .ro, none, .bytes [], .any, 0, 8192, 1, 0⟩, -- TOPOLOGY
  ⟨0x8110, 3, 0x01, 0x01, .bool, .rs, none, .num 1, .span 0 1, 1, 1, 1, 5⟩, -- FLUE_ENABLE
  ⟨0x8110, 3, 0x02, 0x02, .u8, .ro, none, .num 1, .any, 1, 1, 1, 0⟩, -- LINK_STATE
  ⟨0x8110, 3, 0x03, 0x03, .u8, .ro, none, .num 0, .any, 1, 1, 1, 0⟩, -- LANES
  ⟨0x8110, 3, 0x04, 0x04, .u16, .ro, none, .num 0xffff, .any, 2, 2, 1, 0⟩, -- NEIGHBOUR_ID
  ⟨0x8110, 3, 0x05, 0x05, .u8, .ro, none, .num 0xff, .any, 1, 1, 1, 0⟩] -- NEIGHBOUR_PORT

/-- Objects of Tables 10-8 to 10-10. -/
def rowsFlue1 : List Row := [
  ⟨0x8110, 3, 0x06, 0x06, .u32, .ro, none, .num 0, .any, 4, 4, 1, 0⟩, -- LINK_DELAY
  ⟨0x8110, 3, 0x07, 0x07, .block, .ro, none, .zeros 12, .any, 0, 12, 1, 0⟩, -- LANE_SER
  ⟨0x8110, 3, 0x08, 0x08, .u32, .rw, none, .num 0x989680, .span 1000 100000000000, 4, 4, 1, 1⟩, -- LANE_SER_LIMIT
  ⟨0x8110, 3, 0x09, 0x09, .u8, .wo, (some 2), .num 0, .span 0 2, 1, 1, 1, 1⟩, -- LANE_RETIRE
  ⟨0x8110, 3, 0x0A, 0x0A, .u32, .rc, none, .num 0, .any, 4, 4, 1, 1⟩, -- SUBSTITUTIONS
  ⟨0x8110, 3, 0x0B, 0x0B, .u64, .rc, none, .num 0, .any, 8, 8, 1, 1⟩, -- FEC_CORRECTED
  ⟨0x8110, 3, 0x0C, 0x0C, .u64, .rc, none, .num 0, .any, 8, 8, 1, 1⟩, -- FEC_UNCORRECTED
  ⟨0x8110, 3, 0x0D, 0x0D, .u32, .rc, none, .num 0, .any, 4, 4, 1, 1⟩, -- LINK_DOWNS
  ⟨0x8110, 3, 0x0E, 0x0E, .u32, .ro, none, .num 0, .any, 4, 4, 1, 0⟩, -- CAPACITY
  ⟨0x8110, 3, 0x0F, 0x0F, .u32, .ro, none, .num 0, .any, 4, 4, 1, 0⟩, -- RESERVED_OUT
  ⟨0x8110, 3, 0x10, 0x10, .u32, .rc, none, .num 0, .any, 4, 4, 1, 1⟩, -- RELAY_SHED
  ⟨0x8110, 3, 0x11, 0x11, .block, .ro, none, .zeros 40, .any, 0, 40, 1, 0⟩, -- CLASS_TX_BYTES
  ⟨0x8110, 3, 0x12, 0x12, .u32, .rc, none, .num 0, .any, 4, 4, 1, 1⟩] -- CRC_DISCARDS

/-- Objects of Tables 11-7 to 11-9. -/
def rowsPair : List Row := [
  ⟨0x8200, 1, 0x01, 0x01, .u8, .rs, none, .num 0, .span 0 2, 1, 1, 1, 6⟩, -- PAIR_MODE
  ⟨0x8200, 1, 0x02, 0x02, .u8, .rs, none, .num 0, .mask 0xF0, 1, 1, 1, 4⟩, -- ACTIVE_SIDE
  ⟨0x8200, 1, 0x03, 0x03, .u8, .ro, none, .num 0, .any, 1, 1, 1, 0⟩, -- PAIR_ROLES
  ⟨0x8200, 1, 0x04, 0x04, .u16, .rw, none, .num 0x3c, .span 1 3600, 2, 2, 1, 1⟩, -- BIST_PERIOD
  ⟨0x8200, 1, 0x05, 0x05, .u8, .rw, none, .num 0, .span 0 1, 1, 1, 1, 1⟩, -- RESYNC_MODE
  ⟨0x8200, 1, 0x06, 0x06, .u8, .wo, none, .num 0, .span 0 3, 1, 1, 1, 1⟩, -- SWITCH_REQ
  ⟨0x8201, 4, 0x01, 0x01, .u8, .ro, none, .num 0, .any, 1, 1, 1, 0⟩, -- PAIR_STATE
  ⟨0x8201, 4, 0x02, 0x02, .u32, .rc, none, .num 0, .any, 4, 4, 1, 1⟩, -- SWITCHES
  ⟨0x8201, 4, 0x03, 0x03, .u8, .ro, none, .num 0, .any, 1, 1, 1, 0⟩, -- LAST_CAUSE
  ⟨0x8201, 4, 0x04, 0x04, .u32, .rc, none, .num 0, .any, 4, 4, 1, 1⟩, -- MISMATCHES
  ⟨0x8201, 4, 0x05, 0x05, .u32, .rc, none, .num 0, .any, 4, 4, 1, 1⟩, -- TRANSIENTS
  ⟨0x8201, 4, 0x06, 0x06, .u32, .rc, none, .num 0, .any, 4, 4, 1, 1⟩, -- SHADOW_LATE
  ⟨0x8201, 4, 0x07, 0x07, .u16, .ro, none, .num 0, .any, 2, 2, 1, 0⟩, -- LAST_GAP
  ⟨0x8201, 4, 0x08, 0x08, .u32, .rc, none, .num 0, .any, 4, 4, 1, 1⟩, -- BIST_RUNS
  ⟨0x8201, 4, 0x09, 0x09, .u32, .rc, none, .num 0, .any, 4, 4, 1, 1⟩, -- BIST_FAILS
  ⟨0x8201, 4, 0x0A, 0x0A, .u32, .rc, none, .num 0, .any, 4, 4, 1, 1⟩, -- MIRROR_ERRORS
  ⟨0x8210, 1, 0x01, 0x01, .u8, .rs, none, .num 0, .span 0 2, 1, 1, 1, 6⟩, -- TWIN_MODE
  ⟨0x8210, 1, 0x02, 0x02, .u16, .rs, none, .num 0xffff, .orSpan [0xFFFF] 0 1023, 2, 2, 1, 6⟩, -- TWIN_ID
  ⟨0x8210, 1, 0x03, 0x03, .u8, .rs, none, .num 0, .span 0 1, 1, 1, 1, 4⟩, -- TWIN_ROLE
  ⟨0x8210, 1, 0x04, 0x04, .u16, .rs, none, .num 0, .any, 2, 2, 1, 6⟩, -- TWIN_CHANNELS
  ⟨0x8210, 1, 0x05, 0x05, .u8, .rw, none, .num 0, .span 0 1, 1, 1, 1, 1⟩, -- TWIN_ISOLATION
  ⟨0x8210, 1, 0x06, 0x06, .u8, .rw, none, .num 2, .span 1 16, 1, 1, 1, 1⟩, -- TWIN_LOSS
  ⟨0x8210, 1, 0x07, 0x07, .u8, .ro, none, .num 0, .any, 1, 1, 1, 0⟩, -- TWIN_ROLE_NOW
  ⟨0x8210, 1, 0x08, 0x08, .u8, .ro, none, .num 0, .any, 1, 1, 1, 0⟩] -- TWIN_STATE

/-- Objects of Tables 11-7 to 11-9. -/
def rowsPair1 : List Row := [
  ⟨0x8210, 1, 0x09, 0x09, .u16, .ro, none, .num 0xffff, .any, 2, 2, 1, 0⟩, -- TWIN_HOPS
  ⟨0x8210, 1, 0x0A, 0x0A, .u32, .ro, none, .num 0, .any, 4, 4, 1, 0⟩, -- TWIN_HASH
  ⟨0x8210, 1, 0x0B, 0x0B, .u32, .rc, none, .num 0, .any, 4, 4, 1, 1⟩, -- TWIN_SWITCHES
  ⟨0x8210, 1, 0x0C, 0x0C, .u64, .ro, none, .num 0, .any, 8, 8, 1, 0⟩, -- MIRROR_RATE
  ⟨0x8210, 1, 0x0D, 0x0D, .u32, .rc, none, .num 0, .any, 4, 4, 1, 1⟩, -- TOKENS_MISSED
  ⟨0x8210, 1, 0x0E, 0x0E, .u32, .rc, none, .num 0, .any, 4, 4, 1, 1⟩, -- TWIN_MISMATCHES
  ⟨0x8210, 1, 0x0F, 0x0F, .bool, .wo, none, .num 0, .oneOf [1], 1, 1, 1, 1⟩] -- TWIN_SWITCH_REQ

/-- Objects of Tables 12-10 to 12-12. -/
def rowsMemory : List Row := [
  ⟨0x8000, 1, 0x01, 0x01, .u8, .rs, none, .num 0, .span 0 1, 1, 1, 1, 4⟩, -- REFRESH_RATE
  ⟨0x8000, 1, 0x02, 0x02, .u8, .rs, none, .num 0, .span 0 1, 1, 1, 1, 4⟩, -- REFRESH_MODE
  ⟨0x8000, 1, 0x03, 0x03, .u8, .rs, none, .num 0x50, .span 50 90, 1, 1, 1, 4⟩, -- DRAM_LIMIT
  ⟨0x8000, 1, 0x04, 0x04, .u16, .rs, none, .num 0x18, .span 1 168, 2, 2, 1, 4⟩, -- SCRUB_PERIOD
  ⟨0x8000, 1, 0x05, 0x05, .u8, .wo, (some 2), .num 0, .oneOf [0, 4], 1, 1, 1, 1⟩, -- RANK_RETIRE
  ⟨0x8000, 1, 0x06, 0x06, .u64, .ro, none, .num 0, .any, 8, 8, 1, 0⟩, -- DRAM_DEMAND
  ⟨0x8000, 1, 0x07, 0x07, .u64, .ro, none, .num 0, .any, 8, 8, 1, 0⟩, -- DRAM_DEMAND_B
  ⟨0x8000, 1, 0x08, 0x08, .u64, .ro, none, .num 0, .any, 8, 8, 1, 0⟩, -- DRAM_USED
  ⟨0x8000, 1, 0x09, 0x09, .u64, .ro, none, .num 0, .any, 8, 8, 1, 0⟩, -- DRAM_USED_B
  ⟨0x8001, 1, 0x01, 0x07, .u64, .rs, none, .maskDflt, .any, 8, 8, 1, 7⟩, -- MASK_SUB, MASK_CH0, MASK_CH1, MASK_BA0, MASK_BA1, MASK_BG0, MASK_BG1
  ⟨0x8002, 1, 0x01, 0x05, .u8, .rs, none, .num 0xff, .oneOf [0, 1, 2, 0xFF], 1, 1, 1, 4⟩, -- PAGE_HINT of class sub − 1
  ⟨0x8002, 1, 0x11, 0x15, .u32, .rs, none, .ageDflt, .span 100 1000000, 4, 4, 1, 4⟩, -- AGE_LIMIT of class sub − 0x11
  ⟨0x8010, 8, 0x01, 0x01, .u8, .ro, none, .num 0, .any, 1, 1, 1, 0⟩, -- BAND
  ⟨0x8010, 8, 0x02, 0x02, .i16, .ro, none, .num 0, .any, 2, 2, 1, 0⟩, -- TEMP
  ⟨0x8010, 8, 0x03, 0x03, .u32, .rc, none, .num 0, .any, 4, 4, 1, 1⟩, -- CE_COUNT
  ⟨0x8010, 8, 0x04, 0x04, .u32, .rc, none, .num 0, .any, 4, 4, 1, 1⟩, -- POISONED_LINES
  ⟨0x8010, 8, 0x05, 0x05, .u32, .rc, none, .num 0, .any, 4, 4, 1, 1⟩, -- CA_ALERTS
  ⟨0x8010, 8, 0x06, 0x06, .u32, .rc, none, .num 0, .any, 4, 4, 1, 1⟩, -- RETRAINS
  ⟨0x8010, 8, 0x07, 0x07, .u8, .ro, none, .num 0, .any, 1, 1, 1, 0⟩, -- RANK_STATE
  ⟨0x8010, 8, 0x08, 0x08, .u16, .ro, none, .num 0, .any, 2, 2, 1, 0⟩, -- MIGRATE_DONE
  ⟨0x8010, 8, 0x09, 0x09, .u64, .ro, none, .num 0, .any, 8, 8, 1, 0⟩, -- READ_BYTES
  ⟨0x8010, 8, 0x0A, 0x0A, .u64, .ro, none, .num 0, .any, 8, 8, 1, 0⟩, -- WRITE_BYTES
  ⟨0x8010, 8, 0x0B, 0x0B, .u32, .rc, none, .num 0, .any, 4, 4, 1, 1⟩, -- WQ_FULL_STALLS
  ⟨0x8010, 8, 0x0C, 0x0C, .u32, .rc, none, .num 0, .any, 4, 4, 1, 1⟩] -- INORDER_EVENTS

/-- Objects of Tables 12-10 to 12-12. -/
def rowsMemory1 : List Row := [
  ⟨0x8010, 8, 0x0D, 0x0D, .u32, .rc, none, .num 0, .any, 4, 4, 1, 1⟩, -- RFM_COUNT
  ⟨0x8010, 8, 0x0E, 0x0E, .block, .ro, none, .zeros 40, .any, 0, 40, 1, 0⟩, -- CLASS_BYTES
  ⟨0x8010, 8, 0x0F, 0x0F, .block, .ro, none, .zeros 48, .any, 0, 48, 1, 0⟩, -- DEVICE_CE
  ⟨0x8020, 2, 0x01, 0x01, .u32, .rc, none, .num 0, .any, 4, 4, 1, 1⟩, -- SRAM_CE
  ⟨0x8020, 2, 0x02, 0x02, .u32, .rc, none, .num 0, .any, 4, 4, 1, 1⟩, -- SRAM_UE
  ⟨0x8020, 2, 0x03, 0x03, .u16, .ro, none, .num 0, .any, 2, 2, 1, 0⟩, -- ROWS_REPAIRED
  ⟨0x8020, 2, 0x04, 0x04, .u16, .ro, none, .num 0, .any, 2, 2, 1, 0⟩, -- ROWS_PENDING
  ⟨0x8020, 2, 0x05, 0x05, .u16, .ro, none, .num 0, .any, 2, 2, 1, 0⟩] -- RET_VOLTAGE

/-- Objects of Tables 13-8 to 13-12. -/
def rowsFault : List Row := [
  ⟨0x9000, 20, 0x01, 0x01, .u32, .rc, none, .num 0, .any, 4, 4, 1, 1⟩, -- STATUS
  ⟨0x9000, 20, 0x02, 0x02, .u32, .ro, none, .num 0, .any, 4, 4, 1, 0⟩, -- PRESENT
  ⟨0x9000, 20, 0x03, 0x03, .u32, .rw, none, .alertDflt, .any, 4, 4, 1, 1⟩, -- ALERT_EN
  ⟨0x9000, 20, 0x04, 0x04, .u32, .rw, none, .num 0, .any, 4, 4, 1, 1⟩, -- IBI_EN
  ⟨0x9000, 20, 0x05, 0x05, .block, .ro, none, .zeros 24, .any, 0, 24, 1, 0⟩, -- CAPTURE
  ⟨0x9000, 20, 0x06, 0x06, .bool, .wo, none, .num 0, .oneOf [1], 1, 1, 1, 1⟩, -- CAPTURE_CLEAR
  ⟨0x9000, 20, 0x07, 0x07, .block, .ro, none, .zeros 64, .any, 0, 64, 1, 0⟩, -- COUNTS
  ⟨0x9000, 20, 0x08, 0x08, .block, .ro, none, .classes, .any, 0, 32, 1, 0⟩, -- CLASSES
  ⟨0x9100, 1, 0x01, 0x01, .u8, .rw, none, .num 1, .span 0 5, 1, 1, 1, 1⟩, -- ASH_MIN_CLASS
  ⟨0x9100, 1, 0x02, 0x02, .u8, .rs, none, .num 0, .span 0 1, 1, 1, 1, 4⟩, -- DAMPED_OUTPUT
  ⟨0x9100, 1, 0x03, 0x03, .u8, .ro, none, .num 0, .any, 1, 1, 1, 0⟩, -- RECOVERIES_NOW
  ⟨0x9100, 1, 0x04, 0x04, .block, .ro, none, .bytes [], .any, 0, 64, 1, 0⟩, -- RECOVERY_TABLE
  ⟨0x9100, 1, 0x05, 0x05, .u32, .rc, none, .num 0, .any, 4, 4, 1, 1⟩, -- ESCALATIONS
  ⟨0x9103, 2, 0x01, 0x01, .u8, .rw, none, .num 0, .span 0 1, 1, 1, 1, 1⟩, -- RECOVERY_MODE
  ⟨0x9103, 2, 0x02, 0x02, .u16, .rw, none, .num 0xa, .span 1 3600, 2, 2, 1, 1⟩, -- QUIET_PERIOD
  ⟨0x9103, 2, 0x03, 0x03, .u8, .rw, none, .num 3, .span 0 255, 1, 1, 1, 1⟩, -- RECOVERY_LIMIT
  ⟨0x9103, 2, 0x04, 0x04, .u16, .rw, none, .num 0xe10, .span 60 65535, 2, 2, 1, 1⟩, -- RECOVERY_WINDOW
  ⟨0x9103, 2, 0x05, 0x05, .u32, .rc, none, .num 0, .any, 4, 4, 1, 1⟩, -- RECOVERIES
  ⟨0x9103, 2, 0x06, 0x06, .u16, .wo, none, .num 0, .chk .release, 2, 2, 1, 1⟩, -- RELEASE
  ⟨0x9103, 2, 0x07, 0x07, .u16, .ro, none, .num 0, .any, 2, 2, 1, 0⟩, -- AWAITING
  ⟨0x9400, 1, 0x01, 0x01, .u32, .rw, none, .num 0, .any, 4, 4, 1, 1⟩, -- ASH_CURSOR
  ⟨0x9400, 1, 0x02, 0x02, .block, .ro, none, .bytes [], .any, 0, 4096, 1, 0⟩, -- ASH_READ
  ⟨0x9400, 1, 0x03, 0x03, .u32, .ro, none, .num 0, .any, 4, 4, 1, 0⟩, -- ASH_NEWEST
  ⟨0x9400, 1, 0x04, 0x04, .u32, .rc, none, .num 0, .any, 4, 4, 1, 1⟩] -- ASH_LOST

/-- Objects of Tables 13-8 to 13-12. -/
def rowsFault1 : List Row := [
  ⟨0x9400, 1, 0x05, 0x05, .bool, .wo, none, .num 0, .oneOf [1], 1, 1, 1, 1⟩, -- ASH_CLEAR
  ⟨0xF000, 1, 0x01, 0x01, .bool, .wo, none, .num 0, .oneOf [1], 1, 1, 1, 1⟩, -- INJ_STOP
  ⟨0xF000, 1, 0x02, 0x02, .u8, .ro, none, .num 0, .any, 1, 1, 1, 0⟩, -- INJ_ACTIVE
  ⟨0xF010, 4, 0x01, 0x01, .u32, .rw, none, .num 0, .chk .injTarget, 4, 4, 1, 1⟩, -- INJ_TARGET
  ⟨0xF010, 4, 0x02, 0x02, .u8, .rw, none, .num 1, .chk .injPattern, 1, 1, 1, 1⟩, -- INJ_PATTERN
  ⟨0xF010, 4, 0x03, 0x03, .u8, .rw, none, .num 0, .span 0 1, 1, 1, 1, 1⟩, -- INJ_MODE
  ⟨0xF010, 4, 0x04, 0x04, .bool, .rw, none, .num 0, .span 0 1, 1, 1, 1, 1⟩, -- INJ_ARM
  ⟨0xF010, 4, 0x05, 0x05, .u32, .rc, none, .num 0, .any, 4, 4, 1, 1⟩] -- INJ_FIRED

/-- Objects of Tables 14-11 to 14-15. -/
def rowsPower : List Row := [
  ⟨0xA000, 1, 0x01, 0x01, .u32, .ro, none, .num 0, .any, 4, 4, 1, 0⟩, -- VIN
  ⟨0xA000, 1, 0x02, 0x02, .u32, .rc, none, .num 0, .any, 4, 4, 1, 1⟩, -- VIN_MIN
  ⟨0xA000, 1, 0x03, 0x03, .u8, .ro, none, .num 0, .any, 1, 1, 1, 0⟩, -- SAG_LEVEL
  ⟨0xA000, 1, 0x04, 0x04, .u8, .rw, none, .num 0, .span 0 255, 1, 1, 1, 1⟩, -- SAG_PRIORITY_LINE
  ⟨0xA000, 1, 0x05, 0x05, .block, .ro, none, .zeros 20, .any, 0, 20, 1, 0⟩, -- SAG_COUNTS
  ⟨0xA000, 1, 0x06, 0x06, .u16, .rs, none, .num 0xbe, .span 60 190, 2, 2, 1, 4⟩, -- POWER_BUDGET
  ⟨0xA000, 1, 0x07, 0x07, .u32, .ro, none, .num 0, .any, 4, 4, 1, 0⟩, -- INPUT_POWER
  ⟨0xA000, 1, 0x08, 0x08, .u32, .ro, none, .num 0, .any, 4, 4, 1, 0⟩, -- STAGE_LOSS
  ⟨0xA000, 1, 0x09, 0x09, .u16, .ro, none, .num 0, .any, 2, 2, 1, 0⟩, -- VAUX33_LOAD
  ⟨0xA000, 1, 0x0A, 0x0A, .u32, .ro, none, .num 0, .any, 4, 4, 1, 0⟩, -- CORE_BUDGET
  ⟨0xA000, 1, 0x0B, 0x0B, .u32, .ro, none, .num 0, .any, 4, 4, 1, 0⟩, -- ALLOWANCE_A
  ⟨0xA000, 1, 0x0C, 0x0C, .u32, .ro, none, .num 0, .any, 4, 4, 1, 0⟩, -- ALLOWANCE_B
  ⟨0xA000, 1, 0x0D, 0x0D, .i32, .ro, none, .num 0, .any, 4, 4, 1, 0⟩, -- LEND
  ⟨0xA010, 2, 0x01, 0x01, .u32, .ro, none, .num 0, .any, 4, 4, 1, 0⟩, -- STOVE_POWER
  ⟨0xA010, 2, 0x02, 0x02, .block, .ro, none, .zeros 32, .any, 0, 32, 1, 0⟩, -- RAIL_POWER
  ⟨0xA010, 2, 0x03, 0x03, .i16, .ro, none, .num 0, .any, 2, 2, 1, 0⟩, -- T_HOT
  ⟨0xA010, 2, 0x04, 0x04, .u8, .ro, none, .num 0, .any, 1, 1, 1, 0⟩, -- HOT_NODE
  ⟨0xA010, 2, 0x05, 0x05, .block, .ro, none, .zeros 48, .any, 0, 48, 1, 0⟩, -- NODE_TEMPS
  ⟨0xA010, 2, 0x06, 0x06, .block, .ro, none, .zeros 12, .any, 0, 12, 1, 0⟩, -- DIODE_TEMPS
  ⟨0xA010, 2, 0x07, 0x07, .block, .ro, none, .zeros 6, .any, 0, 6, 1, 0⟩, -- DIODE_STATE
  ⟨0xA010, 2, 0x08, 0x08, .u8, .ro, none, .num 0, .any, 1, 1, 1, 0⟩, -- THERMAL_STATE
  ⟨0xA010, 2, 0x09, 0x09, .u8, .ro, none, .num 0, .any, 1, 1, 1, 0⟩, -- BAND
  ⟨0xA010, 2, 0x0A, 0x0A, .u8, .ro, none, .num 0, .any, 1, 1, 1, 0⟩, -- THERMAL_DEMAND
  ⟨0xA010, 2, 0x0B, 0x0B, .u32, .rc, none, .num 0, .any, 4, 4, 1, 1⟩] -- THROTTLE_TIME

/-- Objects of Tables 14-11 to 14-15. -/
def rowsPower1 : List Row := [
  ⟨0xA020, 1, 0x01, 0x01, .u8, .rw, none, .num 0x5f, .span 70 95, 1, 1, 1, 1⟩, -- WARN_LIMIT
  ⟨0xA020, 1, 0x02, 0x02, .u8, .rw, none, .num 0x69, .chk .throttleLimit, 1, 1, 1, 1⟩, -- THROTTLE_LIMIT
  ⟨0xA020, 1, 0x03, 0x03, .u8, .ro, none, .num 0x73, .any, 1, 1, 1, 0⟩, -- SHUTDOWN_LIMIT
  ⟨0xA030, 1, 0x01, 0x01, .block, .rw, none, .sames 16 128, .any, 16, 16, 1, 1⟩, -- CH_PRIORITY
  ⟨0xA040, 1, 0x01, 0x01, .bool, .rw, none, .num 1, .span 0 1, 1, 1, 1, 1⟩, -- WEAR_AUTO
  ⟨0xA040, 1, 0x02, 0x02, .u8, .rw, none, .num 4, .span 1 10, 1, 1, 1, 1⟩, -- WEAR_RETIRE
  ⟨0xA040, 1, 0x03, 0x03, .u8, .rw, none, .num 8, .chk .wearWarn, 1, 1, 1, 1⟩, -- WEAR_WARN
  ⟨0xA040, 1, 0x04, 0x04, .u32, .ro, none, .num 0, .any, 4, 4, 1, 0⟩, -- WEAR_CHANGES
  ⟨0xA040, 1, 0x05, 0x05, .u8, .rw, none, .num 0x1e, .span 10 60, 1, 1, 1, 1⟩, -- EYE_MIN
  ⟨0xA040, 1, 0x06, 0x06, .u32, .ro, none, .num 0, .any, 4, 4, 1, 0⟩, -- HOURS
  ⟨0xA041, 1, 0x01, 0x01, .block, .ro, none, .bytes [], .any, 0, 610, 1, 0⟩, -- WEAR_TABLE
  ⟨0xA050, 1, 0x01, 0x01, .u16, .rw, none, .num 0x1fff, .mask 0xE000, 2, 2, 1, 1⟩, -- WAKE_MASK
  ⟨0xA050, 1, 0x02, 0x02, .u16, .ro, none, .num 0, .any, 2, 2, 1, 0⟩, -- WAKE_CAUSE
  ⟨0xA050, 1, 0x03, 0x03, .u32, .ro, none, .num 0, .any, 4, 4, 1, 0⟩, -- BANK_COUNT
  ⟨0xA050, 1, 0x04, 0x04, .u32, .ro, none, .num 0, .any, 4, 4, 1, 0⟩] -- WAKE_TIME

/-- Objects of Tables 15-2 to 15-5. -/
def rowsOperator : List Row := [
  ⟨0xB000, 1, 0x01, 0x01, .u8, .rw, none, .num 0xff, .any, 1, 1, 1, 1⟩, -- KEY_ENABLE
  ⟨0xB000, 1, 0x02, 0x02, .u8, .rw, none, .num 0x14, .span 5 100, 1, 1, 1, 1⟩, -- DEBOUNCE
  ⟨0xB000, 1, 0x03, 0x03, .u16, .rw, none, .num 0x320, .span 200 10000, 2, 2, 1, 1⟩, -- LONG_TIME
  ⟨0xB000, 1, 0x04, 0x04, .u8, .ro, none, .num 0, .any, 1, 1, 1, 0⟩, -- KEY_STATE
  ⟨0xB000, 1, 0x05, 0x05, .block, .rw, none, .actionsDflt 16, .chk .keyActions, 128, 128, 1, 1⟩, -- KEY_ACTIONS
  ⟨0xB000, 1, 0x06, 0x06, .block, .ro, none, .zeros 64, .any, 0, 64, 1, 0⟩, -- KEY_COUNTS
  ⟨0xB008, 4, 0x01, 0x01, .u8, .rw, none, .num 0, .span 0 3, 1, 1, 1, 1⟩, -- LED_MODE
  ⟨0xB008, 4, 0x02, 0x02, .u16, .rw, none, .num 0, .span 0 4096, 2, 2, 1, 1⟩, -- LED_DUTY
  ⟨0xB008, 4, 0x03, 0x03, .u16, .rw, none, .num 0x3e8, .chk .ledPeriod, 2, 2, 1, 1⟩, -- LED_PERIOD
  ⟨0xB008, 4, 0x04, 0x04, .u16, .rw, none, .num 0x1f4, .chk .ledOnTime, 2, 2, 1, 1⟩, -- LED_ON_TIME
  ⟨0xB002, 1, 0x01, 0x01, .bool, .rs, none, .num 0, .span 0 1, 1, 1, 1, 4⟩, -- TCH_ENABLE
  ⟨0xB002, 1, 0x02, 0x02, .u8, .rs, none, .num 0x10, .span 8 0x77, 1, 1, 1, 4⟩, -- TCH_ADDR
  ⟨0xB002, 1, 0x03, 0x03, .u16, .rs, none, .num 1, .span 0 65535, 2, 2, 1, 4⟩, -- TCH_DESC_REG
  ⟨0xB002, 1, 0x04, 0x04, .u8, .rs, none, .num 0, .span 0 1, 1, 1, 1, 4⟩, -- TCH_SPEED
  ⟨0xB002, 1, 0x05, 0x05, .u8, .rs, none, .num 0, .span 0 100, 1, 1, 1, 4⟩, -- TCH_POLL
  ⟨0xB002, 1, 0x06, 0x06, .u8, .rs, none, .num 0, .span 0 15, 1, 1, 1, 4⟩, -- TCH_CHANNEL
  ⟨0xB002, 1, 0x07, 0x07, .u64, .rs, none, .num 0, .any, 8, 8, 1, 4⟩, -- TCH_MAP
  ⟨0xB002, 1, 0x08, 0x08, .u8, .rs, none, .num 0, .mask 0xF8, 1, 1, 1, 4⟩, -- TCH_ORIENT
  ⟨0xB002, 1, 0x09, 0x09, .u8, .ro, none, .num 0, .any, 1, 1, 1, 0⟩, -- TCH_STATE
  ⟨0xB002, 1, 0x0A, 0x0A, .u32, .ro, none, .num 0, .any, 4, 4, 1, 0⟩, -- TCH_VID_PID
  ⟨0xB002, 1, 0x0B, 0x0B, .u8, .ro, none, .num 0, .any, 1, 1, 1, 0⟩, -- TCH_CONTACTS
  ⟨0xB002, 1, 0x0C, 0x0C, .u32, .rc, none, .num 0, .any, 4, 4, 1, 1⟩, -- TCH_REPORTS
  ⟨0xB002, 1, 0x0D, 0x0D, .u32, .rc, none, .num 0, .any, 4, 4, 1, 1⟩, -- TCH_ERRORS
  ⟨0xB010, 16, 0x01, 0x01, .block, .rw, none, .zeros 1024, .chk .zoneTable, 1024, 1024, 1, 8⟩] -- ZONE_TABLE

/-- Objects of Tables 15-2 to 15-5. -/
def rowsOperator1 : List Row := [
  ⟨0xB010, 16, 0x02, 0x02, .block, .ro, none, .zeros 256, .any, 0, 256, 1, 0⟩, -- ZONE_HITS
  ⟨0xB020, 1, 0x01, 0x01, .block, .rw, none, .actionsDflt 4, .chk .plugActions, 32, 32, 1, 1⟩, -- PLUG_ACTIONS
  ⟨0xB020, 1, 0x02, 0x02, .u8, .ro, none, .num 0, .any, 1, 1, 1, 0⟩, -- PLUG_STATE
  ⟨0xB030, 1, 0x01, 0x01, .u8, .rw, none, .num 2, .span 1 16, 1, 1, 1, 1⟩, -- ACTION_LEAD
  ⟨0xB030, 1, 0x02, 0x02, .block, .wo, none, .bytes [], .chk .remoteAction, 24, 24, 1, 1⟩, -- REMOTE_ACTION
  ⟨0xB030, 1, 0x03, 0x03, .u32, .rc, none, .num 0, .any, 4, 4, 1, 1⟩, -- ACTIONS_APPLIED
  ⟨0xB030, 1, 0x04, 0x04, .u32, .rc, none, .num 0, .any, 4, 4, 1, 1⟩, -- ACTIONS_LATE
  ⟨0xB030, 1, 0x05, 0x05, .u32, .rc, none, .num 0, .any, 4, 4, 1, 1⟩] -- ACTIONS_DROPPED

/-- Objects of Tables 16-11 and 16-12. -/
def rowsGranil : List Row := [
  ⟨0x1000, 1, 0x01, 0x01, .str, .ro, none, .text "Welgus Semiconductor", .any, 0, 64, 1, 0⟩, -- VENDOR
  ⟨0x1000, 1, 0x02, 0x02, .str, .ro, none, .text "HM8120-A", .any, 0, 64, 1, 0⟩, -- PART_NUMBER
  ⟨0x1000, 1, 0x03, 0x03, .u64, .ro, none, .num 0, .any, 8, 8, 1, 0⟩, -- SERIAL
  ⟨0x1000, 1, 0x04, 0x04, .u32, .ro, none, .num 0, .any, 4, 4, 1, 0⟩, -- HW_REVISION
  ⟨0x1000, 1, 0x05, 0x05, .u32, .ro, none, .num 0, .any, 4, 4, 1, 0⟩, -- ROM_VERSION
  ⟨0x1000, 1, 0x06, 0x06, .u32, .ro, none, .num 0, .any, 4, 4, 1, 0⟩, -- FIRMWARE_VERSION
  ⟨0x1001, 1, 0x01, 0x01, .u8, .ro, none, .num 1, .any, 1, 1, 1, 0⟩, -- STATE
  ⟨0x1001, 1, 0x02, 0x02, .u8, .ro, none, .num 1, .any, 1, 1, 1, 0⟩, -- STATE_REQUESTED
  ⟨0x1001, 1, 0x03, 0x03, .u8, .ro, none, .num 1, .any, 1, 1, 1, 0⟩, -- LAST_STATE
  ⟨0x1001, 1, 0x04, 0x04, .u32, .rc, none, .num 0, .any, 4, 4, 1, 1⟩, -- STATE_CHANGES
  ⟨0x1001, 1, 0x05, 0x05, .u64, .ro, none, .num 0, .any, 8, 8, 1, 0⟩, -- UPTIME
  ⟨0x1002, 1, 0x01, 0x01, .u8, .ro, none, .num 0, .any, 1, 1, 1, 0⟩, -- LEVEL_NOW
  ⟨0x1002, 1, 0x02, 0x02, .u64, .wo, (some 0), .num 0, .chk .levelReq, 8, 8, 1, 1⟩, -- LEVEL_REQ
  ⟨0x1002, 1, 0x03, 0x03, .u32, .wo, (some 2), .num 0, .any, 4, 4, 1, 7⟩, -- PIN_1
  ⟨0x1002, 1, 0x04, 0x04, .u32, .wo, (some 2), .num 0, .any, 4, 4, 1, 7⟩, -- PIN_2
  ⟨0x1002, 1, 0x05, 0x05, .u32, .wo, (some 2), .num 0, .any, 4, 4, 1, 7⟩, -- PIN_3
  ⟨0x1002, 1, 0x06, 0x06, .u32, .rc, none, .num 0, .any, 4, 4, 1, 1⟩, -- PIN_FAILS
  ⟨0x1003, 1, 0x01, 0x01, .u32, .rw, (some 0), .num 0, .mask 0xFF000000, 4, 4, 1, 1⟩, -- OBJECT_SEL
  ⟨0x1003, 1, 0x02, 0x02, .u64, .ro, none, .num 0, .any, 8, 8, 1, 0⟩, -- OBJECT_INFO
  ⟨0x1100, 1, 0x01, 0x01, .u16, .rw, none, .num 0x3e8, .span 100 60000, 2, 2, 1, 1⟩, -- SEG_TIMEOUT
  ⟨0x1100, 1, 0x02, 0x02, .u16, .rw, none, .num 0x64, .span 10 10000, 2, 2, 1, 1⟩, -- FWD_TIMEOUT
  ⟨0x1100, 1, 0x03, 0x03, .bool, .rw, none, .num 0, .span 0 1, 1, 1, 1, 1⟩, -- RESP_IBI
  ⟨0x1100, 1, 0x04, 0x04, .u8, .ro, none, .num 1, .any, 1, 1, 1, 0⟩, -- SESSIONS_NOW
  ⟨0x1100, 1, 0x05, 0x05, .u8, .ro, none, .num 0, .any, 1, 1, 1, 0⟩] -- SEG_OPEN

/-- Objects of Tables 16-11 and 16-12. -/
def rowsGranil1 : List Row := [
  ⟨0x1100, 1, 0x06, 0x06, .u32, .rc, none, .num 0, .any, 4, 4, 1, 1⟩, -- CRC_ERRORS
  ⟨0x1100, 1, 0x07, 0x07, .u32, .rc, none, .num 0, .any, 4, 4, 1, 1⟩, -- ABORTS_SENT
  ⟨0x1100, 1, 0x08, 0x08, .u32, .rc, none, .num 0, .any, 4, 4, 1, 1⟩, -- REPLAYS
  ⟨0x1100, 1, 0x09, 0x09, .u32, .rc, none, .num 0, .any, 4, 4, 1, 1⟩, -- FORWARDED
  ⟨0x1110, 1, 0x01, 0x01, .u8, .ro, none, .num 0, .any, 1, 1, 1, 0⟩, -- DYN_ADDR
  ⟨0x1110, 1, 0x02, 0x02, .u64, .ro, none, .num 0, .any, 8, 8, 1, 0⟩, -- PID
  ⟨0x1110, 1, 0x03, 0x03, .u8, .ro, none, .num 0x26, .any, 1, 1, 1, 0⟩, -- BCR
  ⟨0x1110, 1, 0x04, 0x04, .u8, .ro, none, .num 0, .any, 1, 1, 1, 0⟩, -- DCR
  ⟨0x1110, 1, 0x05, 0x05, .bool, .rw, none, .num 1, .span 0 1, 1, 1, 1, 1⟩, -- HOTJOIN
  ⟨0x1110, 1, 0x06, 0x06, .u16, .ro, none, .num 0x100e, .any, 2, 2, 1, 0⟩, -- MWL
  ⟨0x1110, 1, 0x07, 0x07, .u16, .ro, none, .num 0x100e, .any, 2, 2, 1, 0⟩, -- MRL
  ⟨0x1110, 1, 0x08, 0x08, .u32, .rc, none, .num 0, .any, 4, 4, 1, 1⟩, -- PARITY_ERRORS
  ⟨0x1110, 1, 0x09, 0x09, .u32, .rc, none, .num 0, .any, 4, 4, 1, 1⟩, -- READ_NACKS
  ⟨0x1110, 1, 0x0A, 0x0A, .u32, .rc, none, .num 0, .any, 4, 4, 1, 1⟩, -- HDR_ERRORS
  ⟨0x1120, 1, 0x01, 0x01, .bool, .rs, none, .num 0, .span 0 1, 1, 1, 1, 4⟩, -- MGMT_ENABLE
  ⟨0x1120, 1, 0x02, 0x02, .u16, .rs, none, .num 0xb7fc, .span 1024 65535, 2, 2, 1, 4⟩, -- MGMT_UDP
  ⟨0x1120, 1, 0x03, 0x03, .u16, .rs, none, .num 3, .mask 0xFC00, 2, 2, 1, 4⟩, -- MGMT_PORTS
  ⟨0x1120, 1, 0x04, 0x04, .u64, .rs, none, .num 0, .chk .mgmtAllow, 8, 8, 1, 4⟩, -- MGMT_ALLOW
  ⟨0x1120, 1, 0x05, 0x05, .u16, .rw, none, .num 0x3c, .span 10 3600, 2, 2, 1, 1⟩, -- MGMT_IDLE
  ⟨0x1120, 1, 0x06, 0x06, .u8, .ro, none, .num 0, .any, 1, 1, 1, 0⟩, -- MGMT_SESSIONS
  ⟨0x1120, 1, 0x07, 0x07, .u32, .rc, none, .num 0, .any, 4, 4, 1, 1⟩] -- MGMT_DROPS

/-- Objects of Tables 17-7 and 17-8. -/
def rowsCommit : List Row := [
  ⟨0x1F00, 1, 0x01, 0x01, .u32, .wo, (some 2), .num 0, .any, 4, 4, 1, 1⟩, -- COMMIT_REQ
  ⟨0x1F00, 1, 0x02, 0x02, .u8, .ro, none, .num 0, .any, 1, 1, 1, 0⟩, -- COMMIT_STATUS
  ⟨0x1F00, 1, 0x03, 0x03, .bool, .wo, none, .num 0, .oneOf [1], 1, 1, 1, 1⟩, -- START
  ⟨0x1F00, 1, 0x04, 0x04, .bool, .wo, none, .num 0, .oneOf [1], 1, 1, 1, 1⟩, -- STOP
  ⟨0x1F00, 1, 0x05, 0x05, .bool, .wo, none, .num 0, .oneOf [1], 1, 1, 1, 1⟩, -- BANK
  ⟨0x1F00, 1, 0x06, 0x06, .bool, .wo, (some 2), .num 0, .oneOf [1], 1, 1, 1, 1⟩, -- RESET
  ⟨0x1F00, 1, 0x07, 0x07, .bool, .rw, none, .num 0, .span 0 1, 1, 1, 1, 1⟩, -- HOLD_RESUME
  ⟨0x1F00, 1, 0x08, 0x08, .bool, .ro, none, .num 0, .any, 1, 1, 1, 0⟩, -- HOLD_STATE
  ⟨0x1F00, 1, 0x09, 0x09, .u32, .ro, none, .num 0, .any, 4, 4, 1, 0⟩, -- PENDING_WRITES
  ⟨0x1F00, 1, 0x0A, 0x0A, .u32, .ro, none, .num 0, .any, 4, 4, 1, 0⟩, -- COMMITS
  ⟨0x1F00, 1, 0x0B, 0x0B, .u32, .rc, none, .num 0, .any, 4, 4, 1, 1⟩, -- REFUSALS
  ⟨0x1F00, 1, 0x0C, 0x0C, .time, .ro, none, .num 0, .any, 12, 12, 1, 0⟩, -- LAST_COMMIT_TIME
  ⟨0x1F00, 1, 0x0E, 0x0E, .u8, .ro, none, .num 0, .any, 1, 1, 1, 0⟩, -- RESET_CAUSE
  ⟨0x1F01, 1, 0x01, 0x01, .block, .ro, none, .bytes [], .any, 0, 128, 1, 0⟩, -- ERROR_LIST
  ⟨0x1F01, 1, 0x02, 0x02, .u16, .ro, none, .num 0, .any, 2, 2, 1, 0⟩, -- ERROR_COUNT
  ⟨0x1F10, 1, 0x01, 0x01, .block, .wo, (some 2), .bytes [], .any, 0, 25165824, 1, 1⟩, -- FIRMWARE_IMAGE
  ⟨0x1F11, 1, 0x01, 0x01, .u8, .ro, none, .num 0, .any, 1, 1, 1, 0⟩, -- FIRMWARE_STATUS
  ⟨0x1F11, 1, 0x02, 0x02, .u32, .ro, none, .num 0, .any, 4, 4, 1, 0⟩, -- IMAGE_VERSION
  ⟨0x1F11, 1, 0x03, 0x03, .u32, .rc, none, .num 0, .any, 4, 4, 1, 1⟩, -- IMAGE_REFUSALS
  ⟨0x1F20, 1, 0x01, 0x01, .block, .rw, (some 2), .bytes [], .any, 32, 16416, 16, 1⟩] -- WEAR_RECORD

/-- Every object of the dictionary (R397). -/
def dictRows : List Row :=
  rowsCanvas ++ rowsCanvas1 ++ rowsRate ++ rowsRate1 ++ rowsGrate ++ rowsComp ++ rowsComp1 ++ rowsComp2 ++ rowsInput ++ rowsInput1 ++ rowsInput2 ++ rowsInput3 ++ rowsOutput ++ rowsOutput1 ++ rowsOutput2 ++
  rowsTime ++
  rowsTime1 ++
  rowsTime2 ++ rowsAudio ++ rowsAudio1 ++ rowsFlue ++ rowsFlue1 ++ rowsPair ++ rowsPair1 ++ rowsMemory ++ rowsMemory1 ++
  rowsFault ++
  rowsFault1 ++ rowsPower ++ rowsPower1 ++ rowsOperator ++ rowsOperator1 ++ rowsGranil ++ rowsGranil1 ++ rowsCommit

/-- The key of an object: index and subindex in one number. -/
def key (idx sub : Nat) : Nat := idx * 256 + sub

def keyIdx (k : Nat) : Nat := k / 256
def keySub (k : Nat) : Nat := k % 256

/-- Whether a row gives an object at the index and subindex. -/
def Row.at (r : Row) (idx sub : Nat) : Bool :=
  decide (r.idx ≤ idx) && decide (idx < r.idx + r.cnt) && decide (r.sub ≤ sub) && decide (sub ≤ r.subHi)

def Row.atIdx (r : Row) (idx : Nat) : Bool := decide (r.idx ≤ idx) && decide (idx < r.idx + r.cnt)

/-- The row of an object (R369); subindex 0 has none. -/
def rowOf (k : Nat) : Option Row := dictRows.find? (fun r => r.at (keyIdx k) (keySub k))

/-- Whether an index is defined (R5, R397). -/
def idxDefined (idx : Nat) : Bool := dictRows.any (fun r => r.atIdx idx)

/-- Subindex 0 of a defined index: its highest defined subindex (R369). -/
def topSub (idx : Nat) : Nat := maxList ((dictRows.filter (fun r => r.atIdx idx)).map Row.subHi)

/-- Table 12-4: default masks of the DRAM address map. -/
def maskDefaults : List Nat :=
  [0xFFFFFFFFFF1C140C, 0xFFFFFFFF1F19130D, 0xFFFFFFFF211B150E, 0xFFFFFFFFFF19150F, 0xFFFFFFFFFF1A1610,
   0xFFFFFFFFFF171311, 0xFFFFFFFFFF181412]

/-- Table 12-5: default AGE_LIMIT of each requester class, in ns. -/
def ageDefaults : List Nat := [1000, 1000, 2000, 4000, 20000]

/-- Default entry of FLOW_TX_TABLE, entry e (Table 7-10). -/
def flowTxEntry (e : Nat) : List Byte :=
  leBytes 2 0 ++ leBytes 2 0 ++ leBytes 4 0 ++ leBytes 4 0 ++ leBytes 1 96 ++
  leBytes 1 (if 4096 ≤ e then 6 else 5) ++ leBytes 1 1 ++ leBytes 1 0 ++ leBytes 1 0 ++ leBytes 1 34 ++
  leBytes 2 0 ++ leBytes 2 5004 ++ leBytes 2 5004 ++ leBytes 4 0 ++ leBytes 4 0

/-- Default region record (Table 5-11): K is 3. -/
def regionEntry : List Byte := leBytes 10 0 ++ leBytes 1 3 ++ leBytes 5 0

/-- Default action record (Tables 15-2 and 15-5): ACTION 0x00, EVENT_LINE 0xFF. -/
def actionEntry : List Byte := Config.actionRecordDefault

/-- The value an object holds at power-up (R372): the Default column of its table. -/
def Dflt.val (d : Dflt) (k : Nat) : Val :=
  match d with
  | .num v => .n v
  | .bytes vs => .b (vs.map (BitVec.ofNat 8))
  | .zeros n => .b (List.replicate n 0)
  | .sames n v => .b (List.replicate n (BitVec.ofNat 8 v))
  | .text s => .b (asciiBytes s)
  | .lutRamp => .b Config.lutRamp
  | .matIdentity => .b Config.matIdentity
  | .coefTable => .b (Config.coefDefault (keySub k - 1))
  | .regionDflt => .b (List.replicate 64 regionEntry).flatten
  | .flowTxDflt => .b ((List.range 4128).map flowTxEntry).flatten
  | .flowRcDflt => .b ((List.range 4096).map (fun _ => leBytes 4 80)).flatten
  | .actionsDflt n => .b (List.replicate n actionEntry).flatten
  | .alertDflt => .n (alertDefault (keyIdx k - 0x9000))
  | .maskDflt => .n (maskDefaults.getD (keySub k - 1) 0)
  | .ageDflt => .n (ageDefaults.getD (keySub k - 0x11) 0)
  | .classes => .b ((List.range 32).map (fun b => BitVec.ofNat 8 (classCode (32 * (keyIdx k - 0x9000) + b))))

/-- The power-up value of an object; 0 where no object is defined. -/
def dfltOf (k : Nat) : Val :=
  match rowOf k with
  | some r => r.dflt.val k
  | none => .n 0

/-- Bytes of a fixed-size type (Table 16-1). -/
def Ty.size : Ty → Nat
  | .bool | .u8 => 1
  | .u16 | .i16 => 2
  | .u32 | .i32 | .q => 4
  | .u64 | .i64 => 8
  | .time => 12
  | .str | .block => 0

/-- Type codes of Table 16-1. -/
def Ty.code : Ty → Nat
  | .bool => 1 | .u8 => 2 | .u16 => 3 | .u32 => 4 | .u64 => 5 | .i16 => 6 | .i32 => 7 | .i64 => 8
  | .q => 9 | .time => 0xA | .str => 0xB | .block => 0xC

/-- ACCESS codes of Table 16-4. -/
def Acc.code : Acc → Nat
  | .ro => 0 | .rw => 1 | .rs => 2 | .wo => 3 | .rc => 4

/-- Whether an index is one of the injection objects, which need level 3 for every operation (R331, R371). -/
def injIdx (idx : Nat) : Bool := decide (0xF000 ≤ idx ∧ idx ≤ 0xF0FF)

/-- The level a READ needs (Table 16-2); `none` where it is not allowed. -/
def Row.readLevel (r : Row) (idx : Nat) : Option Nat :=
  if r.acc = .wo then none else if injIdx idx then some 3 else some 0

/-- The level a WRITE needs (Table 16-2, R371); `none` where it is not allowed. -/
def Row.writeLevel (r : Row) (idx : Nat) : Option Nat :=
  if r.acc = .ro then none else if injIdx idx then some 3 else
  match r.lvl with
  | some l => some l
  | none => if r.acc = .rs then some 2 else some 1

/-- OBJECT_INFO of an object (Table 16-4). -/
def Row.info (r : Row) (idx : Nat) : Nat :=
  r.hi * 2 ^ 32 + r.apply * 2 ^ 24 + ((r.writeLevel idx).getD 0xF) * 2 ^ 12 + ((r.readLevel idx).getD 0xF) * 2 ^ 8
    + r.acc.code * 2 ^ 4 + r.ty.code

/-- OBJECT_INFO of subindex 0 of a defined index, an RO U8 readable at level 0 (R369). -/
def infoSub0 : Nat := 1 * 2 ^ 32 + 0xF * 2 ^ 12 + Ty.code .u8

/-- A value as the bytes a response carries (R370). -/
def valBytes (v : Val) (ty : Ty) : List Byte :=
  match v with
  | .n x => leBytes ty.size x
  | .b bs => bs

/-- The value that bytes of an object's type spell. -/
def Ty.read (ty : Ty) (bs : List Byte) : Val :=
  match ty with
  | .str | .block => .b bs
  | _ => .n (leNat bs)

end Sys2Proof.Machine
end

