-- ==== Sys2Proof/Machine/State.lean ====
section
/-!
DEFINITION. The state of the module as plain data: the object dictionary's stores, the hidden state each chapter gives
its part, the instant reached, what the last command sent out, and the queue of commands that wait.
-/
namespace Sys2Proof.Machine

/-- Why a run stops: an address the spec gives no memory. -/
inductive Fault where
  /-- Raised by the memory operations at a line address past the DRAM that the address map lays out (Table 12-3). Safe: nothing is
  claimed of such an access. -/
  | noSuchAddress
deriving DecidableEq, Repr

/-- Why a command is refused. -/
inductive Refusal where
  /-- Raised by the dispatch for a command that has no meaning yet. Safe: nothing is claimed of it. -/
  | notModelled (mnemonic : String)
deriving DecidableEq, Repr

/-- The six module states, with the codes of STATE (R2). -/
inductive Mode where
  | kindling | laid | lit | banked | damped | cold
deriving DecidableEq, Repr

/-- How far power-up has come (Table 17-1). -/
inductive Boot where
  /-- Unpowered: the power stage does not convert. -/
  | off
  /-- The stage converts; the rails are not yet all in regulation. -/
  | converting
  /-- PG asserted, the always-on domain runs. -/
  | pg
  /-- The root PLL is locked; the boot ROM runs its self-tests. -/
  | pll
  /-- STATE reports a module state. -/
  | up
deriving DecidableEq, Repr

/-- Bring-up and states (chapters 0 and 17). -/
structure Sys where
  boot : Boot := .off
  rstLow : Bool := false
  mode : Mode := .kindling
  modeReq : Mode := .kindling
  modeLast : Mode := .kindling
  /-- Instant of power-up or reset, from which UPTIME counts. -/
  upAt : Nat := 0
  /-- The firmware image runs (R404). -/
  fwRuns : Bool := false
  /-- The image held or being checked: its bytes. -/
  image : List Byte := []
  /-- WEAR_RECORD has been written since power-up (R354, R408). -/
  wearWritten : Bool := false
  /-- The pending copies as they stood at COMMIT_REQ, with its value, while validation runs (R408). -/
  validating : Option (Nat × Tbl Val) := none
  /-- A commit has been accepted since power-up (R408). -/
  everAccepted : Bool := false
  /-- START accepted in LAID: the instant from which the 1 ms of R413 runs; none while deferred by HOLD_N (R415). -/
  startFrom : Option (Option Nat) := none
  /-- STOP makes LAID the state to which DAMPED returns (R414). -/
  stopInDamped : Bool := false
  /-- The state that DAMPED was entered from (R321). -/
  dampedFrom : Mode := .laid
  /-- Instant of the fault that DAMPED came from, and whether its outputs are muted, and whether it came of the last
  gasp (R321, R339). -/
  dampedAt : Nat := 0
  dampedMute : Bool := false
  dampedGasp : Bool := false
  /-- BANK accepted: channels are stopping, or entry runs (R349); no request is answered (R388). -/
  banking : Bool := false
  holdN : Bool := false
  /-- Channels whose stop makes the module leave LIT (R414): a stop is under way. -/
  stopping : Bool := false
  /-- The stop under way is HOLD_N's, after which HOLD_RESUME may defer a START (R415). -/
  holdStop : Bool := false
  /-- Wake under way since this instant; deferred while VIN is below 34.0 V (R351, R336). -/
  wakeFrom : Option Nat := none
  wakeHeld : Bool := false
  /-- TEST_RST_N is high (R429), and the instruction each stove's TAP holds. -/
  testRstHigh : Bool := false
  tapA : Nat := 0
  tapB : Nat := 0
  /-- The DRAM channels found usable, and those whose spare rank was trained (R399). -/
  dramUsable : Nat := 0
  dramSpare : Nat := 0
deriving DecidableEq, Repr

/-- A capture record (Table 13-2). -/
structure Capture where
  ts : Nat := 0
  addr : Nat := 0
  init : Nat := 0
  source : Nat := 0
  access : Nat := 0
  cls : Nat := 0
  addrValid : Bool := false
  escalated : Bool := false
  injected : Bool := false
  overflow : Nat := 0
deriving DecidableEq, Repr

/-- An Ash record (Table 13-6), with whether ASH_READ has returned it and the instant of detection. -/
structure AshRec where
  cap : Capture
  seq : Nat
  kind : Nat
  state : Nat
  reps : Nat := 0
  wasRead : Bool := false
  at_ : Nat := 0
deriving DecidableEq, Repr

/-- A present occurrence: its source, its domain, its effective class, and the instant its PRESENT bit ends (none for
a condition, which stays until it is withdrawn). -/
structure Presence where
  source : Nat
  dom : Nat
  cls : Nat
  till : Option Nat := none
deriving DecidableEq, Repr

/-- A recovery (R323, R324): its domain, the fault it came of, its class, the instant its quiet period ends (none while
a source is present), whether it awaits host release, whether it is a switch-over (R278). -/
structure Recovery where
  dom : Nat
  cls : Nat
  cap : Capture
  quietEnd : Option Nat := none
  host : Bool := false
  awaiting : Bool := false
  switchOver : Bool := false
deriving DecidableEq, Repr

/-- The fault collector (chapter 13). -/
structure Faults where
  present : List Presence := []
  /-- COUNTS of every source (R316). -/
  counts : Tbl Nat := []
  captures : List (Nat × Capture) := []
  ash : List AshRec := []
  nextSeq : Nat := 0
  /-- The four recovery slots (R328). -/
  slots : Tbl (Option Recovery) := []
  /-- The recovery of the module, DAMPED itself (R323). -/
  module : Option Recovery := none
  /-- Completed recoveries: domain, class, instant (R327). -/
  done : List (Nat × Nat × Nat) := []
  /-- Switch-overs made with no free slot are shown in none (R328); skeins in a withy recovery (R326). -/
  withyRec : Tbl Bool := []
  /-- Interrupt requested and not yet sent, by group: the mandatory byte; and groups whose interrupt is outstanding
  until STATUS is read (R318). -/
  ibiWait : Tbl Nat := []
  ibiOut : Tbl Bool := []
deriving DecidableEq, Repr

/-- The time counter (R201). `mono` counts the counter's advance and is never stepped; the counter is `mono + off`, so
that a step moves no instant held in `mono` (R203). Both in 2^-40 ns. -/
structure Clock where
  mono : Nat := 0
  off : Int := 0
  /-- Instant up to which `mono` is brought. -/
  at_ : Nat := 0
  /-- The servo's frequency correction y in 10^-12. -/
  y : Int := 0
  run : Bool := false
  /-- Stove B's counter less stove A's in 2^-40 ns, and a reload that waits for a frame boundary (R27). -/
  diffB : Int := 0
  reloadB : Bool := false
deriving DecidableEq, Repr

/-- Thermal state of one stove (R343 to R348). -/
structure Heat where
  /-- Model temperatures of the 24 nodes and of the spare positions d4 and d5, in 1/16 °C; corrections of the nodes in 2^-20 of
  that. -/
  model : List Int := List.replicate 24 0
  spare : List Int := [0, 0]
  corr : List Int := List.replicate 24 0
  /-- Diodes: 0 idle spare, 1 in service, 2 qualifying, 3 failed, 4 failed by wear record. -/
  diode : List Nat := [1, 1, 1, 1, 0, 0]
  /-- The active diode each spare stands in for, or will. -/
  stands : List (Option Nat) := [none, none]
  /-- Guard of each active diode's node: the correction is frozen and 6 °C added (R345). -/
  guard : List Bool := [false, false, false, false]
  /-- Last reading and the instant from which it has not changed; node power then; instants from which the difference
  has exceeded 15 °C, has lain between 8 and 15 °C, and from which a qualifying spare has agreed. -/
  last : List Int := List.replicate 6 0
  sameFrom : List (Option Nat) := List.replicate 6 none
  powerThen : List Nat := List.replicate 6 0
  farFrom : List (Option Nat) := List.replicate 6 none
  nearFrom : List (Option Nat) := List.replicate 6 none
  agreeFrom : List (Option Nat) := List.replicate 2 none
  warn : Bool := false
  throttle : Bool := false
  /-- Thermal demand of the stove (R346). -/
  demand : Nat := 0
  /-- THROTTLE is left: the demand rises every 200 ms (R347). -/
  recovering : Bool := false
  /-- A diode failed in THROTTLE: the leave point must hold for 60 s, from this instant when it holds now. -/
  hold60 : Bool := false
  holdFrom : Option Nat := none
  stepAt : Nat := 0
  shutdown : Bool := false
deriving DecidableEq, Repr

/-- Power (chapter 14). -/
structure Power where
  vin : Nat := 0
  /-- A sample has been taken since power-up. -/
  sampled : Bool := false
  /-- The stage is latched off: until VIN falls below 27.0 V, or for good until then (R334). -/
  latched : Bool := false
  /-- Samples of the current millisecond, newest first (R335). -/
  samples : List RailSmp := []
  /-- Highest sag level in force (R336); at level 5 the last gasp has been given. -/
  sag : Nat := 0
  /-- Allowances before lending, in mW (R28), and what A lends to B (positive) or B to A. -/
  baseA : Nat := 0
  baseB : Nat := 0
  lend : Int := 0
  /-- Unused allowance of the last 10 ms by stove, newest first (R29). -/
  unusedA : List Int := []
  unusedB : List Int := []
  /-- Milliseconds for which power has stayed more than 5 W below the allowance, by stove (R341). -/
  under : List Nat := [0, 0]
  /-- Power demand of each channel, instant of its last change, and the lowered channels, newest first. -/
  demand : Tbl Nat := []
  demandAt : Tbl Nat := []
  lowered : List Nat := []
  /-- Instant of the last group 1 source 9 or 10 (once per second). -/
  overAt : List (Option Nat) := [none, none]
  heatA : Heat := {}
  heatB : Heat := {}
  /-- Retention voltage of BANKED by stove, mV (R312). -/
  retention : List Nat := [0, 0]
  /-- CH_PRIORITY and SAG_PRIORITY_LINE as each channel last took them at a frame start (R355). -/
  prioNow : Tbl Nat := []
  lineNow : Tbl Nat := []
deriving DecidableEq, Repr

/-- An entry of the wear record (Table 14-10). -/
structure WearEntry where
  kind : Nat
  flags : Nat
  unit : Nat
  margin : Nat
  hours : Nat
deriving DecidableEq, Repr

/-- Wear (R352 to R354). -/
structure Wear where
  entries : List WearEntry := []
  seq : Nat := 0
  changes : Nat := 0
  /-- Hours written back at power-up. -/
  hours0 : Nat := 0
  /-- Instant of power-up, from which HOURS counts across resets (R416). -/
  from_ : Nat := 0
  /-- Last margins (WEAR_TABLE): 0x8000 not measured. -/
  margins : Tbl Nat := []
  /-- Consecutive measurements below WEAR_RETIRE by withy; seconds below EYE_MIN by Flue lane. -/
  low : Tbl Nat := []
  /-- Instant of each part's last measurement. -/
  lastAt : Tbl (Option Nat) := []
deriving DecidableEq, Repr

/-- A source picture as its samples (R151, R162): size, sampling (1 4:2:2, 2 4:4:4, 3 4:2:0, 4 RGB), depth, colour code
with [7] full range, and its planes row by row: Y' or R, Cb or G, Cr or B, and alpha where it has one. -/
structure Pic where
  w : Nat
  h : Nat
  samp : Nat
  depth : Nat
  colour : Nat
  planes : List (List Nat)
deriving DecidableEq, Repr

/-- A complete source frame in a frame buffer (R151 to R154): its number, picture, frame time (of `Clock.mono`), and the instants of
completion and release, and the addresses of its poisoned lines. -/
structure SrcFrame where
  id : Nat
  pic : Pic
  tsrc : Int
  doneAt : Nat
  releaseAt : Nat
  released : Bool
  poisoned : List Nat := []
deriving DecidableEq, Repr

/-- A frame being captured: its key (RTP timestamp, HDMI frame number or Tsrc), the samples written by plane and
position, instants of the last packet and of the first packet of a later frame. -/
structure Capturing where
  key : Nat
  tsrc : Int
  /-- Size, sampling, depth and colour of a relayed frame, whose lines carry them. -/
  w : Nat := 0
  h : Nat := 0
  samp : Nat := 0
  depth : Nat := 0
  colour : Nat := 0
  /-- No buffer was free: the frame is not written (R151). -/
  skipped : Bool := false
  samples : Tbl (Option Nat) := []
  lastAt : Nat
  laterAt : Option Nat := none
  /-- Instant of its first packet; lines that relay-out has sent (R166). -/
  firstAt : Nat := 0
  sent : List Nat := []
deriving DecidableEq, Repr

/-- A capture input (R150): ingest stream s at s, HDMI sink p at 16 + p, relay-in slot r at 18 + r. -/
structure Input where
  ring : List SrcFrame := []
  busy : List Capturing := []
  nextId : Nat := 1
  /-- Extended sequence numbers seen, with the instant and leg of the first copy (R157). -/
  seen : List (Nat × Nat × Nat) := []
  /-- Packets out of format in a row (R155); instants of the last packet of each leg, and legs reported lost. -/
  badRun : Nat := 0
  legAt : List (Option Nat) := [none, none]
  legLost : List Bool := [false, false]
  /-- Arrival differences of leg B against leg A in the last second: instant and difference (R157). -/
  skews : List (Nat × Int) := []
  /-- Highest extended sequence number counted, and the instant of the last late-frame event. -/
  high : Option Nat := none
  /-- Runs of extended sequence numbers missing so far: first, count, and the instant they were passed over. -/
  gaps : List (Nat × Nat × Nat) := []
  lateEventAt : Option Nat := none
  /-- Format that the next complete frame of an HDMI sink takes: size, sampling, depth, colour, period in ns. -/
  w : Nat := 0
  h : Nat := 0
  samp : Nat := 1
  depth : Nat := 8
  colour : Nat := 1
  periodNs : Nat := 0
  /-- Frames completed or discarded in the last second: key, frame time, and the instants of their first packet and of their end. -/
  closed : List (Nat × Int × Nat × Nat) := []
  /-- Instant at which the input came into use, and its capture unit (R150). -/
  since : Nat := 0
  unit : Nat := 0
  /-- First sequence number of the stream, the runs counted as lost, the highest number of each leg, and the number after one that fell back
  on it (R157). -/
  low : Option Nat := none
  lost : List (Nat × Nat) := []
  legHigh : List (Option Nat) := [none, none]
  legBack : List (Option Nat) := [none, none]
  /-- IN_STATE 0x04 stands (R155). -/
  formatErr : Bool := false
deriving DecidableEq, Repr

/-- An HDMI sink's contacts and debouncing (R159 to R161, R367). -/
structure Hdmi where
  fiveV : Bool := false
  /-- The debounced state of +5V_DET, and the instant its debounce ends. -/
  plugged : Bool := false
  debounceAt : Option Nat := none
  hpd : Bool := false
  /-- HPD is low until this instant (R160). -/
  lowUntil : Option Nat := none
  edidWritten : Bool := false
  locked : Bool := false
  segment : Nat := 0
  scdc : Tbl Nat := []
  /-- Offset of the next EDID or SCDC byte. -/
  offset : Nat := 0
  /-- Locked to a timing outside Table 6-2; its AVI InfoFrame names a format outside it; FRL training (R158). -/
  unsup : Bool := false
  fmtBad : Bool := false
  training : Bool := false
  /-- Character errors of each lane since the source read them. -/
  ced : List Nat := [0, 0, 0, 0]
deriving DecidableEq, Repr

/-- A library item (R162 to R165): its definition, space, lines written, whether done, and a second copy being
uploaded. -/
structure ItemCopy where
  w : Nat
  h : Nat
  format : Nat
  colour : Nat
  frames : Nat
  rate : Nat
  space : Nat
  /-- Stove whose DRAM holds it (R292). -/
  stove : Nat
  /-- Number of the upload, by which a layer tells one copy from the next. -/
  ver : Nat
  /-- Samples of each line written: frame × height + line. -/
  lines : Tbl (Option (List Nat)) := []
  /-- Addresses of its poisoned lines: so on every read until it is uploaded again (Table 12-7). -/
  poisoned : List Nat := []
deriving DecidableEq, Repr

structure Item where
  cur : Option ItemCopy := none
  curDone : Bool := false
  second : Option ItemCopy := none
  /-- Old copies kept until no canvas has them latched: number, space and stove. -/
  old : List (Nat × Nat × Nat) := []
  /-- The objects 2300:04 to 0E as they stand while another item is selected. -/
  defs : Tbl Val := []
  /-- Tsrc of the first latch after ITEM_DONE, which replaces an epoch of 0 (R165). -/
  firstLatch : Option Nat := none
deriving DecidableEq, Repr

/-- A relay-out entry (R166, R246), 8 for the mirror: suspended. -/
structure RelayOut where
  suspended : Bool := false
deriving DecidableEq, Repr

/-- REF_IN (R167, R168). Instants are of `Clock.mono`. -/
structure RefIn where
  /-- The base of the predictions: the last accepted edge of a qualified input, the first edge of a qualification; number
  of the last period closed since it, and of the period that the latest edge fell in. -/
  last : Option Nat := none
  since : Nat := 0
  edgeIn : Nat := 0
  /-- Accepted periods, rejected edges and missing periods in a row. -/
  good : Nat := 0
  rejects : Nat := 0
  missing : Nat := 0
  prevEdge : Option Nat := none
  /-- Consecutive edges beyond REF_CHECK_LIMIT. -/
  beyond : Nat := 0
  /-- The next edge is the first of a qualification; the last period with an accepted edge, counted from `last`. -/
  restart : Bool := false
  okIn : Nat := 0
deriving DecidableEq, Repr

/-- Inputs and references (chapter 6). -/
structure Inputs where
  ins : Tbl Input := []
  hdmi : Tbl Hdmi := []
  items : Tbl Item := []
  relay : Tbl RelayOut := []
  ref : RefIn := {}
  /-- Number of the next upload. -/
  nextVer : Nat := 1
deriving DecidableEq, Repr

/-- A layer as it stands at a frame start (R129, R130, R135). -/
structure Layer where
  latched : Option SrcFrame := none
  /-- Where it was latched from: capture input number, or 32 + library item. -/
  from_ : Nat := 0
  /-- Canvas frames in a row for which it was not ready; its action is in force; R135 fills it. -/
  notReady : Nat := 0
  acting : Bool := false
  oversize : Bool := false
  /-- Its action has been counted and reported (R130). -/
  raised : Bool := false
deriving DecidableEq, Repr

/-- One composed line: Y', and Cb and Cr where the line carries chroma; spans of poisoned columns, as left edge and
width. -/
structure CLine where
  y : List Nat
  cb : List Nat
  cr : List Nat
  poisoned : List (Int × Nat) := []
deriving DecidableEq, Repr

/-- A signature region's standing (Table 5-11). -/
structure Region where
  lastFrame : Nat := 0
  mismatches : Nat := 0
  matched : Bool := false
  inForce : Bool := false
  run : Nat := 0
  crc : Nat := 0
  /-- The action is due at the next frame start (R145); RUN has reached K and the action has been taken up. -/
  due : Bool := false
  fired : Bool := false
deriving DecidableEq, Repr

/-- A rectangle: left, top, width, height. -/
structure Rect where
  x : Nat
  y : Nat
  w : Nat
  h : Nat
deriving DecidableEq, Repr

/-- What a layer draws in a frame: a rectangle in canvas coordinates, its global alpha, and its content. -/
structure Draw where
  x : Int
  y : Int
  w : Nat
  h : Nat
  alpha : Nat
  /-- Solid colour, when it draws no picture. -/
  fill : Option Nat
  pic : Option Pic := none
  crop : Rect := ⟨0, 0, 0, 0⟩
  bypass : Bool := false
  srcAlpha : Bool := false
  bankH : List Byte := []
  bankV : List Byte := []
  /-- Host tables in place of presets, and the tables. -/
  user : Nat := 0
  inMat : List Byte := []
  preLut : List Byte := []
  gamut : List Byte := []
  colour : Nat := 1
  /-- Where the picture was latched from, and its number; the addresses of its poisoned lines. -/
  src : Nat × Nat := (0, 0)
  poisoned : List Nat := []
deriving DecidableEq, Repr

/-- What the canvas's own steps need: output colour and range, peak and white, host tables. -/
structure CanvasColour where
  colour : Nat := 0
  range : Nat := 0
  peak : Nat := 0
  white : Nat := 0
  user : Nat := 0
  postMat : List Byte := []
  postTab : List Byte := []
  outMat : List Byte := []
  bg : Nat := 0
deriving DecidableEq, Repr

/-- A composed frame: its number, its lines by canvas line, what it draws and which source frames its layers latched, as of its frame
start (R129, R131), whether HOLD repeats another frame in it, and the HOLD regions of it that have been compared, each with whether it
matched. -/
structure FrameSet where
  f : Nat := 0
  lines : Tbl (Option CLine) := []
  look : List Draw × CanvasColour := ([], {})
  uses : List (Nat × Nat) := []
  held : Bool := false
  holds : List (Nat × Bool) := []
deriving DecidableEq, Repr

/-- Composition of a channel (chapter 5). -/
structure Comp where
  layers : Tbl Layer := []
  /-- The frames in composition or still read by jobs, newest first, and the one composed before them (R70, R101). -/
  frames : List FrameSet := []
  regions : Tbl Region := []
  /-- SAFETY or HOLD in force (R146): 0 none, 2 safety, 3 hold; instant at which COMP_RELEASE was written. -/
  action : Nat := 0
  release : Option Nat := none
  /-- The frame that HOLD repeats: the last in which every HOLD region matched. -/
  heldFrame : Tbl (Option CLine) := []
  /-- Coefficient banks as the channel last took them (R133). -/
  coef : Tbl (List Byte) := []
deriving DecidableEq, Repr

/-- A channel as it runs (chapters 2, 3, 5 and 8). Instants are of `Clock.mono`. -/
structure Chan where
  /-- Label and instant of the frame start at which the channel starts (R413). -/
  startAt : Option (Int × Nat) := none
  /-- Label n(f), start A(f), period P(f) and phase error e(f) in 2^-40 ns (R213 to R215). -/
  label : Int := 0
  frameAt : Nat := 0
  period : Nat := 0
  err : Int := 0
  /-- A step, an offset change or an inserted frame's end leaves an error to take up at the next frame start (R214). -/
  errPending : Bool := false
  /-- Frame f is an inserted frame (R216). -/
  inserted : Bool := false
  /-- Instant and label of the next frame start, T* after an inserted frame (R213, R216). -/
  resumeAt : Option Nat := none
  resumeLabel : Int := 0
  /-- Why frame f has no pictures of its own: the reason of its whole-picture stand-ins (R94). -/
  whole : Option Nat := none
  /-- Next stripe to start. -/
  next : Nat := 0
  /-- The channel stops after the frame in which the stop completed (R414); BANK says it sends nothing further. -/
  stopping : Bool := false
  /-- Committed staged changes fall due at the next frame start (R64): the copies to take. -/
  staged : Option (Tbl Val) := none
  /-- A change of the commit that applies has still to fall due here (R411). -/
  changeDue : Bool := false
  /-- Sag level whose actions this channel carries (R337); shed by level 4, and since it was restored, the instant
  from which it may code again. -/
  sagNow : Nat := 0
  shed : Bool := false
  unshedAt : Option Nat := none
  /-- Draught of the last council broadcast applied since the channel started (R85). -/
  councilDraught : Option Nat := none
  /-- Pictures held at fill by a council mismatch (R82). -/
  held : Bool := false
  /-- Frames composed since START; the first uses only the first cost of R70. -/
  composed : Nat := 0
deriving DecidableEq, Repr

/-- A canvas stripe in flight (R44), with the RTP timestamp of its frame (R178). -/
structure Stripe where
  c : Nat
  f : Nat
  k : Nat
  rtp : Nat
  /-- Its start, and the period P(f) of its frame. -/
  at_ : Nat
  per : Nat
  /-- Frame inserted under re-phase: whole-picture stand-ins (R216). -/
  inserted : Bool := false
  /-- The stripe's composition is abandoned or its frame carries no jobs: reason of the whole-picture stand-in. -/
  whole : Option Nat := none
  /-- Composition complete, abandoned; hearths that have stripe-ready. -/
  composed : Bool := false
  abandoned : Bool := false
  ready : List Nat := []
  /-- At Tf: latched, with the offset in 1/16 QP or none, and the draught (R79, R86). -/
  tf : Bool := false
  offset : Option Int := none
  draught : Nat := 0
  /-- Broadcast received before Tf: its offset, or none sent, and its DRAUGHT (R77). -/
  bcast : Option (Option Int × Nat) := none
  dead : Bool := false
  sent : Bool := false
  tail : Bool := false
  muted : Bool := false
  /-- The reduction tree in force for the stripe, as it stood at the stripe's start (R78): the root in office, its eccentricity,
  this module's hop count to it, and the active children that report to this module. -/
  root : Nat := 0
  treeH : Nat := 0
  treeD : Nat := 0
  kids : List Nat := []
deriving DecidableEq, Repr

/-- A picture of a flow, by the frame it is of (R66, R91, R95, R97). -/
structure PicSt where
  /-- 0 coded, 1 fill, 2 whole-picture stand-in. -/
  kind : Nat := 0
  /-- Its budget has entered U; it is muted and so enters neither U nor S (R66). -/
  counted : Bool := false
  muted : Bool := false
  /-- Bits sent for it, and how many of its flow stripes have been decided at their readiness deadlines. -/
  bits : Nat := 0
  sent : Nat := 0
  /-- The refresh that starts with it: 0 none, 1 a periodic one, 2 any other; and its REFRESH_PICS (R52, R91). -/
  refresh : Nat := 0
  refreshPics : Nat := 0
  /-- It holds a stand-in slice, sent first at this instant; it holds a coded slice; the refresh that R91 has it start has been
  asked for. -/
  standAt : Option Nat := none
  coded : Bool := false
  asked : Bool := false
deriving DecidableEq, Repr

/-- The coding tools of Table 2-4. -/
inductive Tool where
  | iSlice | pSlice | biPred | reordering | multiType | dualTree | amp | intra67 | intra35 | mrl | mip | cclm | isp | strongSmoothing
  | merge | amvp | tmvp | sbTmvp | amvr | mmvd | affine4 | affine6 | gpm | ciip | bdof | dmvr | prof | dct2 | dst4 | implicitMts | lfnst
  | transformSkip | sbt | dependentQuant | signHiding | cuQpDelta | deblocking | sao | lumaAlf | chromaAlf | ccAlf | lmcs | palette | ibc
  | act | bdpcm | scalingLists | wavefront
deriving DecidableEq, Repr

/-- The parameter-set fields that Table 2-5 states, fixed from a flow's arming until it stops (R53, R55). -/
structure ParamSets where
  hevc : Bool
  profile : Nat
  highTier : Bool
  level : Nat
  /-- chroma_format_idc, bit_depth_minus8 and the CTU size field. -/
  chroma : Nat
  depthMinus8 : Nat
  ctuField : Nat
  width : Nat
  height : Nat
  /-- Conformance window offsets left, right, top, bottom in chroma units (R40). -/
  window : List Nat
  dpbMinus1 : Nat
  gdr : Bool
  /-- Subpictures as their rectangles and identifiers: none while merging is off (R57, R58). -/
  subpics : List (Nat × Nat × Nat × Nat × Nat)
  treatedAsPic : Bool
  loopAcrossSubpic : Bool
  subpicIdBits : Nat
  /-- Tile columns and rows in CTUs. -/
  tileCols : List Nat
  tileRows : List Nat
  rectSlices : Bool
  loopAcrossTiles : Bool
  entropySync : Bool
  /-- HRD: cbr_flag, bit rate in bit/s, CPB size in bits. -/
  cbr : Bool
  bitRate : Nat
  cpbSize : Nat
  /-- VUI colour description and full-range flag. -/
  colour : Nat
  fullRange : Bool
  unitsInTick : Nat
  timeScale : Nat
  /-- Identifiers of the parameter sets. -/
  ids : Nat
  tools : List Tool
deriving DecidableEq, Repr

/-- What a flow's rate agent fixes for a flow stripe at Tf (R67, R69, R71, R72, R86): its QP in 1/16 steps, draught, target and
hard limit in 2^-16 bit, share of each segment in bits, and the offset in force. -/
structure RateIn where
  f : Nat
  j : Nat
  q : Int
  draught : Nat
  target : Int
  hard : Int
  shares : List Nat
  offset : Option Int := none
deriving DecidableEq, Repr

/-- A gradual refresh (R52, R91): its first picture and its last, the recovery point; whether it follows a partial stand-in (R97); whether
it is a standby's first pictures after a gap, its unrefreshed regions skip CUs with zero motion (R272). -/
structure Span where
  first : Nat
  last : Nat
  partialStand : Bool := false
  blind : Bool := false
deriving DecidableEq, Repr

/-- A flow as its rate agent and the output stage hold it (R65 to R71, R87 to R96). Frames are numbers of FRAME_COUNT,
instants are of `Clock.mono`. -/
structure FlowSt where
  /-- Frame at whose start the flow was armed, and the frame of its first coded picture (R52, R96). -/
  armedAt : Option Nat := none
  firstAt : Option Nat := none
  /-- First and last frames of the coded sequences that a council hold has ended (R82). -/
  past : List (Nat × Nat) := []
  /-- The flow stops after this frame (R63). -/
  lastFrame : Option Nat := none
  /-- Sum of picture budgets in 2^-16 bit, and bits sent (R66). -/
  u : Nat := 0
  s : Nat := 0
  pics : Tbl PicSt := []
  /-- Complexity of flow stripe j of frame f at 128 × f + j, and of each of its row segments (R69, R70). -/
  comp : Tbl Nat := []
  segComp : Tbl (List Nat) := []
  /-- Bits, complexities and QPs of the last 8 coded stripes, newest first (R71). -/
  model : List (Nat × Nat × Int) := []
  /-- Base QP of the last coded stripe (R88). -/
  baseQp : Int := 0
  /-- What Tf fixed for the flow stripes in flight and the last ones sent, newest first. -/
  rates : List RateIn := []
  /-- The flow's parameter sets (R53). -/
  params : Option ParamSets := none
  /-- Frame from which the refresh in progress runs; frame of its recovery point (R52, R91). -/
  refreshFrom : Option Nat := none
  refreshEnd : Nat := 0
  /-- A refresh is asked for since this instant, and whether it is one of R91. -/
  refreshAsk : Option Nat := none
  askR91 : Bool := false
  /-- It follows a switch-over that leaves the receiver's reference open (R272). -/
  askBlind : Bool := false
  /-- Refreshes begun (R52, R91, R97, R272). -/
  spans : List Span := []
  /-- Hint bit of segment seg of flow stripe j, at 32 × j + seg (R89). -/
  hints : Tbl Nat := []
  /-- Stand-in counters (Table 3-8): slices, refreshes, frame and reason of the last. -/
  standins : Nat := 0
  refreshes : Nat := 0
  lastStand : Nat := 0
  lastReason : Nat := 0
  /-- The record of FLOW_STANDINS as the last frame start left it (R99): STANDINS, REFRESHES, LAST_FRAME, LAST_REASON. -/
  shown : Nat × Nat × Nat × Nat := (0, 0, 0, 0)
  /-- Instant, in `now` units, of the last class 2 event of R94. -/
  eventAt : Option Nat := none
  /-- The shadow pair's comparisons of this flow are stopped until the first picture after this frame's recovery point,
  none: until the next completed refresh (R268). -/
  compareOff : Bool := false
deriving DecidableEq, Repr

/-- A dependence of a job that is not yet satisfied (Table 4-1): on job (j, col) of the same picture, on the council,
or on the reference of flow stripe j of the previous picture. -/
inductive Dep where
  | job (j col : Nat)
  | council
  | ref (j : Nat)
deriving DecidableEq, Repr

/-- Where a job stands. -/
inductive JobAt where
  | waiting
  | ready (since : Nat)
  | prefetched (wid : Nat)
  | running (wid since : Nat)
deriving DecidableEq, Repr

/-- A coding-tree-unit job on a hearth (R101, R104). -/
structure Job where
  h : Nat
  c : Nat
  flow : Nat
  f : Nat
  k : Nat
  j : Nat
  col : Nat
  seg : Nat
  samples : Nat
  deadline : Nat
  deps : List Dep
  at_ : JobAt := .waiting
  readyAt : Nat := 0
  late : Bool := false
  rerun : Bool := false
  lost : Bool := false
  /-- Order in which re-runs and returned jobs stand (R106, R109). -/
  order : Nat := 0
  head : Bool := false
  /-- It read a poisoned line (Table 12-7): its slice is not ready; its reconstruction is poisoned, which a read by a skip CU
  makes it too (R304, R305). -/
  poisoned : Bool := false
  refPoisoned : Bool := false
deriving DecidableEq, Repr

/-- The reconstruction of a CTU (R101, R102): its samples before the in-loop filters; what its own job finalises, its samples within
reach and the bands of its left and above neighbours of the same segment; and the bands that the hearth's seam filter finishes. -/
structure Ctu where
  raw : Nat := 0
  own : Nat := 0
  seam : Nat := 0
deriving DecidableEq, Repr

/-- A finished job's coded bits and reconstruction (R101, R110). -/
structure Done where
  h : Nat
  flow : Nat
  f : Nat
  j : Nat
  col : Nat
  bits : Nat
  recon : Ctu
  /-- How it was coded: 0 as the encoder chose, 1 at the highest QP, 2 as skip CUs (R69). -/
  mode : Nat := 0
  /-- The withy that ran it; the job had been lost to a fault. -/
  wid : Nat := 288
  lost : Bool := false
  poisoned : Bool := false
  refPoisoned : Bool := false
deriving DecidableEq, Repr

/-- A slice copy made by a hearth (R103, R268). -/
structure Slice where
  h : Nat
  c : Nat
  flow : Nat
  f : Nat
  k : Nat
  j : Nat
  seg : Nat
  bits : Nat
  hash : Nat
  doneAt : Nat
  /-- Instant at which it lay complete in the output buffer. -/
  inBuf : Option Nat := none
  poisoned : Bool := false
  late : Bool := false
  lost : Bool := false
  wids : List Nat := []
deriving DecidableEq, Repr

/-- What a NAL unit of the output stage is (R58, R68, R69, R88, R92, R95 to R97). -/
inductive NalKind where
  | slice | standIn | fill | pictureHeader | bufferingPeriod | pictureTiming | recoveryPoint | pictureHash | filler | endOfSeq | vps | sps | pps
deriving DecidableEq, Repr

/-- A NAL unit: what it is, its nal_unit_type, its size in bytes, the row segment of a slice, the values that the spec fixes in it
(named where they are built), and the token of its bytes, or a parameter set's bytes themselves. -/
structure Nal where
  kind : NalKind
  type : Nat
  size : Nat
  seg : Nat := 0
  fields : List Int := []
  token : Nat := 0
  data : List Byte := []
deriving DecidableEq, Repr

/-- What the output stage sends of a flow stripe, decided at its readiness deadline (R87 to R97, R179). -/
structure FlowOut where
  c : Nat
  f : Nat
  k : Nat
  flow : Nat
  j : Nat
  /-- 0 coded, 1 stand-in, 2 both, 3 fill, 4 muted. -/
  kind : Nat
  /-- Its NAL units in the order in which they are sent. -/
  nals : List Nal
  /-- Reasons of its stand-in slices, in the order of their segments (Table 3-5). -/
  reasons : List Nat
  /-- What it would be, where a PAIRED-SHADOW standby twin codes it and does not send it (R281). -/
  would : Option Nat := none
  /-- Its slices have been released on the merged flow (R58, R186). -/
  merged : Bool := false
deriving DecidableEq, Repr

/-- The reference a hearth holds of a flow stripe of a frame: whether it is final, and its CTUs by column. -/
structure RefStripe where
  h : Nat
  flow : Nat
  j : Nat
  f : Nat
  final : Bool
  recon : List Ctu
  /-- Lines of it are poisoned (R304). -/
  poisoned : Bool := false
deriving DecidableEq, Repr

/-- A withy (R7, Table 4-7). `st` 9 is the position's state at power-up: active, position 8 spare. -/
structure Withy where
  st : Nat := 9
  /-- Marked for retirement (R112); the mark came of an injected error (R332). -/
  marked : Bool := false
  injected : Bool := false
  /-- Fenced since; instant at which the self-test of the skein's spare, or of this withy, ends (R113). -/
  testEnd : Option Nat := none
  passed : Bool := false
  /-- Fenced by a withy fault of its own, so that it is retired whatever its self-test gives (R326). -/
  ownFault : Bool := false
  jobs : Nat := 0
  faults : Nat := 0
  busy : Nat := 0
  /-- Busy time of the last completed window, 1/1024. -/
  busyShown : Nat := 0
  /-- The self-test under way is one that the wear record started (R10). -/
  wearTest : Bool := false
deriving DecidableEq, Repr

/-- A hearth (R11 to R14, R107, R116). -/
structure Hearth where
  /-- Fenced by a hearth-level fault (R270); dark under sag (R277); under self-test. -/
  fenced : Bool := false
  dark : Bool := false
  testing : Bool := false
  /-- Its shared memory ran out of spare rows: ALLOC_LIMIT is 0 (R311). -/
  badMem : Bool := false
  /-- Credit of each channel in luma samples (R107). -/
  credit : Tbl Int := []
  /-- Instant at which a spare last entered (R114). -/
  enteredAt : Option Nat := none
  /-- The running window's observables: largest ready list, waits, smallest slack. -/
  readyMax : Nat := 0
  waits : Tbl Nat := []
  slackMin : Option Nat := none
  /-- Withy time available in the running window up to an instant (LOAD, Table 4-5). -/
  avail : Nat := 0
  availAt : Nat := 0
  /-- Its skein, common and Grate domains are gated in LAID, LIT and DAMPED (R24, R25). -/
  gated : Bool := false
deriving DecidableEq, Repr

/-- Pipeline of canvases (chapters 2 to 4). -/
structure Pipe where
  chans : Tbl Chan := []
  stripes : List Stripe := []
  flows : Tbl FlowSt := []
  jobs : List Job := []
  done : List Done := []
  slices : List Slice := []
  refs : List RefStripe := []
  outs : List FlowOut := []
  withies : Tbl Withy := []
  hearths : Tbl Hearth := []
  /-- Order number of the next re-run or returned job. -/
  order : Nat := 0
  /-- Observation window (R116): its channel, frames counted, its start; channel slacks of the window. -/
  obsChan : Option Nat := none
  obsFrames : Nat := 0
  obsAt : Nat := 0
  obsLen : Nat := 120
  obsClear : Bool := false
  chSlack : Tbl (Tbl Nat) := []
  chSlackMin : Tbl (Option Nat) := []
  /-- STANDINS_CLEAR waits for a frame start (R99). -/
  standinsClear : Bool := false
  /-- Placement in force (R50): flow and hearth. -/
  placed : List (Nat × Nat) := []
deriving DecidableEq, Repr

/-- A packet of an entry (R177, R178). Instants are of `Clock.mono`. -/
structure Pkt where
  entry : Nat
  seq : Nat
  ts : Nat
  marker : Bool
  /-- RTP payload as its bytes' token, offset and length; the fragmentation header's bytes before it. -/
  token : Nat
  off : Nat
  size : Nat
  head : List Nat
  /-- Payload bytes that stand instead of coded ones: audio samples. -/
  data : List Byte := []
  /-- Canvas stripe it belongs to (audio: 16, 0, 0) and whether it is the stripe's tail packet. -/
  c : Nat
  f : Nat
  k : Nat
  tail : Bool
  release : Nat
  eligible : Option Nat := none
deriving DecidableEq, Repr

/-- Transport and shaper of an entry (R178, R185 to R188). Credit is in 2^-16 byte, rates in kbit/s, bursts in bytes. -/
structure TxEnt where
  armed : Bool := false
  /-- Sequence number of the next packet; none before the first one after enabling. -/
  nextSeq : Option Nat := none
  credit : Nat := 0
  creditAt : Nat := 0
  /-- Number of flow stripes the window now open carries: the bucket runs at m × ρ (R186). -/
  m : Nat := 1
  /-- Shaper in force: ρ, β and class; and what a commit has set, due at the entry's next boundary (R188). -/
  rate : Nat := 0
  burst : Nat := 0
  cls : Nat := 5
  due : Option (Nat × Nat × Nat) := none
  /-- Packets formed and not yet eligible, in order. -/
  queue : List Pkt := []
  sent : Nat := 0
  tooLong : Nat := 0
  bodyLate : Nat := 0
  tooLongAt : Option Nat := none
  muted : Bool := false
  /-- Sequence number of the last packet counted in PKTS_SENT (assumption 102). -/
  sentSeq : Option Nat := none
  /-- The last stripe with late body packets: frame, stripe, and the packets of it that no leg had yet made eligible (R191). -/
  lateStripe : Option (Nat × Nat × Nat) := none
deriving DecidableEq, Repr

/-- A frame in a class queue of a port: eligible instant, entry (0xFFFF for PTP, management and control), packet or
frame, its class and length from destination MAC to FCS. -/
structure QFrame where
  cls : Nat
  eligible : Nat
  entry : Nat
  len : Nat
  pkt : Option Pkt := none
  frame : Option EthFrame := none
  /-- A PTP event message: its instance (0 when host software wrote it), sequenceId and MSG of Table 8-1 (R206, R209). -/
  stamp : Option (Nat × Nat × Nat) := none
  held : Bool := false
deriving DecidableEq, Repr

/-- A gate list: entries as gate states and interval in ticks, cycle and extension in ticks, and base (R193). -/
structure GateList where
  list : List (Nat × Nat)
  cycle : Nat
  ext : Nat
  base : Nat
deriving DecidableEq, Repr

/-- The gate list in operation (R193, R194). Instants are of `Clock.mono`. -/
structure Gate where
  oper : Option GateList := none
  /-- Start of the cycle in progress, index of the entry in force and the instant its interval ends. -/
  cycleAt : Nat := 0
  idx : Nat := 0
  entryEnd : Nat := 0
  /-- A configuration change that is pending: its change time and the copy it takes. -/
  pend : Option (Nat × GateList) := none
  /-- The counter has stepped: the list realigns at the next boundary. -/
  realign : Bool := false
deriving DecidableEq, Repr

/-- An Ethernet port code (R172 to R175, R182, R183, R198). -/
structure Port where
  link : Bool := false
  queue : List QFrame := []
  /-- Tail packets whose slot is open or due: close of the slot and the packet. -/
  tails : List (Nat × Pkt) := []
  busyTill : Nat := 0
  slotTill : Nat := 0
  /-- Resolved destinations: IPv4 address asked for and its MAC; those asked and not yet resolved. -/
  neigh : Tbl Nat := []
  asked : List Nat := []
  noNeighAt : Option Nat := none
  /-- Instant of the last event of a frame of no entry that is too long (R196). -/
  tooLongAt : Option Nat := none
  gate : Gate := {}
  depth : Tbl Nat := []
  sojourn : Tbl Nat := []
  histAt : Nat := 0
  histLen : Nat := 1000
  /-- Instant of the last ARP refresh. -/
  arpAt : Nat := 0
deriving DecidableEq, Repr

/-- Buckets of a meter (R197), in 2^-16 byte, brought up to an instant. -/
structure Meter where
  c : Nat := 0
  e : Nat := 0
  at_ : Nat := 0
deriving DecidableEq, Repr

/-- The output stage (chapter 7). -/
structure Output where
  ents : Tbl TxEnt := []
  ports : Tbl Port := []
  meters : Tbl Meter := []
  /-- Gc in ns that the last commit used, by 8 × port + class (R195). -/
  gcUsed : Tbl Nat := []
  /-- SDP texts of the last commit by entry. -/
  sdp : Tbl (List Byte) := []
  /-- The entries and ports as they stood at the last whole millisecond of `now`: what FLOW_TX_STATE shows (Table 7-9). -/
  shownEnts : Tbl TxEnt := []
  shownPorts : Tbl Port := []
deriving DecidableEq, Repr

/-- A master heard on a PTP instance (R207): its port identity, the data set its Announce messages carry in the order
the best master clock algorithm compares them, its flags as TIME_FLAGS has them, UTC offset and grandmaster. -/
structure Master where
  port : Nat
  ip : Nat := 0
  rank : List Nat
  flags : Nat
  utc : Nat
  gm : Nat
deriving DecidableEq, Repr

/-- A PTP instance (R207, R208): source code 1 to 4 of Table 8-3. Times are counter values in 2^-16 ns; instants are
of `now`. -/
structure Ptp where
  masters : List Master := []
  master : Option Nat := none
  /-- Interval of Announce and of Sync, and the instants of the last ones. -/
  annInt : Nat := 0
  annAt : Option Nat := none
  syncInt : Nat := 0
  syncAt : Option Nat := none
  /-- A two-step Sync that awaits its Follow_Up: sequenceId, receive time, correction. -/
  sync : Option (Nat × Int × Int) := none
  /-- t2 − t1 less correction of the last Sync. -/
  lastMs : Option Int := none
  /-- The request in flight: sequenceId and transmit time, none until it is sent. -/
  req : Option (Nat × Option Int) := none
  /-- Pdelay_Resp received: t2 (its requestReceiptTimestamp), t4, correction. -/
  resp : Option (Int × Int × Int) := none
  nextSeq : Nat := 0
  reqInt : Nat := 0
  reqAt : Nat := 0
  /-- Last 8 path delays in 2^-16 ns; consecutive offset samples; the instance was qualified and is lost. -/
  delays : List Int := []
  good : Nat := 0
  /-- Last Pdelay exchange's t3 and t4, and the neighbour's rate ratio as the two differences it came of. -/
  prev : Option (Int × Int) := none
  ratio : Option (Int × Int) := none
deriving DecidableEq, Repr

/-- An entry of a transmit timestamp queue (Table 8-1) with its instant. -/
structure TsEnt where
  at_ : Nat
  ns : Nat
  ident : Nat
  msg : Nat
deriving DecidableEq, Repr

/-- The servo and the time inputs and outputs (chapter 8). -/
structure Servo where
  /-- I in 10^-12 (y is in the clock); the instant, of `Clock.mono`, of the last sample used. -/
  i : Int := 0
  lastAt : Option Nat := none
  /-- Consecutive samples within and above LOCK_THRESHOLD, and outliers in a row. -/
  good : Nat := 0
  overs : Nat := 0
  outl : Nat := 0
  /-- Time spent LOCKED with its y, newest first, as amounts of `Clock.mono`; instant up to which it is counted. -/
  hist : List (Nat × Int) := []
  histAt : Option Nat := none
  /-- Instants from which sources have been qualified. -/
  qualAt : Tbl (Option Nat) := []
  hostAt : Option Nat := none
  /-- Holdover since, and whether passing HOLDOVER_MAX has been raised. -/
  holdFrom : Option Nat := none
  holdRaised : Bool := false
  /-- The servo has reached LOCKED or FALLBACK since power-up or wake (R202). -/
  reached : Bool := false
  ptp : Tbl Ptp := []
  /-- Transmit timestamp queues; instants of their last overflow event; PTP_RX frames that wait. -/
  tsq : Tbl (List TsEnt) := []
  tsOver : Tbl (Option Nat) := []
  rx : Tbl (List (List Byte)) := []
  /-- Instants at which PPS_OUT and FRAME_OUT fall, while high. -/
  ppsHigh : Option Nat := none
  frameHigh : Option Nat := none
deriving DecidableEq, Repr

/-- A captured audio sample: its capture instant, of `Clock.mono`, the values of the port's two channels, and the input period in
2^-40 ns that the converter ran on as it was taken (R227, R230). -/
structure AudioSmp where
  at_ : Nat
  l : Int
  r : Int
  per : Int := 0
deriving DecidableEq, Repr

/-- How a converter's output runs from an instant on (R227, R229): silent, live, holding a value, ramping from it to 0,
ramping from it to the live signal. -/
inductive ConvMode where
  | silent | live | held | fade | rise
deriving DecidableEq, Repr

/-- A stretch of a converter's output: its start, of `Clock.mono`, its mode, and the held values. -/
structure Stretch where
  from_ : Nat
  mode : ConvMode
  l : Int := 0
  r : Int := 0
deriving DecidableEq, Repr

/-- The loop that tracks a port's ratio (R227), in 2^-40 ns: the predicted capture instant of the next input sample and the input
period; the period is 0 before the second sample. -/
structure AudioLoop where
  next : Int
  per : Int := 0
deriving DecidableEq, Repr

/-- A source port (R223 to R230). -/
structure AudioPort where
  /-- Samples received, newest first, and the stretches of the converter's output, newest first. -/
  smps : List AudioSmp := []
  runs : List Stretch := []
  /-- Instant, of `now`, of the last event of group 17. -/
  eventAt : Option Nat := none
  /-- Instant, of `Clock.mono`, of the first sample since acquisition began. -/
  since : Option Nat := none
  hold : Bool := false
  loop : Option AudioLoop := none
  /-- The FIFO: input samples written since the port came into use; what the converter has read of them, in 2^-16 samples, brought up
  to an instant of `Clock.mono`. -/
  written : Nat := 0
  pos : Int := 0
  posAt : Nat := 0
  /-- The HDMI stream's layout does not carry the port's channels (R226). -/
  unused : Bool := false
  /-- Last falling edge of WS that the module drove, of `Clock.mono` (R224). -/
  ws : Option Nat := none
deriving DecidableEq, Repr

/-- Audio (chapter 9). -/
structure Audio where
  /-- Phase error of the audio media clock in 2^-40 ns, brought up to an instant of `Clock.mono` (R217). -/
  err : Int := 0
  errAt : Nat := 0
  ports : Tbl AudioPort := []
  /-- Lead of each aligned group: 0 to 3, and 4 and 5 for the sinks; the input period that its converters run on (R230). -/
  lead : Tbl (Option Nat) := []
  ratios : Tbl Int := []
  /-- Frequency in Hz of MCLK0 and MCLK1; 0 is held low (R225). -/
  mclk : Tbl Nat := []
  /-- Count of the first sample of each flow's next packet (R232); the instant, of `Clock.mono`, from which releases may
  start (R413). -/
  next : Tbl (Option Int) := []
  startAt : Option Nat := none
deriving DecidableEq, Repr

/-- An entry of the path table (R251): smallest hop count, out port, whether two serial numbers share the identity. -/
structure PathEnt where
  hops : Nat := 0xFFFF
  port : Nat := 0xFF
  dup : Bool := false
deriving DecidableEq, Repr

/-- What a topology advert told of a module (R251): its serial number, neighbour and capacity on each port. -/
structure Advert where
  serial : Nat
  neigh : List Nat
  cap : List Nat
deriving DecidableEq, Repr

/-- A time offer (R254): origin, servo state, hops, sequence, grandmaster, flags, UTC offset, the sender's upstream. -/
structure Offer where
  origin : Nat
  servo : Nat
  hops : Nat
  seq : Nat
  gm : Nat
  flags : Nat
  utc : Nat
  upstream : Nat
deriving DecidableEq, Repr

/-- A frame that a Flue port sends, and the cells of it that have gone out (R237). -/
structure FlueTx where
  frame : FlueFrame
  sent : Nat := 0
deriving DecidableEq, Repr

/-- A Flue port (R236 to R240, R254). -/
structure Link where
  /-- A signal is seen; the lanes that trained, those retired, the active ones, the spare (3 none). -/
  signal : Bool := false
  trained : Nat := 0
  retired : Nat := 0
  active : Nat := 0
  spare : Nat := 3
  peer : Option (Nat × Nat × Nat) := none
  peerExcess : Bool := false
  /-- Instant from which LINK_HOLD runs; the link is in the path table; instant of the next training attempt. -/
  trainedAt : Option Nat := none
  admitted : Bool := false
  retryAt : Option Nat := none
  /-- Last time exchange: our send instant, of `now`, and the far end's last frame (its send and our receipt), in 2^-16 ns. -/
  sentAt : Option Nat := none
  gotTx : Nat := 0
  gotRx : Nat := 0
  /-- Last 8 delay values in 2^-16 ns; the instant until which a re-measurement discards samples. -/
  delays : List Int := []
  remeasure : Nat := 0
  /-- The neighbour's offer, exchanges since its sequence advanced, consecutive samples. -/
  offer : Option Offer := none
  stale : Nat := 0
  good : Nat := 0
  /-- Consecutive uncorrectable codewords (R240). -/
  badRun : Nat := 0
  /-- Frames being sent, oldest first; the instant from which the line is free, in 1/900 ns; what class 4 has been owed, in percent of
  a cell (R237, R241); class 4 frames that the neighbour still takes (R258). -/
  tx : List FlueTx := []
  txAt : Nat := 0
  owed : Nat := 0
  credit : Nat := 64
deriving DecidableEq, Repr

/-- A reservation on an out port (R244 to R246): origin, entry (8 for a mirror), rate in Mbit/s, whether it is held. -/
structure Reserve where
  origin : Nat
  entry : Nat
  port : Nat
  rate : Nat
  held : Bool := true
deriving DecidableEq, Repr

/-- Enumeration (R249): where the pass came from (3: this module is the root), the ports still to visit, identities
held or given, and the root's base and table. -/
structure EnumSt where
  parent : Nat
  todo : List Nat
  /-- The pass: its root's serial number and count. -/
  pass : Nat × Nat
  given : List Nat
  base : Nat
  table : List (Nat × Nat)
deriving DecidableEq, Repr

/-- The chimney (chapter 10). -/
structure Flue where
  /-- Sequence that this module's own offers carry (R255). -/
  timeSeq : Nat := 0
  paths : Tbl PathEnt := []
  adverts : Tbl (Option Advert) := []
  links : Tbl Link := []
  /-- Identities for which two serial numbers have been seen. -/
  dups : List Nat := []
  /-- Instant of the last advert that showed each of them; the last enumeration pass that visited this module. -/
  dupSeen : Tbl Nat := []
  lastPass : Nat × Nat := (0, 0)
  excess : Bool := false
  enumSt : Option EnumSt := none
  reserves : List Reserve := []
  /-- Last time a topology advert was flooded. -/
  advertAt : Nat := 0
  /-- Relay lines stored for forwarding: in port, out ports' frame (R247). -/
  relayQ : List (Nat × FlueFrame) := []
deriving DecidableEq, Repr

/-- A council round of a channel as this module combines it (R77, R78). -/
structure Round where
  f : Nat
  k : Nat
  wq : Int := 0
  w : Nat := 0
  qMin : Int := 32767
  qMax : Int := -32768
  members : Nat := 0
  draught : Nat := 0
  /-- Children that have reported; own summary added; the sum sent upward, or broadcast by the root. -/
  from_ : List Nat := []
  own : Bool := false
  sent : Bool := false
deriving DecidableEq, Repr

/-- Council of a channel (R73 to R83). -/
structure Council where
  rounds : List Round := []
  /-- Active set of the last broadcast, or that the root broadcasts; none before one. -/
  active : Option (List Nat) := none
  /-- Consecutive rounds without a broadcast; consecutive rounds missed by each child. -/
  late : Nat := 0
  missed : Tbl Nat := []
  /-- Members to remove or admit, and a new root with the active set it begins with, at the next frame start. -/
  dropNext : List Nat := []
  addNext : List Nat := []
  rootNext : Option Nat := none
  activeNext : Option (List Nat) := none
  /-- Members that could not be reached at some frame start and have not been in the active set since (R81). -/
  split : List Nat := []
  /-- DEF_HASH differs from the root's, or another enabled non-solo channel shares the tag (R82). -/
  rootHash : Option Nat := none
  /-- MEMBERS_IN of the last broadcast was below the active members. -/
  partialNow : Bool := false
deriving DecidableEq, Repr

/-- A mirror record (R266, assumption 124): its 64-bit words, and the CRC-32C that it carries. -/
structure MirrorRec where
  nums : List Nat
  crc : Nat
deriving DecidableEq, Repr

/-- What a send token carries of a flow stripe (R281): the flow, j and the STRIPE field of its canvas stripe, the hash over its slice
hashes, and the flow's mirror record. -/
structure TokenRec where
  flow : Nat
  j : Nat
  stripe : Nat
  hash : Nat
  nums : List Nat
deriving DecidableEq, Repr

/-- A twin handoff agreed for a channel (R283): the send instant of its frame and the cause (Table 11-3). -/
structure Handoff where
  at_ : Nat
  cause : Nat
deriving DecidableEq, Repr

/-- A hearth pair (R263 to R278). Instants are of `Clock.mono`. -/
structure PairSt where
  /-- Hearth that has failed; the decision's instant and its cause; slices whose jobs ran at the fault. -/
  failed : Option Nat := none
  decided : Option Nat := none
  lost : List (Nat × Nat × Nat × Nat) := []
  /-- Frame from which the standby codes each channel (R272), and the canvas stripes of the gap so far by flow. -/
  resume : Tbl (Option Nat) := []
  gap : Tbl Nat := []
  /-- Arbitration: withies out of dispatch for it, flows whose mismatch it settles, and its outcome due at the next
  boundary (bit 0 active side faulty, bit 1 standby side) with the withies found faulty. -/
  arb : List Nat := []
  arbOutcome : Option (Nat × List Nat) := none
  /-- A planned switch-over falls due at the commit's frame start (R265). -/
  planned : Bool := false
  /-- Resynchronisation waits for the next frame start (R275); flows still to refresh and compare. -/
  resync : Bool := false
  /-- The standby was made dark by sag level 3 (R277). -/
  dark : Bool := false
  /-- It runs as PAIRED-LEAN under sag level 1 (R277). -/
  lean : Bool := false
  /-- The records that the standby holds (R266, R267): of flow n at n, of the council of channel c at 4096 + c, of flow n's parameter
  sets at 4112 + n. -/
  mirror : Tbl (Option MirrorRec) := []
  /-- The former active hearth has no fault that R274 waits for: it resynchronises at a frame start (R271, assumption 125). -/
  returning : Bool := false
  /-- Self-test of R274 awaited. -/
  testing : Bool := false
  /-- Instant of the last periodic self-test, and the quarter of the shared memory that the next one marches over (R276). -/
  bistAt : Option Nat := none
  quarter : Nat := 0
deriving DecidableEq, Repr

/-- Hearth pairs and the module twin (chapter 11). -/
structure Pairs where
  pairs : Tbl PairSt := []
  hand : Tbl (Option Handoff) := []
  /-- Channels muted by a handoff or a fence frame, as the side that no longer sends. -/
  muted : List Nat := []
  /-- Frame from which a standby twin that took over codes in PAIRED-LEAN. -/
  twinFrom : Tbl (Option Nat) := []
  /-- Consecutive tokens missed by channel; the last token's record of each flow. -/
  missed : Tbl Nat := []
  tokens : List TokenRec := []
  /-- The twin's TWIN_HASH. -/
  twinHash : Option Nat := none
  /-- Flows whose comparisons with the twin's are stopped; those that a refresh at the next frame start brings together again; withies
  out of dispatch for the arbitration (R281). -/
  twinOff : List Nat := []
  twinBad : List Nat := []
  twinWids : List Nat := []
  /-- The twin duty runs as PAIRED-LEAN under sag level 1 (R277). -/
  twinLean : Bool := false
  /-- This module has handed its channels over without a fault that keeps it out: it resynchronises at a frame start (assumption 126). -/
  twinBack : Bool := false
  /-- Resynchronisation agreed at this instant; channels that have yet to begin it (assumption 126). -/
  twinAsk : Option Nat := none
  twinDue : List Nat := []
deriving DecidableEq, Repr

/-- A request in a subchannel's queue (R295): its line (rank, bank, row and column line are found from the address), arrival
instant and order; a scrub read names its own place and is not answered (R300). -/
structure DReq where
  req : DramReq
  at_ : Nat
  order : Nat
  scrub : Option (Nat × Nat × Nat × Nat) := none
deriving DecidableEq, Repr

/-- An open row of a bank: its row, the hint of the last access, and the instants it was opened and last used. -/
structure DRow where
  row : Nat
  hint : Nat
  openAt : Nat
  usedAt : Nat
deriving DecidableEq, Repr

/-- A command in the retry buffer with the request it served (R301). -/
structure Issued where
  cmd : DramCmd
  req : Option DReq := none
deriving DecidableEq, Repr

/-- A DRAM subchannel (R295 to R298, R301, R303, R306, R307). -/
structure DramSub where
  reads : List DReq := []
  writes : List DReq := []
  /-- Requests that wait for a full queue. -/
  stalled : List DReq := []
  nextOrder : Nat := 0
  /-- Open rows by 16 × rank + bank; activates since the bank's last RFM. -/
  rows : Tbl (Option DRow) := []
  acts : Tbl Nat := []
  /-- Banks in in-order mode (R296); write mode: 0 none, 1 until 16 entries are left, 2 until a read arrives (R297). -/
  inOrder : List Nat := []
  mode : Nat := 0
  /-- Command slots so far. -/
  slot : Nat := 0
  /-- Refresh owed, in quarters of an interval; the bank index of the next REFsb; the next tREFI instant. -/
  owed : Nat := 0
  refBank : Nat := 0
  refAt : Nat := 0
  /-- The last 32 commands, oldest first. -/
  retry : List Issued := []
  /-- Lines of this subchannel already copied to the spare rank. -/
  copied : Nat := 0
deriving DecidableEq, Repr

/-- A DRAM channel. -/
structure DramCh where
  /-- CA parity alerts of the last 1 ms; retraining runs; the channel is out of service; in self-refresh. -/
  alerts : List Nat := []
  retraining : Bool := false
  out : Bool := false
  selfRef : Bool := false
  /-- Next line to scrub and the instant it falls due (R300). -/
  scrub : Nat := 0
  scrubAt : Nat := 0
  /-- Corrected lines in the running hour that were not injected, by device as in DEVICE_CE (R300, R332). -/
  ceHour : Tbl Nat := []
deriving DecidableEq, Repr

/-- Memory (chapter 12). -/
structure Mem where
  subs : Tbl DramSub := []
  chans : Tbl DramCh := []
  /-- Bytes of DRAM by module address; an unlisted byte reads as 0 (assumption 12). -/
  cells : List Host.Cell := []
  /-- Poisoned lines by address (R304). -/
  poison : Tbl Bool := []
  /-- Corrected words in the running hour by stove and row, as 2^27 × stove + offset of the row (R311). -/
  rowHour : Tbl Nat := []
deriving DecidableEq, Repr

/-- A key (R360): the instant of its debounced press while pressed, and whether its long press has been taken. -/
structure Key where
  pressed : Option Nat := none
  long : Bool := false
deriving DecidableEq, Repr

/-- A contact that is down (R365): its mapped position, the zone it is bound to with the zone's record as it stood at
touch-down, the instant of touch-down, whether it has stayed inside, and whether it has fired. -/
structure Contact where
  id : Nat
  x : Int
  y : Int
  zone : Option (Nat × List Byte)
  downAt : Nat
  inside : Bool
  fired : Bool
deriving DecidableEq, Repr

/-- An action that waits for its frame start (R357, R358): the label it is for, whether it is for the first frame start
whatever its label, origin, SEQ, layer object, ACTION and VALUE. -/
structure ActRec where
  c : Nat
  label : Int
  next : Bool
  at_ : Nat
  origin : Nat
  seq : Nat
  layer : Nat
  action : Nat
  value : Nat
deriving DecidableEq, Repr

/-- Operator input and output (chapter 15). -/
structure Oper where
  keys : Tbl Key := []
  /-- Blink phase of each LED: on, and the instant it began. -/
  leds : Tbl (Bool × Nat) := []
  /-- What the touch device's descriptors said, consecutive failed reads, whether a read is under way, contacts. -/
  dev : Option TouchDev := none
  fails : Nat := 0
  reading : Bool := false
  retryAt : Nat := 0
  /-- Instant of the last read that TCH_POLL started. -/
  polledAt : Nat := 0
  contacts : List Contact := []
  queue : List ActRec := []
  nextSeq : Nat := 0
  /-- HDMI ports whose plug event awaits a confirmed unplug (R367). -/
  plugged : List Nat := []
deriving DecidableEq, Repr

/-- A session (Table 16-8). -/
inductive Who where
  | i3c
  | mgmt (port ip udp : Nat)
  | flue (origin session : Nat)
deriving DecidableEq, Repr

/-- An open segmented transfer (R384 to R387): direction, object, declared total, the bytes received or still to be
sent, the SEQUENCE expected next, the instant of its last frame, and whether it came by broadcast (R259). -/
structure Xfer where
  write : Bool
  key : Nat
  total : Nat
  data : List Byte := []
  next : Nat := 0
  last : Nat := 0
deriving DecidableEq, Repr

/-- What a session keeps (R383, R390): level, last executed request and its response, OBJECT_SEL, transfer, PIN
failures and lock-out. -/
structure Sess where
  who : Who
  level : Nat := 0
  /-- Management session index 1 to 16 (Table 16-8). -/
  index : Nat := 0
  lastReq : Option (Nat × Nat) := none
  lastResp : List Byte := []
  sel : Nat := 0
  xfer : Option Xfer := none
  /-- A transfer ended by SEG_TIMEOUT whose next SEG frame is answered 0x0E (R385). -/
  expired : Bool := false
  fails : Nat := 0
  lockUntil : Option Nat := none
  /-- Instant of the last request. -/
  seen : Nat := 0
deriving DecidableEq, Repr

/-- A forwarded request that awaits its answer (R396). -/
structure Fwd where
  path : Path
  op : Nat
  idx : Nat
  sub : Nat
  req : Req
  dest : Nat
  via : Nat
  session : Nat
  at_ : Nat
deriving DecidableEq, Repr

/-- Granil, sessions and the I3C target (chapter 16). -/
structure Gran where
  sessions : List Sess := []
  fwd : List Fwd := []
  /-- The response waiting for a private read (R392). -/
  resp : Option (List Byte) := none
  /-- Response-ready interrupt waiting (R394). -/
  respIbi : Bool := false
  /-- An IBI with data byte 0x81 asked for by the last gasp (R339). -/
  gaspIbi : Bool := false
  intOn : Bool := true
  hjOn : Bool := true
  hdr : Bool := false
  protoErr : Bool := false
  /-- IBI payload size a SETMRL carried. -/
  payload : Nat := 1
  /-- Instant of the next Hot-Join request. -/
  hotJoinAt : Nat := 0
deriving DecidableEq, Repr

/-- What a command makes the module send out, latest last. -/
inductive Emit where
  /-- A Granil answer sent as a management datagram or a Flue frame. -/
  | answer (p : Path) (bytes : List Byte)
  /-- An I3C in-band interrupt with its mandatory byte. -/
  | ibi (byte : Nat)
  | hotJoin
  /-- An answer on the I3C bus: a private or HDR read, a CCC read. -/
  | i3c (bytes : List Byte)
  | nack
  /-- A frame on a Flue port. -/
  | flue (port : Nat) (f : FlueFrame)
  /-- A frame on an Ethernet port. -/
  | eth (port : Nat) (f : EthFrame)
  /-- A cell on a Flue port (R237): its frame's class, its number in the frame, whether it is the last, its start in 1/900 ns. -/
  | cell (port cls idx : Nat) (last : Bool) (at_ : Nat)
  /-- The check bits of the next frame on a Flue port (kind 6 codeword, 7 frame CRC) or an Ethernet port (kind 5) leave
  inverted (R331). -/
  | inverted (kind port : Nat)
  /-- A time output edge: 0 PPS_OUT, 1 FRAME_OUT. -/
  | edge (out : Nat) (high : Bool)
  /-- WS of a controller port falls: instant of `Clock.mono`, frequency of BCLK in Hz (R224). -/
  | ws (port at_ bclk : Nat)
  /-- MCLK0 or MCLK1 runs at a frequency in Hz, or is held low at 0 (R225). -/
  | mclk (out hz : Nat)
  /-- Bytes on the touch port's bus (R362, R363). -/
  | touch (bytes : List Byte)
  /-- Bytes the HDMI source reads over DDC (R159). -/
  | ddc (port : Nat) (bytes : List Byte)
  /-- Test data register selected on a stove's TAP: the bits it shifts out (R429). -/
  | tap (stove : Nat) (value : Nat)
  /-- Commands on a DRAM channel and subchannel. -/
  | dram (ch sub : Nat) (cmd : DramCmd)
  /-- A line of DRAM returned to its requester, poisoned or not (R295, R304). -/
  | dramData (addr : Nat) (bytes : List Byte) (poisoned : Bool)
deriving DecidableEq, Repr

/-- The whole state. -/
structure State where
  /-- The instant reached, in 1/36 ns. -/
  now : Nat := 0
  /-- What the last command sent out. -/
  out : List Emit := []
  /-- Commands that wait, first in, first out. -/
  pending : List Instr := []
  /-- The model's own counter of free values drawn (assumption 6). -/
  free : Nat := 0
  /-- The object dictionary (chapter 16): values in force of RO, RW and RC objects, pending copies of RS objects,
  their committed copies as the last accepted commit left them, the copies in force (R63, R64), and the values written to RW
  objects that wait for their boundary, oldest first, each with the instant of its write. Unlisted objects hold their default. -/
  live : Tbl Val := []
  pend : Tbl Val := []
  committed : Tbl Val := []
  comm : Tbl Val := []
  wait : List (Nat × Val × Nat) := []
  sys : Sys := {}
  clk : Clock := {}
  flt : Faults := {}
  gran : Gran := {}
  pwr : Power := {}
  wear : Wear := {}
  inp : Inputs := {}
  comp : Tbl Comp := []
  pipe : Pipe := {}
  outp : Output := {}
  servo : Servo := {}
  audio : Audio := {}
  flue : Flue := {}
  council : Tbl Council := []
  pair : Pairs := {}
  mem : Mem := {}
  oper : Oper := {}
deriving DecidableEq, Repr

/-- Right after reset: the module without power, every object at its power-up default, no command waiting. -/
def State.reset : State := {}

end Sys2Proof.Machine
end

