-- ==== Sys2Proof/Machine/Cells.lean ====
section
/-!
DEFINITION. The transmit side of a Flue port (R237, R241, R258): frames cut into cells of 256 bytes, served by class.
-/
namespace Sys2Proof.Machine

/-- Bytes of a Flue frame: header, payload and CRC-32C (R243). -/
def flueBytes (f : FlueFrame) : Nat := 20 + if f.len = 0 then 8 * f.pay.length else f.len

/-- Cells of a frame: 252 of its bytes in each (R237). -/
def cellsOf (f : FlueFrame) : Nat := (flueBytes f + 251) / 252

/-- Time of a cell in 1/900 ns (R237): 10.24 ns at 200 Gbit/s, 20.48 ns on one lane; none on a link that is not up. -/
def cellTime (mbit : Nat) : Option Nat := if mbit = 200000 then some 9216 else if mbit = 100000 then some 18432 else none

/-- The frame of a class whose next cell may go: the oldest; a class 4 frame starts only against the neighbour's credit (R258). -/
def Link.ready (x : Link) (q : Nat) : Option FlueTx :=
  match x.tx.find? (fun y => decide (y.frame.cls = q)) with
  | some y => if q = 4 ∧ y.sent = 0 ∧ x.credit = 0 then none else some y
  | none => none

/-- The class whose cell goes next (R241): 0, 1, 2 by strict priority; 3 and 4 share what is left, class 4 going as soon as MGMT_SHARE
percent of the cells sent while it waited make a whole cell (assumption 122). -/
def Link.pick (x : Link) : Option FlueTx :=
  match x.ready 0, x.ready 1, x.ready 2, x.ready 3, x.ready 4 with
  | some y, _, _, _, _ => some y
  | none, some y, _, _, _ => some y
  | none, none, some y, _, _ => some y
  | none, none, none, some y, some z => if 100 ≤ x.owed then some z else some y
  | none, none, none, some y, none => some y
  | none, none, none, none, z => z

/-- One cell of a frame sent. -/
def Link.sendCell (x : Link) (share per : Nat) (y : FlueTx) : Link :=
  let four := decide (y.frame.cls = 4)
  let waits := (x.ready 4).isSome
  { x with
    tx := if cellsOf y.frame ≤ y.sent + 1 then x.tx.erase y else x.tx.map (fun z => if z = y then { z with sent := z.sent + 1 } else z)
    txAt := x.txAt + per
    owed := (if waits then x.owed + share else 0) - (if four then 100 else 0)
    credit := if four && decide (y.sent = 0) then x.credit - 1 else x.credit }

/-- The cells that a port sends up to an instant, in 1/900 ns. -/
def Link.sendGo (p share per till : Nat) : Nat → Link → List Emit → Link × List Emit
  | 0, x, out => (x, out)
  | fuel + 1, x, out =>
    if till < x.txAt + per then (x, out)
    else match x.pick with
      | none => (x, out)
      | some y => Link.sendGo p share per till fuel (x.sendCell share per y)
          (out ++ [.cell p y.frame.cls y.sent (decide (cellsOf y.frame ≤ y.sent + 1)) x.txAt])

/-- The Flue ports brought up to an instant of `now`: what they hold, and the cells sent. -/
def State.cellsTill (s : State) (t : Nat) : Tbl Link × List Emit :=
  let share := (s.comm.get (dfltOf (key 0x8100 0xB)) (key 0x8100 0xB)).nat
  s.flue.links.foldl (fun (a : Tbl Link × List Emit) e =>
    let r := match cellTime (s.live.get (dfltOf (key (0x8110 + e.1) 0xE)) (key (0x8110 + e.1) 0xE)).nat with
      | some per => if e.2.tx.isEmpty then (e.2, []) else
          Link.sendGo e.1 share per (25 * t) (e.2.tx.foldl (fun (n : Nat) (y : FlueTx) => n + cellsOf y.frame) 0) e.2 []
      | none => (e.2, [])
    (a.1 ++ [(e.1, r.1)], a.2 ++ r.2)) ([], [])

/-- A frame enters a port's transmit side. -/
def Link.enqueue (x : Link) (now : Nat) (f : FlueFrame) : Link :=
  { x with tx := x.tx ++ [{ frame := f }], txAt := if x.tx = [] then max x.txAt (25 * now) else x.txAt }

end Sys2Proof.Machine
end

