-- ==== Sys2Proof/Machine/Ops.lean ====
section
/-!
DEFINITION. The named operations every chapter shares: the clauses every command obeys, the object stores, what goes
out, free values, and the time counter.
-/
namespace Sys2Proof.Machine

/-- What FLOW_TX_STATE shows, as it stands where a command's instant passes a whole millisecond (Table 7-9): between commands nothing
changes. -/
def State.shownOutp (s : State) (t : Nat) : Output :=
  if t / tuMs 1 ≤ s.now / tuMs 1 then s.outp else { s.outp with shownEnts := s.outp.ents, shownPorts := s.outp.ports }

/-- Arriving at a command's instant: time never runs back, what the last command sent out is gone, and the Flue ports have sent the
cells that fell between (R237). -/
def State.begin (s : State) (t : Nat) : State :=
  let r := s.cellsTill (max s.now t)
  { s with now := max s.now t, out := r.2, outp := s.shownOutp t, flue := { s.flue with links := r.1 } }

/-- The HDMI sinks' +5V contacts alone. -/
def fiveVs (m : Tbl Hdmi) : Tbl Hdmi :=
  (m.filter (fun (e : Nat × Hdmi) => e.2.fiveV)).map (fun (e : Nat × Hdmi) => (e.1, { ({} : Hdmi) with fiveV := true }))

/-- The module without power (R322, R349, R399): what stands at reset, with the queue, the instant, what goes out and the free-value
counter as they are, and the contacts that the outside drives: RST_N, HOLD_N, TEST_RST_N and the +5V of the HDMI sinks. -/
def State.unpowered (s : State) : State :=
  { State.reset with
    now := s.now, out := s.out, pending := s.pending, free := s.free,
    sys := { ({} : Sys) with rstLow := s.sys.rstLow, holdN := s.sys.holdN, testRstHigh := s.sys.testRstHigh },
    inp := { ({} : Inputs) with hdmi := fiveVs s.inp.hdmi } }

/-- Whatever a command does, a module without power holds nothing but its contacts, and COLD ends only with the power (R322). -/
def State.settle (before after : State) : State :=
  if after.sys.boot = .off then after.unpowered
  else if before.sys.mode = .cold then { after with sys := { after.sys with mode := .cold } }
  else after

/-- The effect `f`, at instant `t`, of a command that may change how far power-up has come, on everything but the queue
(assumption 2). -/
def actAny (t : Nat) (f : State → State) (s : State) : Host.Outcome State Fault Refusal :=
  .next { s.settle (f (s.begin t)) with now := max s.now t, pending := s.pending }

/-- The hidden state of chapter 17 after a command that leaves power-up as it stood; COLD stays COLD (R322). -/
def Sys.keep (before after : Sys) : Sys :=
  { after with boot := before.boot, mode := if before.mode = .cold then .cold else after.mode }

/-- The effect `f`, at instant `t`, of every other command, on everything but the queue: none on a module without power. -/
def act (t : Nat) (f : State → State) (s : State) : Host.Outcome State Fault Refusal :=
  if s.sys.boot = .off then .next (s.begin t)
  else
    let a := f (s.begin t)
    .next { a with now := max s.now t, pending := s.pending, sys := s.sys.keep a.sys }

/-- A change of a contact's level at instant `t`: `pin` records it on a module without power, `f` is its effect on any other. -/
def actPin (t : Nat) (pin f : State → State) (s : State) : Host.Outcome State Fault Refusal :=
  if s.sys.boot = .off then .next { (pin (s.begin t)).unpowered with now := max s.now t, pending := s.pending } else act t f s

/-- `f` on each number below `n`, in ascending order. -/
def eachBelow (n : Nat) (f : Nat → State → State) (s : State) : State := (List.range n).foldl (fun s i => f i s) s

/-- `f` on each member of a list, in order. -/
def eachIn {α : Type} (xs : List α) (f : α → State → State) (s : State) : State := xs.foldl (fun s x => f x s) s

def State.emit (s : State) (e : Emit) : State := { s with out := s.out ++ [e] }

/-! Object stores (R372). -/

/-- The value of an object in a store; unlisted objects hold their default. -/
def objGet (m : Tbl Val) (k : Nat) : Val := m.get (dfltOf k) k

/-- A store with one object's value changed; the default is not listed. -/
def objPut (m : Tbl Val) (k : Nat) (v : Val) : Tbl Val := m.put (dfltOf k) k v

/-- The value in force of an RO, RW or RC object. -/
def State.lv (s : State) (idx sub : Nat) : Nat := (objGet s.live (key idx sub)).nat
def State.lvb (s : State) (idx sub : Nat) : List Byte := (objGet s.live (key idx sub)).blk
/-- The committed copy of an RS object. -/
def State.cm (s : State) (idx sub : Nat) : Nat := (objGet s.comm (key idx sub)).nat
def State.cmb (s : State) (idx sub : Nat) : List Byte := (objGet s.comm (key idx sub)).blk

def State.setV (s : State) (idx sub : Nat) (v : Val) : State := { s with live := objPut s.live (key idx sub) v }
def State.setN (s : State) (idx sub v : Nat) : State := s.setV idx sub (.n v)
def State.setB (s : State) (idx sub : Nat) (bs : List Byte) : State := s.setV idx sub (.b bs)

/-- Bits of an object's type; 0 for STR and BLOCK. -/
def widthOf (k : Nat) : Nat := match rowOf k with | some r => 8 * r.ty.size | none => 0

/-- Adding to a counter. Where the sum does not fit the counter the spec states no value: a free value. -/
def State.addN (s : State) (idx sub d : Nat) : State :=
  let v := s.lv idx sub + d
  let w := widthOf (key idx sub)
  s.setN idx sub (if v < 2 ^ w then v else (Config.counterPast (key idx sub) v) % 2 ^ w)

def State.inc (s : State) (idx sub : Nat) : State := s.addN idx sub 1

/-- A free value of the spec: drawn once, different draws unrelated (assumption 6). -/
def State.drawFree (s : State) : Nat × State := ((Config.freeValue s.free).toNat, { s with free := s.free + 1 })

/-! Named objects that several chapters read. -/

def Mode.code : Mode → Nat
  | .kindling => 1 | .laid => 2 | .lit => 3 | .banked => 4 | .damped => 5 | .cold => 6

/-- The module serves its functions: powered, out of reset, past the self-tests of Table 17-1. -/
def State.isUp (s : State) : Bool := decide (s.sys.boot = .up)

/-- In LAID, LIT or DAMPED: a committed configuration is in force and the ports run. -/
def State.running (s : State) : Bool :=
  s.isUp && decide (s.sys.mode = .laid ∨ s.sys.mode = .lit ∨ s.sys.mode = .damped)

/-! The time counter (R201 to R203). -/

/-- 2.5 ns in 2^-40 ns. -/
def tickUnit : Nat := 2748779069440

/-- What the counter adds each tick: 2.5 ns × (1 + y), held to 2^-40 ns (R201). -/
def tickInc (y : Int) : Nat := ((tickUnit : Int) + (tickUnit : Int) * y / 1000000000000).toNat

/-- `mono` at the present tick, in 2^-40 ns. -/
def State.mono (s : State) : Nat :=
  if s.clk.run then s.clk.mono + (s.now / tuTick - s.clk.at_ / tuTick) * tickInc s.clk.y else s.clk.mono

/-- The counter at the present tick, in 2^-40 ns. -/
def State.ctrNow (s : State) : Nat := ((s.mono : Int) + s.clk.off).toNat

/-- The clock brought up to the present tick. -/
def State.syncClk (s : State) : State := { s with clk := { s.clk with mono := s.mono, at_ := s.now } }

/-- Whole nanoseconds of a counter value. -/
def ctrNs (c : Nat) : Nat := c / 2 ^ 40

/-- The counter as a TIME value (Table 16-1): seconds, nanoseconds, 16 bits of fraction. -/
def ctrTime (c : Nat) : Nat := (ctrNs c / 1000000000) * 2 ^ 48 + (ctrNs c % 1000000000) * 2 ^ 16 + (c / 2 ^ 24) % 2 ^ 16

/-- A TIME value as a counter value. -/
def timeCtr (v : Nat) : Nat := ((v / 2 ^ 48) * 1000000000 + (v / 2 ^ 16) % 2 ^ 32) * 2 ^ 40 + (v % 2 ^ 16) * 2 ^ 24

/-- The 80-bit time stamp of a capture (R319): seconds and nanoseconds. -/
def State.stamp (s : State) : Nat := ctrTime s.ctrNow / 2 ^ 16

/-- Whether an instant held in `mono` has come: the 2.5 ns tick nearest to it (R36). -/
def State.due (s : State) (m : Nat) : Bool := decide (m ≤ s.mono + tickUnit / 2)

/-- Nanoseconds as a counter amount. -/
def nsCtr (n : Nat) : Nat := n * 2 ^ 40

end Sys2Proof.Machine
end

