-- ==== Sys2Proof/Machine/Geom.lean ====
section
/-!
DEFINITION. What a configuration says of canvases, cabinet groups, delay, placement and budgets (chapter "Canvases,
cabinet groups and fixed delay", R33 to R62; budgets of R65). Every function reads one store of RS objects, so that
the pending copies at a commit and the committed copies in force share one meaning.
-/
namespace Sys2Proof.Machine

/-- An RS object of a store. -/
def cfg (m : Tbl Val) (idx sub : Nat) : Nat := (objGet m (key idx sub)).nat
def cfgB (m : Tbl Val) (idx sub : Nat) : List Byte := (objGet m (key idx sub)).blk

/-- Channel and flow objects (Tables 2-7 and 2-8). -/
def chan (m : Tbl Val) (c sub : Nat) : Nat := cfg m (0x4000 + c) sub
def flow (m : Tbl Val) (n sub : Nat) : Nat := cfg m (0x5000 + n) sub

/-- The units of an index range whose BOOL at subindex 01 is 1, ascending; unlisted objects are at their default 0. -/
def enabledOf (m : Tbl Val) (base cnt : Nat) : List Nat :=
  m.filterMap (fun e => if keySub e.1 = 1 ∧ base ≤ keyIdx e.1 ∧ keyIdx e.1 < base + cnt ∧ e.2 = Val.n 1
    then some (keyIdx e.1 - base) else none)

def chanOn (m : Tbl Val) : List Nat := enabledOf m 0x4000 16
def flowsOn (m : Tbl Val) : List Nat := enabledOf m 0x5000 4096

/-- Enabled flows of a channel, ascending. -/
def flowsOf (m : Tbl Val) (c : Nat) : List Nat := (flowsOn m).filter (fun n => decide (flow m n 2 = c))

/-- Enabled cabinet-group flows of a channel. -/
def groupsOf (m : Tbl Val) (c : Nat) : List Nat := (flowsOf m c).filter (fun n => decide (flow m n 3 = 0))

/-- Frame period of a rate code as numerator and denominator of seconds (Table 2-1). -/
def periodOf : Nat → Nat × Nat
  | 1 => (1001, 24000) | 2 => (1, 24) | 3 => (1, 25) | 4 => (1001, 30000) | 5 => (1, 30) | 6 => (1, 48)
  | 7 => (1, 50) | 8 => (1001, 60000) | 9 => (1, 60) | 10 => (1, 100) | 11 => (1001, 120000) | 12 => (1, 120)
  | _ => (1, 60)

/-- Frame rate times 1001, a whole number. -/
def rate1001 (code : Nat) : Nat := (periodOf code).2 * 1001 / (periodOf code).1

/-- Nominal frame period P in 2^-40 ns, rounded to the nearest. -/
def period40 (code : Nat) : Nat := roundDiv (1000000000 * 2 ^ 40 * (periodOf code).1) (periodOf code).2

/-- S, N, D, H of a channel. -/
def ctu (m : Tbl Val) (c : Nat) : Nat := chan m c 8
def nStripes (m : Tbl Val) (c : Nat) : Nat := ceilDiv (chan m c 4) (ctu m c)

/-- The stripe period in 2^-16 ns, rounded to the nearest, halves up (R35). -/
def ts16 (m : Tbl Val) (c : Nat) : Nat :=
  let p := periodOf (chan m c 5)
  roundDiv (1000000000 * 65536 * p.1) (p.2 * nStripes m c)

/-- STRIPE_PERIOD, to the nearest picosecond, halves up (R35). -/
def stripePs (m : Tbl Val) (c : Nat) : Nat := roundDiv (ts16 m c * 1000) 65536

/-- CANVAS_DELAY: D × Ts + 40 µs in ns (R43, Table 2-7). -/
def canvasDelayNs (m : Tbl Val) (c : Nat) : Nat := roundDiv (chan m c 9 * ts16 m c) 65536 + 40000

/-- Lines of canvas stripe k: first, and one past the last (R35). -/
def stripeLines (m : Tbl Val) (c k : Nat) : Nat × Nat :=
  (k * ctu m c, min ((k + 1) * ctu m c) (chan m c 4))

/-! Groups (R38 to R42). -/

def gS (m : Tbl Val) (n : Nat) : Nat := ctu m (flow m n 2)
def gCw (m : Tbl Val) (n : Nat) : Nat := ceilDiv (flow m n 7) (gS m n)
def gNf (m : Tbl Val) (n : Nat) : Nat := ceilDiv (flow m n 8) (gS m n)

/-- Width and height in samples of a CTU of column `col` in flow stripe `j` (R39). -/
def ctuW (m : Tbl Val) (n col : Nat) : Nat := min (gS m n) (flow m n 7 - col * gS m n)
def ctuH (m : Tbl Val) (n j : Nat) : Nat := min (gS m n) (flow m n 8 - j * gS m n)

/-- The canvas stripe a flow stripe belongs to (R42). -/
def belongs (m : Tbl Val) (n j : Nat) : Nat := (flow m n 6 + min ((j + 1) * gS m n) (flow m n 8) - 1) / gS m n

/-- Flow stripes of a flow that belong to canvas stripe k, ascending (R42). -/
def stripesIn (m : Tbl Val) (n k : Nat) : List Nat := (List.range (gNf m n)).filter (fun j => decide (belongs m n j = k))

/-- Job time of a CTU: 16 cycles of 1200 MHz for each luma sample, in 1/36 ns (R8, R39). -/
def jobTime (samples : Nat) : Nat := 480 * samples

/-- Path of segment 0 at width w (R46), in 1/36 ns. -/
def segPath (m : Tbl Val) (n w : Nat) : Nat :=
  let s := gS m n
  let full := decide (w = gCw m n)
  let wide := if full then flow m n 7 else w * s
  let nf := gNf m n
  let last := if full then ctuW m n (gCw m n - 1) else s
  jobTime (wide * min s (flow m n 8)) +
    (if 2 ≤ nf ∧ belongs m n (nf - 1) = belongs m n (nf - 2) then jobTime (last * ctuH m n (nf - 1)) else 0)

/-- The usable window E = (D − 2 − Lc) × Ts in 2^-16 ns (R44). -/
def window16 (m : Tbl Val) (c d lc : Nat) : Nat := (d - 2 - lc) * ts16 m c

/-- The canvas segment width for full CTUs, floor(E / tjob) (R57). -/
def mergeW (m : Tbl Val) (c d lc : Nat) : Nat :=
  36 * window16 m c d lc / (65536 * jobTime (ctu m c * ctu m c))

/-- Segment width w at a delay (R46); with merging, wc or the full width (R57); 0 when none fits. -/
def segWidth (m : Tbl Val) (n d lc : Nat) : Nat :=
  let c := flow m n 2
  if chan m c 0xE = 1 then min (mergeW m c d lc) (gCw m n)
  else
    match ((List.range (gCw m n)).reverse.find? (fun i =>
        decide (segPath m n (i + 1) * 65536 ≤ 36 * window16 m c d lc))) with
    | some i => i + 1
    | none => 0

/-- Whether a delay gives every enabled flow of the channel a segment width with at most 20 segments (R47). -/
def delayOk (m : Tbl Val) (c d lc : Nat) : Bool :=
  (groupsOf m c).all (fun n =>
    let w := segWidth m n d lc
    decide (1 ≤ w) && decide (ceilDiv (gCw m n) w ≤ 20))

/-- D_MIN (R47): 0 if none. -/
def dMin (m : Tbl Val) (c lc : Nat) : Nat :=
  match (List.range (62 - lc)).find? (fun i => delayOk m c (3 + lc + i) lc) with
  | some i => 3 + lc + i
  | none => 0

/-! Capacity and placement (R49, R50). -/

/-- Pixel rate of a flow times 1001 (R49); a merged flow encodes nothing of its own. -/
def pix1001 (m : Tbl Val) (n : Nat) : Nat :=
  if flow m n 3 = 0 then flow m n 7 * flow m n 8 * rate1001 (chan m (flow m n 2) 5) else 0

/-- ENC_RATE of a channel, pix/s, rounded down. -/
def encRate (m : Tbl Val) (c : Nat) : Nat := sumList ((flowsOf m c).map (pix1001 m)) / 1001

/-- Hearths a channel may use. -/
def maskHas (m : Tbl Val) (c h : Nat) : Bool := (chan m c 0xB).testBit h

/-- Rate placed on a hearth so far, by pairs (flow, hearth). -/
def placedRate (m : Tbl Val) (pl : List (Nat × Nat)) (h : Nat) : Nat :=
  sumList ((pl.filter (fun p => p.2 = h)).map (fun p => pix1001 m p.1))

/-- The hearth in a mask with the smallest rate so far, the lowest number on a tie (R50). -/
def leastHearth (m : Tbl Val) (pl : List (Nat × Nat)) (c : Nat) : Option Nat :=
  (List.range 8).foldl (fun best h =>
    if maskHas m c h then
      match best with
      | none => some h
      | some b => if placedRate m pl h < placedRate m pl b then some h else best
    else best) none

/-- PLACED_HEARTH of every enabled group flow (R50): flows kept from the running configuration and flows with a fixed
FLOW_HEARTH are counted first; the others follow in ascending channel, then ascending flow number. -/
def placement (m : Tbl Val) (kept : List (Nat × Nat)) : List (Nat × Nat) :=
  let groups := (List.range 16).flatMap (groupsOf m)
  let free := groups.filter (fun n => !(kept.any (fun p => p.1 = n)))
  let fixed := free.filter (fun n => flow m n 0xD ≠ 0xFF)
  let first := kept ++ fixed.map (fun n => (n, flow m n 0xD))
  (free.filter (fun n => decide (flow m n 0xD = 0xFF))).foldl (fun pl n =>
    match leastHearth m pl (flow m n 2) with
    | some h => pl ++ [(n, h)]
    | none => pl) first

/-- Stripe cap F of a flow in 1/64, cap mode STANDIN, and HASH_EN (Table 3-8). -/
def rcEntry (m : Tbl Val) (n : Nat) : Nat := fieldAt (cfgB m 0x4210 1) (4 * n + 3) (4 * n)
def capF (m : Tbl Val) (n : Nat) : Nat := rcEntry m n % 256
def capStandIn (m : Tbl Val) (n : Nat) : Bool := (rcEntry m n).testBit 8
def hashEn (m : Tbl Val) (n : Nat) : Bool := (rcEntry m n).testBit 9

/-- Budgets of R65 in 2^-16 bit, each rounded down: Bp, B and C. -/
def budgetP (m : Tbl Val) (n : Nat) : Nat :=
  let p := periodOf (chan m (flow m n 2) 5)
  flow m n 4 * 1000 * p.1 * 65536 / p.2
def budgetB (m : Tbl Val) (n : Nat) : Nat := budgetP m n / gNf m n
def budgetC (m : Tbl Val) (n : Nat) : Nat := budgetP m n * capF m n / (64 * gNf m n)

/-- r of R51 in kbit/s: FLOW_RATE × N / Nf × F, rounded up. -/
def stripeSend (m : Tbl Val) (n : Nat) : Nat :=
  ceilDiv (flow m n 4 * nStripes m (flow m n 2) * capF m n) (gNf m n * 64)

/-- SUBPIC_INDEX: groups in raster order of their top-left corners (R58). -/
def subpicIndex (m : Tbl Val) (n : Nat) : Nat :=
  ((groupsOf m (flow m n 2)).filter (fun i =>
    decide (flow m i 6 < flow m n 6) || (decide (flow m i 6 = flow m n 6) && decide (flow m i 5 < flow m n 5)))).length

/-- General profile (R34, Table 2-5). -/
def profileOf (m : Tbl Val) (c : Nat) : Nat :=
  if chan m c 7 = 0 then (if chan m c 6 = 0 then 1 else 33) else (if chan m c 6 = 0 then 2 else 4)

/-- Codec, CTU size and format combinations of R34. -/
def comboOk (m : Tbl Val) (c : Nat) : Bool :=
  if chan m c 7 = 0 then decide (ctu m c = 128 ∨ ctu m c = 64) else decide (ctu m c = 64 ∨ ctu m c = 32)

/-- Segments of a flow at its width, and the columns of a segment (R45). -/
def segCount (m : Tbl Val) (n w : Nat) : Nat := ceilDiv (gCw m n) (max 1 w)
def segCols (m : Tbl Val) (n w g : Nat) : List Nat :=
  (List.range (gCw m n)).filter (fun col => decide (col / (max 1 w) = g))

end Sys2Proof.Machine
end

