-- ==== Sys2Proof/Machine/Compose.lean ====
section
/-!
DEFINITION. Composition: the composed window, pipes, bands and scalers that a configuration gives (R119 to R134), and
the value of a composed sample (R127, R128, R132 to R143) and of a region's CRC (R144).
-/
namespace Sys2Proof.Machine

/-! Signature regions (Table 5-11). -/

structure RegionDef where
  x : Nat
  y : Nat
  w : Nat
  h : Nat
  on : Bool
  k : Nat
  action : Nat

def regionDef (m : Tbl Val) (c r : Nat) : RegionDef :=
  let b := recAt (cfgB m (0x3900 + c) 1) 16 r
  { x := fieldAt b 1 0, y := fieldAt b 3 2, w := fieldAt b 5 4, h := fieldAt b 7 6,
    on := bitAt (fieldAt b 9 9) 0, k := fieldAt b 10 10, action := fieldAt b 11 11 }

/-- Enabled regions of a channel, ascending. -/
def regionsOn (m : Tbl Val) (c : Nat) : List Nat := (List.range 64).filter (fun r => (regionDef m c r).on)

/-! Window, pipes and bands (R119 to R122). -/

/-- What a channel's window must hold: its enabled cabinet groups and signature regions. -/
def windowParts (m : Tbl Val) (c : Nat) : List Rect :=
  (groupsOf m c).map (fun n => ⟨flow m n 5, flow m n 6, flow m n 7, flow m n 8⟩) ++
  (regionsOn m c).map (fun r => let d := regionDef m c r; ⟨d.x, d.y, d.w, d.h⟩)

/-- The composed window (R119); empty when there is nothing to compose. -/
def window (m : Tbl Val) (c : Nat) : Rect :=
  match windowParts m c with
  | [] => ⟨0, 0, 0, 0⟩
  | p :: ps =>
    let x0 := (p :: ps).foldl (fun a r => min a r.x) p.x / 64 * 64
    let x1 := min (ceilDiv ((p :: ps).foldl (fun a r => max a (r.x + r.w)) 0) 64 * 64) (chan m c 3)
    let k0 := (p :: ps).foldl (fun a r => min a r.y) p.y / ctu m c
    let k1 := ((p :: ps).foldl (fun a r => max a (r.y + r.h)) 1 - 1) / ctu m c
    ⟨x0, k0 * ctu m c, x1 - x0, min ((k1 + 1) * ctu m c) (chan m c 4) - k0 * ctu m c⟩

/-- COMP_RATE times 1001, and in pix/s, rounded down (R119). -/
def compRate1001 (m : Tbl Val) (c : Nat) : Nat := (window m c).w * (window m c).h * rate1001 (chan m c 5)
def compRate (m : Tbl Val) (c : Nat) : Nat := compRate1001 m c / 1001

/-- Left edge of band i of a channel on `p` pipes, its width, and its rate times 1001 (R121). Where the window ends at a canvas edge
that is no multiple of 64, the last band ends there too (assumption 106). -/
def bandEdge (m : Tbl Val) (c p i : Nat) : Nat :=
  (window m c).x + 64 * roundDiv ((window m c).w * i) (64 * p)
def bandWidth (m : Tbl Val) (c p i : Nat) : Nat :=
  min (bandEdge m c p (i + 1)) ((window m c).x + (window m c).w) - min (bandEdge m c p i) ((window m c).x + (window m c).w)
def bandRate1001 (m : Tbl Val) (c p i : Nat) : Nat := bandWidth m c p i * (window m c).h * rate1001 (chan m c 5)

/-- The pipe limit of 2.0 Gpix/s, times 1001 (R122). -/
def pipeLimit1001 : Nat := 2000000000 * 1001

def pipesOfMask (mask : Nat) : List Nat := (List.range 8).filter (fun p => mask.testBit p)

/-- Rates of the eight pipes times 1001 with a channel's bands added, in ascending pipe number. -/
def addBands (m : Tbl Val) (c mask : Nat) (rates : List Nat) : List Nat :=
  let ps := pipesOfMask mask
  (List.range ps.length).foldl (fun rs i => rs.modify (ps.getD i 0) (· + bandRate1001 m c ps.length i)) rates

/-- The pipe of a list with the least rate, the lowest number on a tie. -/
def leastPipe (rates : List Nat) : List Nat → Option Nat
  | [] => none
  | p :: ps =>
    match leastPipe rates ps with
    | none => some p
    | some q => if rates.getD p 0 ≤ rates.getD q 0 then some p else some q

/-- The `n` pipes of a list with the least rates. -/
def leastPipes (rates : List Nat) : Nat → List Nat → List Nat
  | 0, _ => []
  | n + 1, ps =>
    match leastPipe rates ps with
    | none => []
    | some p => p :: leastPipes rates n (ps.filter (· ≠ p))

/-- The stove that carries the larger share of a channel's allocated encode rate; stove A on a tie (R120). -/
def channelStove (m : Tbl Val) (pl : List (Nat × Nat)) (c : Nat) : Nat :=
  let share := fun st => sumList ((pl.filter (fun p => decide (flow m p.1 2 = c) && decide (p.2 / 4 = st))).map
    (fun p => pix1001 m p.1))
  if share 0 < share 1 then 1 else 0

/-- The mask of `n` pipes taken as step 2 of R120 says. -/
def choosePipes (rates : List Nat) (stove n : Nat) : Nat :=
  let here := (List.range 4).map (fun i => 4 * stove + i)
  let there := (List.range 4).map (fun i => 4 * (1 - stove) + i)
  let a := leastPipes rates (min n 4) here
  let b := leastPipes rates (n - 4) there
  (a ++ b).foldl (fun v p => setBit v p true) 0

/-- Steps 1 to 3 of R120, raising P from `p`. -/
def autoPipes (m : Tbl Val) (c stove : Nat) (rates : List Nat) : Nat → Nat → Nat
  | 0, p => choosePipes rates stove (min p 8)
  | fuel + 1, p =>
    let mask := choosePipes rates stove p
    if 8 ≤ p ∨ (pipesOfMask mask).all (fun q => decide ((addBands m c mask rates).getD q 0 ≤ pipeLimit1001)) then mask
    else autoPipes m c stove rates fuel (p + 1)

/-- PIPES_PLACED of every enabled channel: fixed masks first, then the others in ascending channel number (R120), with
the pipe rates times 1001. -/
def pipePlacement (m : Tbl Val) (pl : List (Nat × Nat)) : List (Nat × Nat) × List Nat :=
  let cs := chanOn m
  let fixed := cs.filter (fun c => decide (cfg m (0x3000 + c) 1 ≠ 0))
  let r0 := fixed.foldl (fun (a : List (Nat × Nat) × List Nat) c =>
    (a.1 ++ [(c, cfg m (0x3000 + c) 1)], addBands m c (cfg m (0x3000 + c) 1) a.2)) ([], List.replicate 8 0)
  (cs.filter (fun c => decide (cfg m (0x3000 + c) 1 = 0))).foldl (fun a c =>
    if compRate1001 m c = 0 then (a.1 ++ [(c, 0)], a.2) else
    let mask := autoPipes m c (channelStove m pl c) a.2 8 (max 1 (ceilDiv (compRate1001 m c) pipeLimit1001))
    (a.1 ++ [(c, mask)], addBands m c mask a.2)) r0

/-- The pipes of a channel in a placement. -/
def pipesIn (pp : List (Nat × Nat)) (c : Nat) : List Nat :=
  match pp.find? (fun e => e.1 = c) with
  | some e => pipesOfMask e.2
  | none => []

/-! Scalers (R128, R134). -/

def layerIdx (c l : Nat) : Nat := 0x3100 + 16 * c + l
def layerCfg (m : Tbl Val) (c l sub : Nat) : Nat := cfg m (layerIdx c l) sub

/-- Whether a layer of a configuration reserves a scaler (R128, R149). -/
def reservesScaler (m : Tbl Val) (c l : Nat) : Bool :=
  let safety := (regionsOn m c).any (fun r => decide ((regionDef m c r).action = 1))
  (decide (l = 0) && safety) ||
  (decide (layerCfg m c l 1 = 1) && decide (layerCfg m c l 2 ≠ 1) &&
    (decide (layerCfg m c l 4 = 1) ||
      !(decide (layerCfg m c l 7 ≠ 0) && decide (layerCfg m c l 8 ≠ 0) &&
        decide (layerCfg m c l 7 = layerCfg m c l 0xB) && decide (layerCfg m c l 8 = layerCfg m c l 0xC))))

/-- Widest band of a channel on `p` pipes. -/
def widestBand (m : Tbl Val) (c p : Nat) : Nat := maxList ((List.range p).map (bandWidth m c p))

/-- Width a layer needs in each pipe, and the scalers it takes there: 0, 1, 2, and 3 where it needs more than 16,384. -/
def scalerWidth (m : Tbl Val) (c p l : Nat) : Nat := min (layerCfg m c l 0xB) (widestBand m c p)
def scalersOf (m : Tbl Val) (c p l : Nat) : Nat :=
  if !reservesScaler m c l then 0
  else if scalerWidth m c p l ≤ 8192 then 1 else if scalerWidth m c p l ≤ 16384 then 2 else 3

/-- Scalers used on a pipe by the layers of all its channels. -/
def scalersUsed (m : Tbl Val) (pp : List (Nat × Nat)) (p : Nat) : Nat :=
  sumList ((chanOn m).map (fun c => if (pipesIn pp c).contains p
    then sumList ((List.range 16).map (scalersOf m c (pipesIn pp c).length)) else 0))

/-! Samples of a source (R127, R132). -/

/-- A plane's sample, positions outside it taking the nearest edge sample. -/
def planeAt (pl : List Nat) (w h : Nat) (x y : Int) : Int :=
  (pl.getD ((clampInt y 0 ((h : Int) - 1)).toNat * w + (clampInt x 0 ((w : Int) - 1)).toNat) 0 : Nat)

/-- What the scalers read: one plane of a picture with its size, the crop in luma samples, the plane's samples in it as first and count,
the depth it is held at, and luma samples to one sample of the plane, each way. -/
structure PlaneView where
  pl : List Nat
  w : Nat
  h : Nat
  crop : Rect
  cx : Nat
  cy : Nat
  cw : Nat
  ch : Nat
  depth : Nat
  subX : Nat
  subY : Nat

/-- Sample of the crop at a position of the plane: nearest sample inside the crop, then inside the source, 12 bits. -/
def PlaneView.at (v : PlaneView) (x y : Int) : Int :=
  planeAt v.pl v.w v.h (clampInt x v.cx ((v.cx : Int) + v.cw - 1)) (clampInt y v.cy ((v.cy : Int) + v.ch - 1)) *
    2 ^ (12 - v.depth)

/-- Plane `p` of a picture and its crop: chroma planes of 4:2:2 and 4:2:0 have half sizes, and of a crop with odd edges hold the samples
that stand at its luma samples (assumption 105). -/
def planeView (pic : Pic) (crop : Rect) (p : Nat) : PlaneView :=
  let chroma := decide (p = 1 ∨ p = 2)
  let sx := if chroma && (decide (pic.samp = 1) || decide (pic.samp = 3)) then 2 else 1
  let sy := if chroma && decide (pic.samp = 3) then 2 else 1
  let cx := ceilDiv crop.x sx
  let cy := ceilDiv crop.y sy
  { pl := pic.planes.getD p [], w := ceilDiv pic.w sx, h := ceilDiv pic.h sy, crop := crop, cx := cx, cy := cy,
    cw := max 1 (ceilDiv (crop.x + crop.w) sx - cx), ch := max 1 (ceilDiv (crop.y + crop.h) sy - cy), depth := pic.depth, subX := sx, subY := sy }

/-- Tap index and phase of output sample `x` (R132) for a crop from luma sample `s0`, `sw` luma samples wide, in a plane with `sub` luma
samples to each of its own; `shift` moves the position in 2^-20 samples. -/
def scalePos (s0 sw dw sub x : Nat) (shift : Int) : Int × Nat :=
  let step : Int := roundDiv (sw * 2 ^ 20) (max 1 (sub * dw))
  let pos : Int := (s0 * 2 ^ 20 / max 1 sub : Nat) + x * step + (step - 2 ^ 20) / 2 + shift
  (pos / 2 ^ 20, (pos % 2 ^ 20 / 2 ^ 14).toNat)

/-- A coefficient of a bank (R133). -/
def coefOf (bank : List Byte) (vertical : Bool) (phase tap : Nat) : Int :=
  let o := if vertical then 1024 + 2 * (6 * phase + tap) else 2 * (8 * phase + tap)
  signed 16 (fieldAt bank (o + 1) o)

/-- The result of a filter: (Σ + 128) >> 8, clamped to 0–4095 (R132). -/
def filterOut (sum : Int) : Int := clampInt ((sum + 128) / 256) 0 4095

/-- Horizontal pass on line `y` of a plane. A co-sited chroma plane lies a quarter of its sample later than its
dimensions alone place it. -/
def scaleH (v : PlaneView) (bank : List Byte) (dw x : Nat) (y : Int) : Int :=
  let p := scalePos v.crop.x v.crop.w dw v.subX x (if v.subX = 2 then 2 ^ 18 else 0)
  filterOut ((List.range 8).foldl (fun (a : Int) t => a + coefOf bank false p.2 t * v.at (p.1 - 3 + t) y) 0)

/-- A scaled sample (R132): horizontal pass first. -/
def scaleAt (v : PlaneView) (bankH bankV : List Byte) (dw dh x y : Nat) : Int :=
  let p := scalePos v.crop.y v.crop.h dh v.subY y 0
  filterOut ((List.range 6).foldl (fun (a : Int) t =>
    a + coefOf bankV true p.2 t * scaleH v bankH dw x (p.1 - 2 + t)) 0)

/-- The fixed filter [−1 9 9 −1] / 16 (R132). -/
def bypassTap (a b c d : Int) : Int := clampInt ((-a + 9 * b + 9 * c - d + 8) / 16) 0 4095

/-- A sample of a bypassing layer (R128, R132): chroma is interpolated at the positions that lie between its samples. -/
def bypassAt (v : PlaneView) (x y : Nat) : Int :=
  let row : Int → Int := fun yy =>
    let i : Int := (v.crop.x + x) / v.subX
    if v.subX = 2 ∧ (v.crop.x + x) % 2 = 1 then bypassTap (v.at (i - 1) yy) (v.at i yy) (v.at (i + 1) yy) (v.at (i + 2) yy)
    else v.at i yy
  if v.subY = 2 then
    let j : Int := ((v.crop.y + y : Nat) - 1 : Int) / 2
    bypassTap (row (j - 1)) (row j) (row (j + 1)) (row (j + 2))
  else row (v.crop.y + y)

/-! Colour (R136 to R143). -/

/-- A matrix record applied (R137), outputs clamped to `hi`. `e` gives the entries of the record. -/
def matApply (e : Nat → Int) (hi : Int) (v : List Int) : List Int :=
  (List.range 3).map (fun r =>
    clampInt (((List.range 3).foldl (fun (a : Int) k => a + e (3 * r + k) * v.getD k 0) 0 + 2 ^ 15) / 2 ^ 16 + e (9 + r)) 0 hi)

/-- Entries of a host matrix record (Table 5-4): nine coefficients, then three offsets. -/
def matEntry (b : List Byte) (i : Nat) : Int := signed 32 (fieldAt b (4 * i + 3) (4 * i))

/-- Entries of the identity matrix. -/
def unitEntry (i : Nat) : Int := if i < 9 ∧ i % 4 = 0 then 65536 else 0

/-- The primaries of a colour code (Table 5-5). -/
def primariesOf (code : Nat) : Nat := match code with | 2 => 5 | 3 => 6 | 4 | 5 | 6 => 9 | _ => 1

/-- Entries of the presets (R143): the input matrix of a source is the identity for R'G'B'; the gamut matrix between equal primaries is
the identity; so is the post-blend matrix. -/
def inputEntry (pic : Pic) (i : Nat) : Int :=
  if pic.samp = 4 then unitEntry i else (Config.presetMatrix 0 [pic.colour, pic.samp, pic.depth] i).toInt
def gamutEntry (layer canvas i : Nat) : Int :=
  if primariesOf layer = primariesOf canvas then unitEntry i else (Config.presetMatrix 1 [layer, canvas] i).toInt
def outEntry (colour range i : Nat) : Int := (Config.presetMatrix 3 [colour, range] i).toInt

/-- Entry of a LUT block (R138). -/
def lutEntry (b : List Byte) (ch i : Nat) : Nat := fieldAt b (2 * (4096 * ch + i) + 1) (2 * (4096 * ch + i))

/-- A 16-bit linear value in 18 bits (R136). -/
def lin18 (l : Nat) : Nat := (l * 4) ||| (l / 16384)

/-- The post-blend LUT of R140 on an 18-bit value. -/
def postLut (e : Nat → Nat) (v : Nat) : Nat :=
  let s := if v < 2048 then 0 else log2Go 18 v - 10
  let base := if v < 2048 then 0 else 2 ^ (s + 10)
  let shift := if v < 2048 then 2 else s + 1
  let idx := 512 * s + (v - base) / 2 ^ shift
  let frac := (v - base) % 2 ^ shift
  let lo : Int := e (min idx 4095)
  let hi : Int := e (min (idx + 1) 4095)
  (lo + ((hi - lo) * frac + 2 ^ (shift - 1)) / 2 ^ shift).toNat

/-- Alpha of a layer sample (R139): `a10` where the source's alpha is used. -/
def layerAlpha (a10 : Option Nat) (alpha : Nat) : Nat :=
  let src := match a10 with | some a => (a * 4096 + 511) / 1023 | none => 4096
  (src * alpha + 512) / 1024

/-- One component blended (R139). -/
def blend (cl cb : Int) (a : Nat) : Int := min ((cl * a + cb * (4096 - (a : Int)) + 2048) / 4096) (2 ^ 18 - 1)

/-- A solid colour (Table 5-7): R, G, B in 18 bits. -/
def solid (v : Nat) : List Int :=
  [(lin18 (bitsOf v 47 32) : Nat), (lin18 (bitsOf v 31 16) : Nat), (lin18 (bitsOf v 15 0) : Nat)]

/-- Steps 1 to 5 of Table 5-3 at position (x, y) of the layer's output: linear RGB, and the 10-bit source alpha. -/
def Draw.sample (d : Draw) (q : CanvasColour) (x y : Nat) : List Int × Option Nat :=
  match d.fill, d.pic with
  | some f, _ => (solid f, none)
  | none, none => (solid 0, none)
  | none, some pic =>
    let get := fun p => let v := planeView pic d.crop p
      if d.bypass then bypassAt v x y else scaleAt v d.bankH d.bankV d.w d.h x y
    let raw := (List.range 3).map get
    let rgb := matApply (if d.user.testBit 0 then matEntry d.inMat else inputEntry pic) 4095 raw
    let lin := (List.range 3).map (fun ch =>
      let i := (rgb.getD ch 0).toNat
      ((lin18 (if d.user.testBit 1 then lutEntry d.preLut ch i
        else (Config.presetLut 0 [d.colour, q.peak, q.white] ch i).toNat) : Nat) : Int))
    (matApply (if d.user.testBit 2 then matEntry d.gamut else gamutEntry d.colour q.colour) (2 ^ 18 - 1) lin,
     if d.srcAlpha && decide (3 < pic.planes.length) then some ((get 3).toNat / 4) else none)

/-- The samples of a plane that feed an output sample (R132): the taps of both passes, or of a bypassed sample itself and the neighbours
that its chroma is interpolated from. -/
def PlaneView.feeds (v : PlaneView) (bypass : Bool) (dw dh x y : Nat) : List (Nat × Nat) :=
  let px := if bypass then ((v.crop.x + x : Nat) / v.subX : Int) else (scalePos v.crop.x v.crop.w dw v.subX x (if v.subX = 2 then 2 ^ 18 else 0)).1
  let py := if bypass then (((v.crop.y + y : Nat) : Int) - (if v.subY = 2 then 1 else 0)) / v.subY else (scalePos v.crop.y v.crop.h dh v.subY y 0).1
  let xs := if !bypass then (List.range 8).map (fun (i : Nat) => px - 3 + i)
    else if v.subX = 2 ∧ (v.crop.x + x) % 2 = 1 then (List.range 4).map (fun (i : Nat) => px - 1 + i) else [px]
  let ys := if !bypass then (List.range 6).map (fun (i : Nat) => py - 2 + i)
    else if v.subY = 2 then (List.range 4).map (fun (i : Nat) => py - 1 + i) else [py]
  xs.flatMap (fun i => ys.map (fun j =>
    ((clampInt (clampInt i v.cx ((v.cx : Int) + v.cw - 1)) 0 ((v.w : Int) - 1)).toNat,
     (clampInt (clampInt j v.cy ((v.cy : Int) + v.ch - 1)) 0 ((v.h : Int) - 1)).toNat)))

/-- Whether an output sample is fed by a sample of a poisoned line (R147). -/
def Draw.badAt (d : Draw) (x y : Nat) : Bool :=
  match d.pic with
  | none => false
  | some pic => (List.range pic.planes.length).any (fun p =>
      ((planeView pic d.crop p).feeds d.bypass d.w d.h x y).any (fun q => d.poisoned.any (fun a => Config.lineHolds a p q.1 q.2)))

/-- Whether a draw covers a canvas position. -/
def Draw.covers (d : Draw) (x y : Nat) : Bool :=
  decide (d.x ≤ x) && decide ((x : Int) < d.x + d.w) && decide (d.y ≤ y) && decide ((y : Int) < d.y + d.h)

/-- Step 7: layers blended upward over the background at a canvas position. -/
def blendAt (ds : List Draw) (q : CanvasColour) (x y : Nat) : List Int :=
  ds.foldl (fun under d =>
    if d.covers x y then
      let t := d.sample q ((x : Int) - d.x).toNat ((y : Int) - d.y).toNat
      let a := layerAlpha t.2 d.alpha
      (List.range 3).map (fun i => blend (t.1.getD i 0) (under.getD i 0) a)
    else under) (solid q.bg)

/-- Steps 8 to 10: 12-bit Y'CbCr of a canvas position. -/
def canvasAt (ds : List Draw) (q : CanvasColour) (x y : Nat) : List Int :=
  let rgb := matApply (if q.user.testBit 0 then matEntry q.postMat else unitEntry) (2 ^ 18 - 1) (blendAt ds q x y)
  let lut := (List.range 3).map (fun ch => ((postLut (fun i => if q.user.testBit 1 then lutEntry q.postTab ch i
    else (Config.presetLut 1 [q.colour, q.peak, q.white] ch i).toNat) (rgb.getD ch 0).toNat : Nat) : Int))
  matApply (if q.user.testBit 2 then matEntry q.outMat else outEntry q.colour q.range) 4095 lut

/-- Rounding and range clamp of step 11 (R141). -/
def outClamp (range : Nat) (chroma : Bool) (v : Int) : Nat :=
  let r := (v + 2) / 4
  (if range = 1 then clampInt r 0 1023 else if chroma then clampInt r 64 960 else clampInt r 64 940).toNat

/-- The horizontal chroma filter [1 2 1] / 4 (R141), taps inside the window. -/
def chromaH (row : List (List Int)) (comp i : Nat) : Int :=
  let v := fun j => (row.getD (min j (row.length - 1)) []).getD comp 0
  (v (i - 1) + 2 * v i + v (i + 1) + 2) / 4

/-- One line of the window in 12-bit 4:4:4. -/
def line444 (ds : List Draw) (q : CanvasColour) (win : Rect) (y : Nat) : List (List Int) :=
  (List.range win.w).map (fun i => canvasAt ds q (win.x + i) y)

/-- Columns of a line of the window whose composed samples are fed by poisoned ones, with the neighbours that the chroma filter of R141
reaches. -/
def poisonSpans (ds : List Draw) (win : Rect) (y : Nat) : List (Int × Nat) :=
  (ds.filter (fun d => decide (d.poisoned ≠ []))).flatMap (fun d =>
    ((List.range win.w).filter (fun i => d.covers (win.x + i) y && d.badAt (((win.x + i : Nat) : Int) - d.x).toNat ((y : Int) - d.y).toNat)).map
      (fun i => (((win.x + i : Nat) : Int) - 1, 3)))

/-- A composed line (R141): `f420` downsamples chroma on line pairs, which even lines carry; half a step rounds up in both averages
(assumption 48). -/
def composeLine (ds : List Draw) (q : CanvasColour) (win : Rect) (f420 : Bool) (y : Nat) : CLine :=
  let row := line444 ds q win y
  let next := if f420 && decide (y % 2 = 0) then line444 ds q win (y + 1) else []
  let ch := fun comp => (List.range (ceilDiv win.w 2)).map (fun i =>
    let a := chromaH row comp (2 * i)
    outClamp q.range true (if f420 then (a + chromaH next comp (2 * i) + 1) / 2 else a))
  { y := row.map (fun v => outClamp q.range false (v.getD 0 0)),
    cb := if f420 && decide (y % 2 = 1) then [] else ch 1,
    cr := if f420 && decide (y % 2 = 1) then [] else ch 2,
    poisoned := poisonSpans ds win y ++ (if f420 && decide (y % 2 = 0) then poisonSpans ds win (y + 1) else []) }

/-- Whether poisoned columns of a line fall in a range of columns. -/
def CLine.poisonIn (l : CLine) (x w : Nat) : Bool :=
  l.poisoned.any (fun p => decide (p.1 < ((x + w : Nat) : Int)) && decide ((x : Int) < p.1 + p.2))

/-- CRC-32C of a region's samples (R144): Y' of a line, then pairs Cb, Cr where the line carries chroma. `lines` answers
a composed line, which starts at window column `x0`. -/
def regionBytes (r : RegionDef) (x0 : Nat) (lines : Nat → CLine) : List Byte :=
  (List.range r.h).flatMap (fun i =>
    let l := lines (r.y + i)
    let o := r.x - x0
    ((l.y.drop o).take r.w).flatMap (leBytes 2) ++
    (List.zip ((l.cb.drop (o / 2)).take (r.w / 2)) ((l.cr.drop (o / 2)).take (r.w / 2))).flatMap
      (fun p => leBytes 2 p.1 ++ leBytes 2 p.2))

end Sys2Proof.Machine
end

