-- ==== Sys2Proof/Machine/Faults.lean ====
section
/-!
DEFINITION. The fault collector: status, present bits, counts, routing, capture, Ash log, classes, recovery and
escalation (R315 to R329, R438).
-/
namespace Sys2Proof.Machine

/-- An occurrence at a source: its domain code (Table 13-4), initiator, ACCESS, address and whether it is injected. -/
structure Ev where
  source : Nat
  dom : Nat := 0xF000
  init : Nat := 0
  access : Nat := 8
  addr : Option Nat := none
  inj : Bool := false

/-! Initiator identities (Table 1-3). -/

/-- Block form: stove and domain number. -/
def blockInit (stove n : Nat) : Nat := stove * 0x800 + 0x400 + n

/-- Encode form of a withy: stove, hearth in stove, skein in hearth, position, from 9 × module skein + position. -/
def withyInit (wid : Nat) : Nat :=
  let sk := wid / 9
  (sk / 16) * 0x800 + (sk / 4 % 4) * 0x100 + (sk % 4) * 0x40 + (wid % 9) * 4

/-- Encode form of a part of a hearth: 0xD Grate, 0xE rate agent, 0xF shared memory. -/
def hearthInit (h part : Nat) : Nat := (h / 4) * 0x800 + (h % 4) * 0x100 + part * 4

/-- Encode form 0xC: the reference cache of a module skein. -/
def cacheInit (sk : Nat) : Nat := (sk / 16) * 0x800 + (sk / 4 % 4) * 0x100 + (sk % 4) * 0x40 + 0xC * 4

/-- Module-level parts are reported as stove A's Damper (R19). -/
def moduleInit : Nat := blockInit 0 59

/-! Table 13-4 domain codes. -/
def domSkein (i : Nat) : Nat := 0x1000 + i
def domHearth (i : Nat) : Nat := 0x2000 + i
def domChannel (i : Nat) : Nat := 0x3000 + i
def domFlow (i : Nat) : Nat := 0x4000 + i
def domEth (i : Nat) : Nat := 0x5000 + i
def domFlue (i : Nat) : Nat := 0x6000 + i
def domInput (i : Nat) : Nat := 0x7000 + i
def domDram (i : Nat) : Nat := 0x8000 + i
def domAudio (i : Nat) : Nat := 0x9000 + i
def domPair (i : Nat) : Nat := 0xA000 + i
def domTwin : Nat := 0xB000
def domRelay (i : Nat) : Nat := 0xC000 + i
def domModule : Nat := 0xF000

/-! Status, present, counts, routing (R316 to R318). -/

/-- PRESENT of a group (R315). -/
def State.presentBits (s : State) (g : Nat) : Nat :=
  (List.range 32).foldl (fun a b => if s.flt.present.any (fun p => p.source = src g b) then a + 2 ^ b else a) 0

/-- An I3C interrupt is asked for when a STATUS bit whose IBI_EN bit is 1 goes from 0 to 1 (R318): one outstanding for
each group, its byte carrying the highest class among the newly set bits. -/
def State.askIbi (s : State) (g b : Nat) : State :=
  if (s.lv (0x9000 + g) 4).testBit b && !(s.flt.ibiOut.get false g) then
    let c := match s.flt.ibiWait.get 0 g with
      | 0 => evClass (src g b)
      | w => max (w % 256 / 32) (evClass (src g b))
    { s with flt := { s.flt with ibiWait := s.flt.ibiWait.put 0 g (256 + c * 32 + g) } }
  else s

/-- STATUS bit set, interrupt asked for, COUNTS advanced (R316). -/
def State.mark (s : State) (source : Nat) : State :=
  let g := source / 32
  let b := source % 32
  let st := s.lv (0x9000 + g) 1
  let s := if st.testBit b then s else (s.setN (0x9000 + g) 1 (st + 2 ^ b)).askIbi g b
  { s with flt := { s.flt with counts := s.flt.counts.put 0 source (satAdd 16 (s.flt.counts.get 0 source) 1) } }

/-- PRESENT of a source of a domain: a condition until withdrawn, any other source for 1 ms (R315). -/
def State.bePresent (s : State) (source dom cls : Nat) : State :=
  let others := s.flt.present.filter (fun p => !(p.source = source && p.dom = dom))
  let till := if evCond source then none else some (s.now + tuMs 1)
  { s with flt := { s.flt with present := others ++ [⟨source, dom, cls, till⟩] } }

/-- The capture record of a group: the first occurrence writes it, later ones count in OVERFLOW (R319). -/
def State.capture (s : State) (g : Nat) (c : Capture) : State :=
  match s.flt.captures.find? (fun e => e.1 = g) with
  | none => { s with flt := { s.flt with captures := s.flt.captures ++ [(g, c)] } }
  | some _ =>
    { s with flt := { s.flt with captures := s.flt.captures.map (fun e =>
        if e.1 = g then (e.1, { e.2 with overflow := satAdd 8 e.2.overflow 1 }) else e) } }

/-! The Ash log (R329, R438). -/

/-- A record appended; a full ring loses its oldest. Answers whether a record that ASH_READ had not returned is lost. -/
def State.ashPush (s : State) (c : Capture) (kind : Nat) : State × Bool :=
  let r : AshRec := { cap := c, seq := s.flt.nextSeq, kind := kind, state := s.sys.mode.code, at_ := s.now }
  let lost := decide (s.flt.ash.length = 256) && !((s.flt.ash.head?.map AshRec.wasRead).getD true)
  let ring := (if s.flt.ash.length = 256 then s.flt.ash.drop 1 else s.flt.ash) ++ [r]
  ({ s with flt := { s.flt with ash := ring, nextSeq := (s.flt.nextSeq + 1) % 2 ^ 32 } }, lost)

/-- Whether a record is the newest fault record of a source and initiator, at most 1 ms old: REPEAT counts there. -/
def State.repeatIndex (s : State) (source init : Nat) : Option Nat :=
  match ((List.range s.flt.ash.length).reverse.find? (fun i =>
      match s.flt.ash[i]? with
      | some r => (r.kind = 1 || r.kind = 2) && r.cap.source = source && r.cap.init = init
      | none => false)) with
  | some i =>
    match s.flt.ash[i]? with
    | some r => if s.now ≤ r.at_ + tuMs 1 then some i else none
    | none => none
  | none => none

/-- The Ash record of an occurrence (R329): merged into a matching record less than 1 ms old, else appended. -/
def State.ashFault (s : State) (c : Capture) (kind : Nat) : State × Bool :=
  match s.repeatIndex c.source c.init with
  | some i =>
    ({ s with flt := { s.flt with ash := s.flt.ash.modify i (fun r => { r with reps := satAdd 16 r.reps 1 }) } }, false)
  | none => s.ashPush c kind

/-- Class 0 occurrences of the collector's own sources: recorded, nothing more; the loss of an Ash record by their own
record is not followed further. -/
def State.note (s : State) (source : Nat) : State :=
  let c : Capture := { ts := s.stamp, init := blockInit 0 58, source := source, access := 8, cls := 0 }
  let s := ((s.mark source).bePresent source domModule 0).capture (source / 32) c
  if s.lv 0x9100 1 = 0 then
    let r := s.ashFault c 1
    if r.2 then
      let s := (r.1.inc 0x9400 4).mark (src 0 7)
      s.bePresent (src 0 7) domModule 0
    else r.1
  else s

/-- What the loss of an unread Ash record does (R329). -/
def State.ashDone (r : State × Bool) : State := if r.2 then (r.1.inc 0x9400 4).note (src 0 7) else r.1

/-- An Ash record of a recovery: KIND 0x03 begun, 0x04 recovered, 0x05 released, 0x06 awaiting release (R438). -/
def State.ashRecovery (s : State) (r : Recovery) (kind : Nat) : State :=
  State.ashDone (s.ashPush { r.cap with ts := s.stamp, addr := r.dom, addrValid := false, cls := r.cls, overflow := 0 } kind)

/-- Everything that records an occurrence under its effective class (R316, R319, R329). -/
def State.record (s : State) (e : Ev) (cls : Nat) (esc : Bool) : State :=
  let c : Capture := { ts := s.stamp, addr := e.addr.getD 0, addrValid := e.addr.isSome, init := e.init,
                       source := e.source, access := e.access, cls := cls, escalated := esc, injected := e.inj }
  let s := ((s.mark e.source).bePresent e.source e.dom cls).capture (e.source / 32) c
  if decide (s.lv 0x9100 1 ≤ cls) || esc then State.ashDone (s.ashFault c (if esc then 2 else 1)) else s

/-! Recoveries (R323, R324, R328). -/

/-- Whether a present source holds a recovery back: one of its domain, of its class or above; every source of class 4
or above belongs to the recovery of the module (R323, R324). -/
def Recovery.heldBy (r : Recovery) (p : Presence) : Bool :=
  if r.dom = domModule then decide (4 ≤ p.cls) else decide (p.dom = r.dom) && decide (r.cls ≤ p.cls)

def State.holdsBack (s : State) (r : Recovery) : Bool := s.flt.present.any r.heldBy

/-- QUIET_PERIOD of a class, in instants (R324). -/
def State.quietOf (s : State) (cls : Nat) : Nat := tuSec (s.lv (0x9100 + cls) 2)

/-- The quiet period of a recovery: none while a source is present, restarted when the last one ends, counted in 1 ms
steps (R324). -/
def State.requietOne (s : State) (r : Recovery) : Recovery :=
  if r.host || r.switchOver then r
  else if s.holdsBack r then { r with quietEnd := none }
  else match r.quietEnd with
    | some _ => r
    | none => { r with quietEnd := some (ceilDiv (s.now + s.quietOf r.cls) (tuMs 1) * tuMs 1) }

def State.requiet (s : State) : State :=
  { s with flt := { s.flt with slots := s.flt.slots.map (fun e => (e.1, e.2.map s.requietOne)),
                               module := s.flt.module.map s.requietOne } }

/-- The running recovery of a domain. -/
def State.recoveryOf (s : State) (dom : Nat) : Option Recovery :=
  match s.flt.slots.find? (fun e => (e.2.map Recovery.dom) = some dom) with
  | some e => e.2
  | none => if dom = domModule then s.flt.module else none

def State.freeSlot (s : State) : Option Nat := firstBelow 4 (fun i => (s.flt.slots.get none i).isNone)

/-- Recoveries of a class that a domain has completed within RECOVERY_WINDOW (R327). -/
def State.doneCount (s : State) (dom cls : Nat) : Nat :=
  (s.flt.done.filter (fun d => d.1 = dom && d.2.1 = cls && decide (s.now < d.2.2 + tuSec (s.lv (0x9100 + cls) 4)))).length

def State.limitHit (s : State) (dom cls : Nat) : Bool :=
  let l := s.lv (0x9100 + cls) 3
  decide (l ≠ 0) && decide (l ≤ s.doneCount dom cls)

/-- Group 0 source 4: present while a recovery awaits host release (R324). -/
def State.awaitCond (s : State) : State :=
  let any := s.flt.slots.any (fun e => (e.2.map Recovery.awaiting).getD false) ||
    (s.flt.module.map Recovery.awaiting).getD false
  let was := s.flt.present.any (fun p => p.source = src 0 4)
  if any && !was then s.note (src 0 4)
  else if !any && was then
    { s with flt := { s.flt with present := s.flt.present.filter (fun p => p.source ≠ src 0 4) } }
  else s

/-- A recovery begins (R323, R324): with RECOVERY_MODE 0x01 it awaits host release from its start. -/
def State.beginRecovery (s : State) (dom cls : Nat) (c : Capture) (slot : Option Nat) (switch : Bool) : State :=
  let host := decide (s.lv (0x9100 + cls) 1 = 1) && !switch
  let r : Recovery := { dom := dom, cls := cls, cap := c, host := host, awaiting := host, switchOver := switch }
  let s := match slot with
    | some i => { s with flt := { s.flt with slots := s.flt.slots.put none i (some r) } }
    | none => { s with flt := { s.flt with module := some r } }
  let s := s.ashRecovery r 3
  let s := if host then s.ashRecovery r 6 else s
  s.requiet.awaitCond

/-! States (R412). -/

def State.setMode (s : State) (m : Mode) : State :=
  let s := { s with sys := { s.sys with modeLast := s.sys.mode, mode := m, modeReq := m } }
  ((s.setN 0x1001 3 s.sys.modeLast.code).inc 0x1001 4).note (src 0 0)

/-- Group 0 source 6, DAMPED in force. -/
def State.dampedCond (s : State) : State :=
  if s.sys.mode = .damped then s.note (src 0 6)
  else { s with flt := { s.flt with present := s.flt.present.filter (fun p => p.source ≠ src 0 6) } }

/-! Injection (R331). -/

/-- The armed slot of a target. -/
def State.injSlot (s : State) (kind : Nat) (unit : Nat → Bool) : Option Nat :=
  firstBelow 4 (fun i => decide (s.lv (0xF010 + i) 4 = 1) && decide (s.lv (0xF010 + i) 1 / 2 ^ 24 = kind) && unit (s.lv (0xF010 + i) 1 % 2 ^ 24))

/-- INJ_ACTIVE and group 19 source 7 follow the armed slots. -/
def State.showInj (s : State) : State :=
  let v := sumList ((List.range 4).map (fun i => if s.lv (0xF010 + i) 4 = 1 then 2 ^ i else 0))
  let was := s.flt.present.any (fun p => p.source = src 19 7)
  let s := s.setN 0xF000 2 v
  if v ≠ 0 && !was then s.note (src 19 7)
  else if v = 0 && was then
    { s with flt := { s.flt with present := s.flt.present.filter (fun p => p.source ≠ src 19 7) } }
  else s

/-- An inversion made: counted, and a slot of mode once disarmed. -/
def State.fireInj (s : State) (i : Nat) : State :=
  let s := s.inc (0xF010 + i) 5
  if s.lv (0xF010 + i) 3 = 0 then (s.setN (0xF010 + i) 4 0).showInj else s

/-- An error at a checker of a target that a slot is armed for is the slot's (assumption 40); `pattern` says whether the
slot's pattern makes such an error. -/
def State.takeInj (s : State) (kind : Nat) (unit : Nat → Bool) (pattern : Nat → Bool) : State × Bool :=
  match s.injSlot kind unit with
  | some i => if pattern (s.lv (0xF010 + i) 2) then (s.fireInj i, true) else (s, false)
  | none => (s, false)

/-- Inversion of what a port sends next. -/
def State.invertSent (s : State) (kind port : Nat) (unit : Nat → Bool) : State :=
  match s.injSlot kind unit with
  | some i => (s.fireInj i).emit (.inverted kind port)
  | none => s

/-- A frame handed to a Flue port, counted in CLASS_TX_BYTES of its class, to go out in cells (R237). -/
def State.flueOut (s : State) (p : Nat) (f : FlueFrame) : State :=
  let b := s.lvb (0x8110 + p) 0x11
  let s := s.setB (0x8110 + p) 0x11 ((List.range 5).flatMap (fun q =>
    leBytes 8 (fieldAt b (8 * q + 7) (8 * q) + (if q = f.cls then flueBytes f else 0))))
  let s := { s with flue := { s.flue with links := s.flue.links.upd {} p (fun x => x.enqueue s.now f) } }
  let s := s.invertSent 7 p (fun u => decide (u % 4 = p))
  (s.invertSent 6 p (fun u => decide (u % 4 = p))).emit (.flue p f)

/-- A frame toward an identity by the path table (R251); nothing is sent where it shows no path. -/
def State.flueTo (s : State) (f : FlueFrame) : State :=
  let p := s.flue.paths.get {} f.dest
  if p.hops ≠ 0 ∧ p.port < 3 ∧ p.hops ≠ 0xFFFF ∧ p.dup = false then s.flueOut p.port f else s

def State.myId (s : State) : Nat := s.lv 0x8100 7

/-- Whether this module is the active twin of a committed twin definition (R279, R283). -/
def State.activeTwin (s : State) : Bool := decide (s.cm 0x8210 1 ≠ 0) && decide (s.lv 0x8210 7 = 0) && s.running

/-- Instants as whole nanoseconds, the unit of times in frames. -/
def instNs (i : Nat) : Nat := i / 36

/-- The give-up frame of the active twin (R283): TYPE 0x21 to the twin, carrying the kind, the channels handed over,
the cause and the send instant; the handoff of each of these channels is agreed by it. -/
def State.giveUp (s : State) (chans cause : Nat) : State :=
  let cs := chans &&& s.cm 0x8210 4
  if s.activeTwin && decide (cs ≠ 0) then
    let s := s.flueTo { dest := s.cm 0x8210 2, src := s.myId, cls := 2, typ := 0x21,
                        pay := [1, cs, cause, ctrNs s.ctrNow] }
    if s.lv 0x8210 8 ≠ 1 then s else
    eachBelow 16 (fun c s => if cs.testBit c && (s.pair.hand.get none c).isNone then
      { s with pair := { s.pair with hand := s.pair.hand.put none c (some ⟨s.now, cause⟩) } } else s) s
  else s

/-- Entering DAMPED (R321): the outputs change from the first readiness deadline at least 4 µs after detection. The
fault lies in the packet builder, shaper, time or Ethernet domains when its source is in groups 3, 5, 6 or 12. -/
def State.enterDamped (s : State) (source : Nat) : State :=
  let gasp := decide (source = src 1 4)
  let inPath := [3, 5, 6, 12].contains (source / 32)
  let s := s.giveUp 0xFFFF 6
  let s := { s with sys := { s.sys with dampedFrom := s.sys.mode, dampedAt := s.now, dampedGasp := gasp,
                                        stopInDamped := false,
                                        dampedMute := !gasp && (inPath || decide (s.cm 0x9100 2 = 1)) } }
  (s.setMode .damped).dampedCond

/-- Entering COLD (R322): every port stops, DRAM enters self-refresh, and nothing but removing power ends it. A commit
being validated is abandoned (R417). -/
def State.enterCold (s : State) : State :=
  if s.sys.mode = .cold then s else
  let s := s.giveUp 0xFFFF 6
  let s := if s.sys.validating.isSome then (s.setN 0x1F00 2 3).setN 0x1F01 2 0 else s
  let s := { s with sys := { s.sys with validating := none, startFrom := none, stopping := false, banking := false },
                    flt := { s.flt with slots := [], module := none },
                    mem := { s.mem with chans := (List.range 8).foldl (fun m c => m.upd {} c (fun x => { x with selfRef := true })) s.mem.chans } }
  (s.setMode .cold).dampedCond.awaitCond

/-- Escalation (R327): group 0 source 3, ESCALATIONS. -/
def State.escalate (s : State) : State := (s.inc 0x9100 5).note (src 0 3)

def State.capOf (s : State) (e : Ev) (cls : Nat) (esc : Bool) : Capture :=
  { ts := s.stamp, addr := e.addr.getD 0, addrValid := e.addr.isSome, init := e.init, source := e.source,
    access := e.access, cls := cls, escalated := esc, injected := e.inj }

/-- The effective class of an occurrence (R327, R328): once escalated when it falls in a domain whose recovery runs,
would pass RECOVERY_LIMIT, or finds no free slot; only in LAID or LIT, or at class 4 in DAMPED. -/
def State.effClass (s : State) (e : Ev) : Nat :=
  let c := evClass e.source
  let open_ := decide (s.sys.mode = .laid ∨ s.sys.mode = .lit)
  if c ≤ 2 ∨ 5 ≤ c then c
  else if c = 3 then
    if open_ && ((s.recoveryOf e.dom).isSome || s.limitHit e.dom 3 || s.freeSlot.isNone) then 4 else 3
  else if s.sys.mode = .damped ∨ (open_ && ((s.recoveryOf e.dom).isSome || s.limitHit domModule 4)) then 5
  else 4

/-- The reaction of Table 13-3 to a recorded occurrence of effective class `cls`. -/
def State.react (s : State) (e : Ev) (cls : Nat) (esc : Bool) : State :=
  let open_ := decide (s.sys.mode = .laid ∨ s.sys.mode = .lit)
  if cls = 3 ∧ open_ then s.beginRecovery e.dom 3 (s.capOf e cls esc) s.freeSlot false
  else if cls = 4 ∧ open_ then
    let s := s.enterDamped e.source
    s.beginRecovery domModule 4 (s.capOf e cls esc) none false
  else if cls = 5 then s.enterCold
  else s.requiet

/-- A source occurs (R316 to R329). After a class 5 fault every other fault is only recorded, as COLD follows at once
(R328); unused bits are never set (R315). -/
def State.raise (s : State) (e : Ev) : State :=
  if !evUsed e.source then s else
  let cls := if s.sys.mode = .cold then evClass e.source else s.effClass e
  let esc := decide (cls ≠ evClass e.source)
  let slotsFull := evClass e.source = 3 ∧ esc ∧ s.freeSlot.isNone ∧ (s.recoveryOf e.dom).isNone
  let s := s.record e cls esc
  let s := if esc then s.escalate else s
  let s := if slotsFull then s.note (src 0 5) else s
  if s.sys.mode = .cold then s else s.react e cls esc

/-- A condition source becomes present or ends; its becoming present is its occurrence (R315). -/
def State.cond (s : State) (e : Ev) (present : Bool) : State :=
  let was := s.flt.present.any (fun p => p.source = e.source && p.dom = e.dom)
  if present && !was then s.raise e
  else if !present && was then
    ({ s with flt := { s.flt with present := s.flt.present.filter (fun p =>
        !(p.source = e.source && p.dom = e.dom)) } }).requiet
  else s

/-- A recovery ends (R324): slot freed, RECOVERIES advanced, an Ash record of kind 0x04 or 0x05. -/
def State.endRecovery (s : State) (r : Recovery) (kind : Nat) : State :=
  let keep := fun (e : Nat × Option Recovery) => decide ((e.2.map Recovery.dom) ≠ some r.dom)
  let s := { s with flt := { s.flt with slots := s.flt.slots.filter keep,
                                        module := if r.dom = domModule then none else s.flt.module,
                                        done := s.flt.done ++ [(r.dom, r.cls, s.now)] } }
  ((s.inc (0x9100 + r.cls) 5).ashRecovery r kind).awaitCond

end Sys2Proof.Machine
end

