-- ==== Sys2Proof/Machine/Params.lean ====
section
/-!
DEFINITION. What the bitstreams of a configuration are: profiles, tiers and levels (R34, R56), parameter sets (R53 to R55, R57, R58),
coding tools and draughts (R54, R84), picture types (R52, R95, R96) and the NAL units that carry them.
-/
namespace Sys2Proof.Machine

/-- Whether the flows of a channel are HEVC. -/
def isHevc (m : Tbl Val) (c : Nat) : Bool := decide (chan m c 7 = 1)

/-- The highest QP of a codec (R69). -/
def topQp (hevc : Bool) : Int := if hevc then 51 else 63

/-! Tools and draughts. -/

/-- The tools of Table 2-4 that are on for a codec. -/
def toolsOf (hevc : Bool) : List Tool :=
  if hevc then [.iSlice, .pSlice, .amp, .intra35, .strongSmoothing, .merge, .amvp, .tmvp, .dct2, .dst4, .transformSkip, .signHiding, .cuQpDelta,
    .deblocking, .sao]
  else [.iSlice, .pSlice, .multiType, .intra67, .mrl, .mip, .cclm, .merge, .amvp, .tmvp, .sbTmvp, .amvr, .mmvd, .affine4, .dct2, .implicitMts,
    .lfnst, .transformSkip, .dependentQuant, .cuQpDelta, .deblocking, .sao, .lumaAlf]

/-- The number by which a tool stands among the arguments of a free value. -/
def Tool.code (t : Tool) : Nat :=
  ([.iSlice, .pSlice, .biPred, .reordering, .multiType, .dualTree, .amp, .intra67, .intra35, .mrl, .mip, .cclm, .isp, .strongSmoothing, .merge,
    .amvp, .tmvp, .sbTmvp, .amvr, .mmvd, .affine4, .affine6, .gpm, .ciip, .bdof, .dmvr, .prof, .dct2, .dst4, .implicitMts, .lfnst,
    .transformSkip, .sbt, .dependentQuant, .signHiding, .cuQpDelta, .deblocking, .sao, .lumaAlf, .chromaAlf, .ccAlf, .lmcs, .palette, .ibc,
    .act, .bdpcm, .scalingLists, .wavefront] : List Tool).idxOf t

/-- The work of a draught (Table 3-3): motion search range, tools it keeps, depth of binary and of ternary splits (VVC), smallest CU
(HEVC), intra modes restricted to planar, DC, H and V, RD candidates, luma ALF (2 per CTU, 1 per slice, 0 off) and dynamic power in
percent of FULL. -/
structure Effort where
  searchH : Nat
  searchV : Nat
  tools : List Tool
  binaryDepth : Nat
  ternaryDepth : Nat
  minCu : Nat
  fewIntra : Bool
  candidates : Nat
  alf : Nat
  power : Nat
deriving DecidableEq, Repr

/-- A row of Table 3-3. -/
def effortOf (hevc : Bool) (draught : Nat) : Effort :=
  let all := toolsOf hevc
  match draught with
  | 0 => ⟨128, 64, all, 2, 2, 8, false, 3, 2, 100⟩
  | 1 => ⟨64, 32, all.filter (· ≠ .amp), 2, 1, 8, false, 2, 2, 84⟩
  | 2 => ⟨32, 16, all.filter (fun t => t ≠ .amp ∧ t ≠ .affine4 ∧ t ≠ .mmvd ∧ t ≠ .sbTmvp), 1, 1, 16, false, 1, 1, 66⟩
  | _ => ⟨16, 8, all.filter (fun t => t ≠ .amp ∧ t ≠ .multiType ∧ t ≠ .lumaAlf), 0, 0, 32, true, 1, 0, 48⟩

/-- The work of a draught as arguments of a free value. -/
def Effort.args (e : Effort) : List Nat :=
  [e.searchH, e.searchV, e.binaryDepth, e.ternaryDepth, e.minCu, if e.fewIntra then 1 else 0, e.candidates, e.alf] ++ e.tools.map Tool.code

/-! Segments and tiles of a flow (R45). -/

/-- Column widths of the tile grid in CTUs: segments of w columns, the narrower last. -/
def tileCols (m : Tbl Val) (n w : Nat) : List Nat :=
  (List.range (segCount m n w)).map (fun g => (segCols m n w g).length)

/-- Distances between rising boundaries, the last reaching to `top`. -/
def gaps : List Nat → Nat → List Nat
  | [], _ => []
  | [a], top => [top - a]
  | a :: b :: rest, top => (b - a) :: gaps (b :: rest) top

/-- Boundaries in CTUs of the merged canvas's tile grid (R58): the column boundaries of all groups' segments, the row boundaries of
all groups. -/
def mergedEdges (m : Tbl Val) (c w : Nat) (cols : Bool) : List Nat :=
  let s := max 1 (ctu m c)
  ((groupsOf m c).flatMap (fun n =>
    if cols then (List.range (segCount m n (min (max 1 w) (gCw m n)))).map (fun g => flow m n 5 / s + g * min (max 1 w) (gCw m n))
    else [flow m n 6 / s])).eraseDups.mergeSort

/-! Level and tier (R56). -/

/-- What R56 checks of a bitstream: picture size, sample rate times 1001, bit rate, CPB size, tile columns and rows, slices. -/
structure LevelNeeds where
  size : Nat
  rate1001 : Nat
  bitRate : Nat
  cpb : Nat
  cols : Nat
  rows : Nat
  slices : Nat

/-- The levels up to 6.2 by general_level_idc; a High tier begins at level 4. -/
def levelsOf (hevc high : Bool) : List Nat :=
  let all := if hevc then [30, 60, 63, 90, 93, 120, 123, 150, 153, 156, 180, 183, 186] else [16, 32, 35, 48, 51, 64, 67, 80, 83, 86, 96, 99, 102]
  if high then all.filter (fun l => decide ((if hevc then 120 else 64) ≤ l)) else all

/-- Whether a bitstream meets the limits of a level in a tier. -/
def LevelNeeds.meets (x : LevelNeeds) (hevc high : Bool) (level : Nat) : Bool :=
  let lim := Config.levelLimit hevc level high
  decide (x.size ≤ lim 0) && decide (x.rate1001 ≤ 1001 * lim 1) && decide (x.bitRate ≤ lim 2) && decide (x.cpb ≤ lim 3) &&
    decide (x.cols ≤ lim 4) && decide (x.rows ≤ lim 5) && decide (x.slices ≤ lim 6)

/-- The level and tier signalled: the lowest level met in the Main tier, else in the High tier, else level 15.5 or 8.5 (255). -/
def LevelNeeds.choose (x : LevelNeeds) (hevc : Bool) : Nat × Bool :=
  match (levelsOf hevc false).find? (x.meets hevc false) with
  | some l => (l, false)
  | none =>
    match (levelsOf hevc true).find? (x.meets hevc true) with
    | some l => (l, true)
    | none => (255, true)

/-! Parameter sets (R55, R57, R58). -/

/-- Rate of a flow as sent: its own, or of a merged flow the sum of its groups' (R58). -/
def sentRate (m : Tbl Val) (n : Nat) : Nat :=
  if flow m n 3 = 0 then flow m n 4 else sumList ((groupsOf m (flow m n 2)).map (fun i => flow m i 4))

/-- What R56 checks of a flow whose segments are `w` columns wide. -/
def levelNeeds (m : Tbl Val) (n w : Nat) : LevelNeeds :=
  let c := flow m n 2
  let p := periodOf (chan m c 5)
  let cpb := ceilDiv (sentRate m n * 1000 * p.1) p.2
  if flow m n 3 = 0 then
    ⟨flow m n 7 * flow m n 8, flow m n 7 * flow m n 8 * rate1001 (chan m c 5), flow m n 4 * 1000, cpb, segCount m n w, 1,
      segCount m n w * gNf m n⟩
  else
    ⟨chan m c 3 * chan m c 4, chan m c 3 * chan m c 4 * rate1001 (chan m c 5), sentRate m n * 1000, cpb, (mergedEdges m c w true).length,
      (mergedEdges m c w false).length, sumList ((groupsOf m c).map (fun i => segCount m i (min (max 1 w) (gCw m i)) * gNf m i))⟩

/-- A flow's parameter sets (R55), a merged flow's with one subpicture for each group (R58). -/
def paramsOf (m : Tbl Val) (n w : Nat) : ParamSets :=
  let c := flow m n 2
  let hevc := isHevc m c
  let p := periodOf (chan m c 5)
  let merged := decide (flow m n 3 ≠ 0)
  let lv := (levelNeeds m n w).choose hevc
  let sub := decide (chan m c 0xE = 1) && !hevc
  let y := if chan m c 6 = 0 then 2 else 1
  { hevc := hevc, profile := profileOf m c, highTier := lv.2, level := lv.1, chroma := if chan m c 6 = 0 then 1 else 2, depthMinus8 := 2,
    ctuField := if hevc then (if ctu m c = 64 then 3 else 2) else (if ctu m c = 128 then 2 else 1),
    width := if merged then chan m c 3 else flow m n 7, height := if merged then chan m c 4 else flow m n 8,
    window := if merged then [0, 0, 0, 0] else [flow m n 9 / 2, flow m n 0xA / 2, flow m n 0xB / y, flow m n 0xC / y],
    dpbMinus1 := 1, gdr := !hevc,
    subpics := if !sub then [] else if merged then
        (List.range (groupsOf m c).length).flatMap (fun i => ((groupsOf m c).filter (fun g => decide (subpicIndex m g = i))).map (fun g =>
          (flow m g 5, flow m g 6, flow m g 7, flow m g 8, i)))
      else [(0, 0, flow m n 7, flow m n 8, subpicIndex m n)],
    treatedAsPic := sub, loopAcrossSubpic := false, subpicIdBits := if sub then 10 else 0,
    tileCols := if merged then gaps (mergedEdges m c w true) (ceilDiv (chan m c 3) (max 1 (ctu m c))) else tileCols m n w,
    tileRows := if merged then gaps (mergedEdges m c w false) (ceilDiv (chan m c 4) (max 1 (ctu m c))) else [gNf m n],
    rectSlices := !hevc, loopAcrossTiles := true, entropySync := false,
    cbr := true, bitRate := sentRate m n * 1000, cpbSize := sentRate m n * 1000 * p.1 / p.2,
    colour := cfg m (0x3000 + c) 2, fullRange := decide (cfg m (0x3000 + c) 3 = 1), unitsInTick := p.1, timeScale := p.2, ids := 0,
    tools := toolsOf hevc }

def bit (b : Bool) : Nat := if b then 1 else 0

/-- The fields as arguments of a free value. -/
def ParamSets.args (p : ParamSets) : List Nat :=
  [bit p.hevc, p.profile, bit p.highTier, p.level, p.chroma, p.depthMinus8, p.ctuField, p.width, p.height] ++ p.window ++
  [p.dpbMinus1, bit p.gdr, bit p.treatedAsPic, bit p.loopAcrossSubpic, p.subpicIdBits, bit p.rectSlices, bit p.loopAcrossTiles, bit p.entropySync,
   bit p.cbr, p.bitRate, p.cpbSize, p.colour, bit p.fullRange, p.unitsInTick, p.timeScale, p.ids] ++
  p.subpics.flatMap (fun q => [q.1, q.2.1, q.2.2.1, q.2.2.2.1, q.2.2.2.2]) ++ p.tileCols ++ p.tileRows ++ p.tools.map Tool.code

/-- PROFILE_LEVEL (R56): general_profile_idc in [15:8], general_level_idc in [7:0]. -/
def ParamSets.profileLevel (p : ParamSets) : Nat := 256 * p.profile + p.level

/-! NAL units. The numbers of NAL unit types are those of ITU-T H.266 and H.265 (assumption 96). -/

/-- Types of pictures (R52, R95, R96): IDR_N_LP, GDR, and trailing. -/
inductive PicType where
  | idr | gdr | trail
deriving DecidableEq, Repr

def PicType.code : PicType → Nat
  | .trail => 0 | .idr => 1 | .gdr => 2

/-- nal_unit_type of a picture's slices. -/
def PicType.nal (hevc : Bool) : PicType → Nat
  | .idr => if hevc then 20 else 8
  | .gdr => 10
  | .trail => if hevc then 1 else 0

/-- nal_unit_type of the other NAL units. -/
def NalKind.nal (hevc : Bool) : NalKind → Nat
  | .vps => if hevc then 32 else 14
  | .sps => if hevc then 33 else 15
  | .pps => if hevc then 34 else 16
  | .pictureHeader => 19
  | .bufferingPeriod | .pictureTiming | .recoveryPoint => if hevc then 39 else 23
  | .pictureHash => if hevc then 40 else 24
  | .filler => if hevc then 38 else 25
  | .endOfSeq => if hevc then 36 else 21
  | .slice | .standIn | .fill => if hevc then 1 else 0

def NalKind.code : NalKind → Nat
  | .slice => 0 | .standIn => 1 | .fill => 2 | .pictureHeader => 3 | .bufferingPeriod => 4 | .pictureTiming => 5 | .recoveryPoint => 6
  | .pictureHash => 7 | .filler => 8 | .endOfSeq => 9 | .vps => 10 | .sps => 11 | .pps => 12

/-- The two bytes of a NAL unit header: layer 0, temporal identifier 0. -/
def nalHeader (hevc : Bool) (type : Nat) : List Byte :=
  if hevc then [BitVec.ofNat 8 (2 * type), 1] else [0, BitVec.ofNat 8 (8 * type + 1)]

/-- The parameter sets of a flow as NAL units without start codes, VPS (HEVC only), SPS, PPS (R53). -/
def ParamSets.nals (p : ParamSets) : List Nal :=
  (if p.hevc then [NalKind.vps, .sps, .pps] else [.sps, .pps]).map (fun k =>
    let b := nalHeader p.hevc (k.nal p.hevc) ++ Config.paramBytes k.code p.args
    { kind := k, type := k.nal p.hevc, size := b.length, data := b })

/-- A NAL unit that is written from the values fixed in it: its size, at most `most` bytes, and its bytes are free values of them. -/
def templateNal (hevc : Bool) (kind : NalKind) (type seg most : Nat) (fields : List Int) : Nal :=
  let args := kind.code :: type :: bit hevc :: seg :: fields.map (unsigned 64)
  { kind := kind, type := type, size := min most (3 + Config.nalSize args), seg := seg, fields := fields, token := Config.nalToken args }

end Sys2Proof.Machine
end

