-- ==== Sys2Proof/Machine/Rate.lean ====
section
/-!
DEFINITION. Rate agents, draught and refreshes: what the flows of a channel hold and how budgets, targets, QPs and the
draught in force follow (R63 to R72, R84 to R86, R91, R96), with the instants of Table 2-2.
-/
namespace Sys2Proof.Machine

/-! Access to the pipeline's tables. -/

def State.chanOf (s : State) (c : Nat) : Chan := s.pipe.chans.get {} c
def State.flowSt (s : State) (n : Nat) : FlowSt := s.pipe.flows.get {} n
def State.hearthSt (s : State) (h : Nat) : Hearth := s.pipe.hearths.get {} h
def State.withySt (s : State) (w : Nat) : Withy := s.pipe.withies.get {} w

def State.updPipe (s : State) (f : Pipe → Pipe) : State := { s with pipe := f s.pipe }
def State.updChan (s : State) (c : Nat) (f : Chan → Chan) : State :=
  s.updPipe (fun p => { p with chans := p.chans.upd {} c f })
def State.updFlow (s : State) (n : Nat) (f : FlowSt → FlowSt) : State :=
  s.updPipe (fun p => { p with flows := p.flows.upd {} n f })
def State.updHearth (s : State) (h : Nat) (f : Hearth → Hearth) : State :=
  s.updPipe (fun p => { p with hearths := p.hearths.upd {} h f })
def State.updWithy (s : State) (w : Nat) (f : Withy → Withy) : State :=
  s.updPipe (fun p => { p with withies := p.withies.upd {} w f })

/-- The stripe in flight of a channel, frame and number. -/
def State.stripe (s : State) (c f k : Nat) : Option Stripe :=
  s.pipe.stripes.find? (fun x => decide (x.c = c) && decide (x.f = f) && decide (x.k = k))

def State.updStripe (s : State) (c f k : Nat) (g : Stripe → Stripe) : State :=
  s.updPipe (fun p => { p with stripes := p.stripes.map (fun x =>
    if x.c = c ∧ x.f = f ∧ x.k = k then g x else x) })

/-! Instants of a stripe (Table 2-2), in `Clock.mono`. -/

def usCtr (n : Nat) : Nat := nsCtr (1000 * n)

/-- Start of stripe k of the frame of a channel that runs (R36): computed from the frame's start and rounded to the 2.5 ns tick of the
time counter. -/
def State.stripeAt (s : State) (c k : Nat) : Nat :=
  let x := s.chanOf c
  (roundDivInt ((x.frameAt + k * x.period / max 1 (nStripes s.comm c) : Nat) + s.clk.off) tickUnit * tickUnit - s.clk.off).toNat

/-- n stripe periods after the start of a stripe. -/
def State.stripeAfter (s : State) (x : Stripe) (n : Nat) : Nat := x.at_ + n * x.per / max 1 (nStripes s.comm x.c)

/-- Lc of a channel at its last commit. -/
def State.lcOf (s : State) (c : Nat) : Nat := s.lv (0x4000 + c) 0x12

def State.tfOf (s : State) (x : Stripe) : Nat := s.stripeAfter x (1 + s.lcOf x.c) + usCtr 4
def State.deadlineOf (s : State) (x : Stripe) : Nat := s.stripeAfter x (chan s.comm x.c 9 - 1) + usCtr 24
def State.sendOpenOf (s : State) (x : Stripe) : Nat := s.stripeAfter x (chan s.comm x.c 9 - 1) + usCtr 40
def State.lastByteOf (s : State) (x : Stripe) : Nat := s.stripeAfter x (chan s.comm x.c 9) + usCtr 40

/-! Where a flow runs (R50, R263 to R268). -/

/-- PAIR_MODE as pair `i` runs it: a PAIRED-SHADOW pair runs as PAIRED-LEAN under sag level 1 (R277). -/
def State.pairMode (s : State) (i : Nat) : Nat :=
  let m := s.cm 0x8200 1
  if m = 2 ∧ (s.pair.pairs.get {} i).lean then 1 else m

/-- The hearth that is active for a placed position (R265). -/
def State.runsOn (s : State) (p : Nat) : Nat :=
  if s.cm 0x8200 1 = 0 then p else p % 4 + (if (s.lv 0x8200 3).testBit (p % 4) then 4 else 0)

def otherSide (h : Nat) : Nat := if h < 4 then h + 4 else h - 4

def State.pairState (s : State) (i : Nat) : Nat := s.lv (0x8201 + i) 1

/-- Whether a hearth may run jobs: not fenced, not dark, not under self-test, its domains not gated (R10, R24). -/
def State.hearthRuns (s : State) (h : Nat) : Bool :=
  let x := s.hearthSt h
  !x.fenced && !x.dark && !x.testing && !x.gated

/-- The active hearth of a flow, where it is placed. -/
def State.activeHearth (s : State) (n : Nat) : Option Nat :=
  (s.pipe.placed.find? (fun p => p.1 = n)).map (fun p => s.runsOn p.2)

/-- The standby hearth that encodes a flow's stripes too (R267): in PAIRED-SHADOW, while the pair is protected,
resynchronising or arbitrating. -/
def State.shadowHearth (s : State) (n : Nat) : Option Nat :=
  match s.activeHearth n with
  | none => none
  | some h => if s.pairMode (h % 4) = 2 ∧ [1, 2, 4].contains (s.pairState (h % 4)) then some (otherSide h) else none

/-- The hearths that code a flow, active first. -/
def State.codersOf (s : State) (n : Nat) : List Nat :=
  ((s.activeHearth n).toList ++ (s.shadowHearth n).toList).filter s.hearthRuns

/-- Hearths that carry enabled flows of a channel. -/
def State.hearthsOf (s : State) (c : Nat) : List Nat :=
  (List.range 8).filter (fun h => (groupsOf s.comm c).any (fun n => (s.codersOf n).contains h))

/-- Stoves with hearths of a channel. -/
def State.stovesOf (s : State) (c : Nat) : List Nat :=
  (List.range 2).filter (fun st => (groupsOf s.comm c).any (fun n =>
    match s.activeHearth n with | some h => decide (h / 4 = st) | none => false))

/-- SEG_WIDTH of a flow in force. -/
def State.segW (s : State) (n : Nat) : Nat := s.lv (0x5000 + n) 0x11
def State.segsOf (s : State) (n : Nat) : Nat := segCount s.comm n (s.segW n)

/-- Flow stripes of a channel that belong to canvas stripe k, as flow and j. -/
def State.partsOf (s : State) (c k : Nat) : List (Nat × Nat) :=
  (groupsOf s.comm c).flatMap (fun n => (stripesIn s.comm n k).map (fun j => (n, j)))

/-! Channel states. -/

def State.chRunning (s : State) (c : Nat) : Bool := decide (s.lv (0x4000 + c) 0x15 = 2)
def State.frameNo (s : State) (c : Nat) : Nat := s.lv (0x4000 + c) 0x16

/-- Running channels, ascending. -/
def State.runningChans (s : State) : List Nat := (List.range 16).filter s.chRunning

/-- DAMPED's change has come: from the first readiness deadline at least 4 µs after detection (R321). -/
def State.dampedActs (s : State) : Bool := decide (s.sys.mode = .damped) && decide (s.sys.dampedAt + tuUs 4 ≤ s.now)

/-- Why a channel sends whole-picture stand-ins now: shed by sag, or DAMPED (R94, R321, R338, R339). -/
def State.wholeReason (s : State) (c : Nat) : Option Nat :=
  if (s.chanOf c).shed then some 6
  else if s.dampedActs then some (if s.sys.dampedGasp then 6 else 8)
  else none

/-- Whether a channel's pictures are coded from this frame on: not shed or waiting for its first frame start after
being restored, not DAMPED (R321, R338). -/
def State.codes (s : State) (c : Nat) : Bool :=
  let x := s.chanOf c
  !x.shed && x.unshedAt.isNone && decide (s.sys.mode ≠ .damped)

/-! Pictures of a flow (R52, R66, R82, R95, R96). -/

/-- Whether a flow sends in frame f. -/
def FlowSt.sends (x : FlowSt) (f : Nat) : Bool :=
  (match x.armedAt with | some a => decide (a ≤ f) | none => false) &&
  (match x.lastFrame with | some l => decide (f ≤ l) | none => true)

/-- The coded sequence that a council hold has ended and that picture f belongs to (R82). -/
def FlowSt.ended (x : FlowSt) (f : Nat) : Option (Nat × Nat) := x.past.find? (fun p => decide (p.1 ≤ f) && decide (f ≤ p.2))

/-- Whether a flow sends fill stripes in frame f (R82, R96). -/
def FlowSt.fills (x : FlowSt) (f : Nat) : Bool :=
  x.sends f && (x.ended f).isNone && (match x.firstAt with | some a => decide (f < a) | none => true)

/-- First picture of the coded sequence of picture f; of the fill pictures that fill picture f follows. -/
def FlowSt.firstOf (x : FlowSt) (f : Nat) : Nat := match x.ended f with | some p => p.1 | none => x.firstAt.getD f
def FlowSt.fillStart (x : FlowSt) (f : Nat) : Nat :=
  maxList (x.armedAt.getD f :: (x.past.filter (fun p => decide (p.2 < f))).map (fun p => p.2 + 1))

def FlowSt.pic (x : FlowSt) (f : Nat) : PicSt := x.pics.get {} f
def FlowSt.updPic (x : FlowSt) (f : Nat) (g : PicSt → PicSt) : FlowSt := { x with pics := x.pics.upd {} f g }

/-- What picture f is (R52, R95, R96): fill pictures are IDR_N_LP, in VVC the first and then trailing ones; the first coded picture
is IDR_N_LP in HEVC and GDR in VVC, where every refresh starts with a GDR picture. -/
def FlowSt.picType (x : FlowSt) (hevc : Bool) (f : Nat) : PicType :=
  if x.fills f then (if hevc || decide (f = x.fillStart f) then .idr else .trail)
  else if f = x.firstOf f then (if hevc then .idr else .gdr)
  else if !hevc && decide ((x.pic f).refresh ≠ 0) then .gdr else .trail

/-- Picture order count (R52): from 0 at the first picture of its sequence, one for each canvas frame. -/
def FlowSt.poc (x : FlowSt) (hevc : Bool) (f : Nat) : Nat :=
  if x.fills f then (if hevc then 0 else f - x.fillStart f) else f - x.firstOf f

/-- The picture of frame f entered into U (R66), once; a muted picture enters neither. -/
def FlowSt.count (x : FlowSt) (bp f : Nat) : FlowSt :=
  if (x.pic f).counted || (x.pic f).muted then x
  else { x.updPic f (fun p => { p with counted := true }) with u := x.u + bp }

/-- A picture muted before anything of it was sent leaves U again (R66, R179). -/
def FlowSt.mutePic (x : FlowSt) (bp f : Nat) : FlowSt :=
  let u := if (x.pic f).counted then x.u - bp else x.u
  { x.updPic f (fun p => { p with counted := false, muted := true }) with u := u }

/-- Bytes sent for flow stripe j of picture f, which is decided with them. -/
def FlowSt.pay (x : FlowSt) (f j bytes : Nat) : FlowSt :=
  { x.updPic f (fun p => { p with bits := p.bits + 8 * bytes, sent := max p.sent (j + 1) }) with s := x.s + 8 * bytes }

/-- What Tf fixed for flow stripe j of picture f. -/
def FlowSt.rateOf (x : FlowSt) (f j : Nat) : Option RateIn := x.rates.find? (fun r => decide (r.f = f) && decide (r.j = j))

/-- Bits in 2^-16 bit that stand for the flow stripes before stripe j of picture f that have not been decided (assumption 97): of each
its target, or with `most` its hard limit; B, or C, where none has been fixed. -/
def FlowSt.inFlight (m : Tbl Val) (x : FlowSt) (n f j : Nat) (most : Bool) : Int :=
  let plain : Int := if most then budgetC m n else budgetB m n
  ((x.pics.filter (fun e => decide (e.1 ≤ f) && e.2.counted)).flatMap (fun e =>
    ((List.range (gNf m n)).filter (fun i => decide (e.2.sent ≤ i) && (decide (e.1 < f) || decide (i < j)))).map (fun i =>
      match x.rateOf e.1 i with
      | some r => if most then r.hard else r.target
      | none => plain))).foldl (· + ·) 0

/-- Bits still open in picture f at flow stripe j, in 2^-16 bit (R66, R67): U(f) less the bits sent for the pictures up to it. -/
def FlowSt.remaining (m : Tbl Val) (x : FlowSt) (n f j : Nat) (most : Bool) : Int :=
  let bp := budgetP m n
  let later := (x.pics.filter (fun e => decide (f < e.1) && e.2.counted)).length
  let own := if (x.pic f).counted || (x.pic f).muted then 0 else bp
  (x.u + own : Nat) - (bp * later : Nat) - (x.s * 65536 : Nat) - x.inFlight m n f j most

/-- Complexity of flow stripe i of frame f: that of the previous picture while it is not known, equal values on the
first picture (R67), which the model sets to 1 (assumption 98). -/
def FlowSt.complexity (x : FlowSt) (f i : Nat) : Nat :=
  match x.comp.find? (fun e => e.1 = 128 * f + i) with
  | some e => e.2
  | none =>
    match x.comp.find? (fun e => e.1 = 128 * (f - 1) + i) with
    | some e => e.2
    | none => 1

/-- Complexities of the row segments of flow stripe i of frame f, in the same way (R69). -/
def FlowSt.segments (x : FlowSt) (f i segs : Nat) : List Nat :=
  match x.segComp.find? (fun e => e.1 = 128 * f + i) with
  | some e => e.2
  | none =>
    match x.segComp.find? (fun e => e.1 = 128 * (f - 1) + i) with
    | some e => e.2
    | none => List.replicate segs 1

/-- Target of R67 and hard limit of R69 of flow stripe j, in 2^-16 bit. Stripes in flight count at their targets in the one and at
their limits in the other, so that a picture never ends above the bound of R66 (assumption 97). -/
def targetOf (m : Tbl Val) (x : FlowSt) (n f j : Nat) : Int × Int :=
  let rem := x.remaining m n f j false
  let cap : Int := budgetC m n
  let nf := gNf m n
  if j + 1 = nf then (min cap rem, min cap (x.remaining m n f j true + (budgetP m n / 8 : Nat)))
  else
    let total := sumList ((List.range (nf - j)).map (fun i => x.complexity f (j + i)))
    let share : Int := if total = 0 then rem / ((nf - j : Nat) : Int) else rem * (x.complexity f j : Nat) / (total : Nat)
    (clampInt share (budgetB m n / 4 : Nat) cap, cap)

/-- What the bits-versus-QP model rests on: the last 8 stripes (R71). -/
def FlowSt.modelArgs (x : FlowSt) : List Nat := x.model.flatMap (fun e => [e.1, e.2.1, unsigned 16 e.2.2])

/-- q_own of flow stripe j (R71): at Tf with the target fixed there, in a council summary with the target as it stands (assumption 97). -/
def State.ownQp (s : State) (n f j : Nat) : Int :=
  let x := s.flowSt n
  (Config.qOwn ([x.complexity f j, unsigned 64 (targetOf s.comm x n f j).1] ++ x.modelArgs)).toInt

/-- QP of a stripe in 1/16 steps (R71), with the council offset in force or none. -/
def State.stripeQp (s : State) (c n f j : Nat) (offset : Option Int) : Int :=
  let x := s.flowSt n
  let own := s.ownQp n f j
  let lim : Int := (s.lv (0x4100 + c) 5 : Nat) * 16
  let q0 := match offset with
    | some q => own + clampInt (roundDivInt ((s.lv (0x4100 + c) 4 : Nat) * (q - own)) 16) (-lim) lim
    | none => own
  let top : Int := topQp (isHevc s.comm c) * 16
  let size := fun (q : Int) => Config.predictBits ([x.complexity f j, unsigned 16 q] ++ x.modelArgs)
  let up := match (List.range (top + 192).toNat).find? (fun (i : Nat) => decide (size (q0 + i) ≤ budgetC s.comm n)) with
    | some i => q0 + i
    | none => top
  clampInt up (-192) top

/-! The NAL units around a picture's slices (R54, R69, R92, R96, R97). -/

/-- The most that one of them takes: a sixteenth of C, so that slices have room (assumption 96). -/
def nalMost (m : Tbl Val) (n : Nat) : Nat := budgetC m n / (16 * 8 * 65536)

/-- SEI messages of a picture, and in VVC its header, from the flow's template (R69, R92): buffering period with an initial removal
delay of 7/8 of the frame period in 90 kHz units and offset 0, in IDR and GDR pictures and where a periodic refresh starts; picture
timing; in HEVC a recovery point where a refresh starts (R52). The header gives the picture's type, its order count, the
recovery_poc_cnt of a GDR picture and the picture-level tools that its slices may enable. -/
def headNals (m : Tbl Val) (x : FlowSt) (n f : Nat) : List Nal :=
  let hevc := isHevc m (flow m n 2)
  let ty := x.picType hevc f
  let poc : Int := x.poc hevc f
  let p := periodOf (chan m (flow m n 2) 5)
  let pics : Int := (x.pic f).refreshPics - 1
  let nal := fun (k : NalKind) (fields : List Int) => templateNal hevc k (k.nal hevc) 0 (nalMost m n) fields
  let tools := [Tool.tmvp, .dependentQuant, .signHiding, .cuQpDelta, .deblocking, .sao, .lumaAlf].filter (toolsOf hevc).contains
  (if ty ≠ .trail ∨ (x.pic f).refresh = 1 then [nal .bufferingPeriod [(90000 * 7 * p.1 / (8 * p.2) : Nat), 0]] else []) ++
  [nal .pictureTiming [poc]] ++
  (if hevc = true ∧ ty = .trail ∧ (x.pic f).refresh ≠ 0 then [nal .recoveryPoint [pics]] else []) ++
  (if hevc then [] else [nal .pictureHeader ([(ty.code : Int), poc, if ty = .gdr then pics else 0] ++ tools.map (fun t => (t.code : Int)))])

/-- The decoded picture hash message of a picture (R97): HASH_TYPE, in HEVC as hash_type. -/
def hashNal (m : Tbl Val) (n : Nat) (what : List Nat) : Nal :=
  let hevc := isHevc m (flow m n 2)
  let t := cfg m (0x4200 + flow m n 2) 5
  { templateNal hevc .pictureHash (NalKind.pictureHash.nal hevc) 0 (nalMost m n) [if hevc then (t : Int) - 1 else t] with
    token := Config.nalToken (NalKind.pictureHash.code :: t :: what) }

/-- Whether a picture lies in a refresh. -/
def Span.holds (p : Span) (f : Nat) : Bool := decide (p.first ≤ f) && decide (f ≤ p.last)

/-- Whether a picture carries no hash for the refresh it lies in: one that follows a partial stand-in (R97), and up to its recovery point
one that follows a gap (R272). -/
def FlowSt.noHashIn (x : FlowSt) (f : Nat) : Bool := x.spans.any (fun p => p.holds f && (p.partialStand || (p.blind && decide (f < p.last))))

/-- A picture's place in the refresh it lies in, the refresh's length, and whether its unrefreshed regions are skip CUs (R52, R272). -/
def FlowSt.refreshArgs (x : FlowSt) (f : Nat) : List Nat :=
  match x.spans.find? (fun p => p.holds f) with
  | some p => [f - p.first + 1, p.last + 1 - p.first, if p.blind then 1 else 0]
  | none => [0]

def nalBytes (ns : List Nal) : Nat := sumList (ns.map Nal.size)

/-- Bits of flow stripe j that are not its slices': head and hash messages. -/
def framing (m : Tbl Val) (x : FlowSt) (n f j : Nat) : Nat :=
  8 * ((if j = 0 then nalBytes (headNals m x n f) else 0) +
    (if j + 1 = gNf m n ∧ hashEn m n = true ∧ x.noHashIn f = false then (hashNal m n []).size else 0))

/-- What the rate agent fixes for flow stripe j at Tf (R67, R69, R71, R86): the hard limit less what is not slices, in whole bytes,
is divided between the row segments by their complexity. -/
def State.fixRate (s : State) (c n f j draught : Nat) (offset : Option Int) : State :=
  let m := s.comm
  let x := s.flowSt n
  let t := targetOf m x n f j
  let room := t.2.toNat / 65536 - framing m x n f j
  let cs := x.segments f j (segCount m n (s.lv (0x5000 + n) 0x11))
  let total := sumList cs
  let shares := cs.map (fun v => (if total = 0 then room / max 1 cs.length else room * v / total) / 8 * 8)
  let r : RateIn := { f := f, j := j, q := s.stripeQp c n f j offset, draught := draught, target := t.1, hard := t.2, shares := shares, offset := offset }
  s.updFlow n (fun y => { y with rates := r :: y.rates.filter (fun z => !(decide (z.f = f) && decide (z.j = j))) })

/-! Refreshes (R52, R91). -/

/-- FLOW_STATE of a flow. -/
def State.setFlowState (s : State) (n v : Nat) : State := s.setN (0x5000 + n) 0x15 v

/-- A gradual refresh of REFRESH_PICS pictures from frame f: `kind` 1 periodic, 2 any other. -/
def State.startRefresh (s : State) (n f kind : Nat) (partialStand blind : Bool) : State :=
  let pics := chan s.comm (flow s.comm n 2) 0xD
  (s.updFlow n (fun x => { x.updPic f (fun p => { p with refresh := kind, refreshPics := pics }) with
    refreshFrom := some f, refreshEnd := f + pics - 1, spans := { first := f, last := f + pics - 1, partialStand := partialStand, blind := blind } :: x.spans })).setFlowState n 2

/-- A refresh asked for since an instant: it begins with the first picture whose stripe-0 jobs become eligible later. -/
def State.askRefreshAt (s : State) (n m : Nat) (r91 : Bool) : State :=
  s.updFlow n (fun x => { x with refreshAsk := some (min m (x.refreshAsk.getD m)), askR91 := x.askR91 || r91 })
def State.askRefresh (s : State) (n : Nat) (r91 : Bool) : State := s.askRefreshAt n s.mono r91

/-- A refresh that follows a switch-over with a gap: it begins with the first picture whose stripe-0 jobs become eligible at least
4 µs later (R272). -/
def State.askBlind (s : State) (n : Nat) : State :=
  (s.askRefreshAt n (s.mono + usCtr 4 - 1) false).updFlow n (fun x => { x with askBlind := true })

/-- At Tf of the canvas stripe with flow stripe 0: a refresh asked for earlier begins (R91). -/
def State.beginAsked (s : State) (n f : Nat) : State :=
  match (s.flowSt n).refreshAsk with
  | none => s
  | some m =>
    if s.mono ≤ m then s else
    let x := s.flowSt n
    (s.startRefresh n f 2 x.askR91 x.askBlind).updFlow n (fun y => { y with
      refreshAsk := none, askR91 := false, askBlind := false, refreshes := if x.askR91 then satAdd 32 y.refreshes 1 else y.refreshes })

/-- Whether picture f is the first after a completed refresh, with which comparisons resume (R268, R275). -/
def FlowSt.resumes (x : FlowSt) (f : Nat) : Bool :=
  x.refreshFrom.isNone && x.refreshAsk.isNone && decide (x.refreshEnd ≠ 0) && decide (x.refreshEnd + 1 = f)

/-- A flow at its channel's start of frame f (R52, R82, R96, R99): the record of its stand-ins, a council hold, the first picture, a
periodic refresh, the recovery point. -/
def State.flowFrame (s : State) (c f n : Nat) : State :=
  let s := s.updFlow n (fun x => { x with
    shown := (x.standins, x.refreshes, x.lastStand, x.lastReason), compareOff := x.compareOff && !(x.resumes f) })
  let x := s.flowSt n
  if !x.sends f then s
  else if (s.chanOf c).held then
    (s.updFlow n (fun x => { x with
      past := (match x.firstAt with | some a => if a < f then [(a, f - 1)] else [] | none => []) ++ x.past,
      firstAt := none, refreshFrom := none, refreshAsk := none })).setFlowState n 1
  else match x.firstAt with
    | none =>
      if x.armedAt = some f ∨ !s.codes c ∨ (s.chanOf c).inserted then s
      else
        let s := s.updFlow n (fun x => { x with firstAt := some f })
        if chan s.comm c 7 = 0 then s.startRefresh n f 2 false false else s.setFlowState n 3
    | some a =>
      let per := chan s.comm c 0xC
      if per ≠ 0 ∧ a < f ∧ (f - a) % per = 0 ∧ s.codes c then s.startRefresh n f 1 false false
      else match x.refreshFrom with
        | some _ =>
          if x.refreshEnd ≤ f then
            (s.updFlow n (fun x => { x with refreshFrom := none })).setFlowState n 3
          else s
        | none => s

/-! Draught (R85). -/

/-- Power-loop demand of a channel (R341). -/
def State.powerDemand (s : State) (c : Nat) : Nat := s.pwr.demand.get 0 c

def State.heat (s : State) (st : Nat) : Heat := if st = 0 then s.pwr.heatA else s.pwr.heatB

def State.isPresent (s : State) (source : Nat) : Bool := s.flt.present.any (fun p => p.source = source)

/-- The sources of R85 but the council, by their bit of DRAUGHT_CAUSE. -/
def State.ownDraughts (s : State) (c : Nat) : List (Nat × Nat) :=
  [(0, s.lv (0x4200 + c) 1), (1, s.powerDemand c),
   (2, maxList ((s.stovesOf c).map (fun st => (s.heat st).demand))),
   (3, if 2 ≤ (s.chanOf c).sagNow then 2 else 0),
   (4, if (s.stovesOf c).any (fun st => s.isPresent (src 2 (18 + st))) then 2 else 0)]

/-- The sources of R85 but DRAUGHT_CEIL. -/
def State.draughts (s : State) (c : Nat) : List (Nat × Nat) :=
  (s.ownDraughts c).drop 1 ++ [(5, if s.cm (0x4200 + c) 4 = 1 then (s.chanOf c).councilDraught.getD 0 else 0)]

/-- The draught in force from a stripe boundary on (R31, R85): DRAUGHT_CEIL as step 4 leaves it, the other sources as step 3 found them. -/
def State.applyDraught (s : State) (c : Nat) (rest : List (Nat × Nat)) : State :=
  let ds := (0, s.lv (0x4200 + c) 1) :: rest
  let code := maxList (ds.map Prod.snd)
  let cause := ds.foldl (fun a d => if code ≠ 0 ∧ d.2 = code then a + 2 ^ d.1 else a) 0
  let s := if code ≠ s.lv (0x4200 + c) 2 then s.inc (0x4200 + c) 6 else s
  (s.setN (0x4200 + c) 2 code).setN (0x4200 + c) 3 cause

end Sys2Proof.Machine
end

