-- ==== Sys2Proof/Machine/Chimney.lean ====
section
/-!
DEFINITION. The chimney's shared operations: links, adverts, the path table and what follows from it (R236 to R253),
reserved rates (R244 to R246), and the frames a module sends.
-/
namespace Sys2Proof.Machine

def State.link (s : State) (p : Nat) : Link := s.flue.links.get {} p
def State.updFlue (s : State) (f : Flue → Flue) : State := { s with flue := f s.flue }
def State.updLink (s : State) (p : Nat) (f : Link → Link) : State :=
  s.updFlue (fun x => { x with links := x.links.upd {} p f })

/-- DEVICE_ID, the serial number. -/
def State.serial (s : State) : Nat := s.lv 0x1000 3

def State.linkState (s : State) (p : Nat) : Nat := s.lv (0x8110 + p) 2
def State.linkUp (s : State) (p : Nat) : Bool := decide (s.linkState p = 3 ∨ s.linkState p = 4)
def State.portsUp (s : State) : List Nat := (List.range 3).filter s.linkUp

/-- Identity of the neighbour on a port that is in the path table. -/
def State.peerId (s : State) (p : Nat) : Option Nat :=
  if s.linkUp p && (s.link p).admitted then
    match (s.link p).peer with
    | some (_, i, _) => if i < 1024 then some i else none
    | none => none
  else none

/-- Neighbours of an identity: this module's by its links, others' by their adverts. -/
def State.neighbours (s : State) (id : Nat) : List Nat :=
  if id = s.myId then (List.range 3).filterMap s.peerId
  else match s.flue.adverts.get none id with
    | some a => a.neigh.filter (fun n => decide (n < 1024))
    | none => []

/-- One level of the breadth-first search: new modules at distance `d`. -/
def bfsLevel (nb : Nat → List Nat) (d : Nat) (front : List Nat) (m : Tbl Nat) : List Nat × Tbl Nat :=
  (front.flatMap nb).foldl (fun (a : List Nat × Tbl Nat) n =>
    if a.2.get 0xFFFF n = 0xFFFF then (a.1 ++ [n], a.2.put 0xFFFF n d) else a) ([], m)

def bfsGo (nb : Nat → List Nat) : Nat → Nat → List Nat → Tbl Nat → Tbl Nat
  | 0, _, _, m => m
  | fuel + 1, d, front, m =>
    match bfsLevel nb d front m with
    | ([], _) => m
    | (next, m') => bfsGo nb fuel (d + 1) next m'

/-- Hop counts from an identity to every module reachable from it; 0xFFFF where there is no way. -/
def State.hopsFrom (s : State) (id : Nat) : Tbl Nat := bfsGo s.neighbours 1024 1 [id] [(id, 0)]

/-- The path entry of an identity (R251): fewest hops, then the neighbour with the lowest identity, then the lowest
port. -/
def State.pathTo (s : State) (byPort : List (Nat × Nat × Tbl Nat)) (id : Nat) : PathEnt :=
  if id = s.myId then { hops := 0, port := 0xFF, dup := s.flue.dups.contains id }
  else byPort.foldl (fun (e : PathEnt) p =>
    let h := p.2.2.get 0xFFFF id + 1
    let better := decide (h < e.hops) ||
      (decide (h = e.hops) && match byPort.find? (fun q => q.1 = e.port) with
        | some q => decide (p.2.1 < q.2.1)
        | none => false)
    if decide (h < 0xFFFF) && better then { e with hops := h, port := p.1 } else e)
    { dup := s.flue.dups.contains id }

/-- The path table the adverts and links give (R251). -/
def State.newPaths (s : State) : Tbl PathEnt :=
  let byPort := (List.range 3).filterMap (fun p => (s.peerId p).map (fun n => (p, n, s.hopsFrom n)))
  let ids := (s.myId :: byPort.flatMap (fun p => p.2.2.map Prod.fst)).filter (fun i => decide (i < 1024))
  ids.foldl (fun m id => m.put {} id (s.pathTo byPort id)) []

def State.path (s : State) (id : Nat) : PathEnt := s.flue.paths.get {} id

/-- Whether an identity stands in the path table. -/
def State.inPaths (s : State) (id : Nat) : Bool := decide ((s.path id).hops ≠ 0xFFFF)

/-- Whether an identity is reachable by the path table. -/
def State.reaches (s : State) (id : Nat) : Bool := decide ((s.path id).hops ≠ 0xFFFF) && !(s.path id).dup

/-- CHIMNEY_STATE (Table 10-8). -/
def State.chimneyState (s : State) : State :=
  s.setN 0x8100 8 (
    if s.flue.excess then 5
    else if s.flue.dups.contains s.myId then 4
    else if s.portsUp.isEmpty then 0
    else if s.flue.enumSt.isSome then 2
    else if s.myId < 1024 then 3 else 1)

/-- A frame on one port. -/
def State.flueOn (s : State) (p : Nat) (f : FlueFrame) : State := if s.linkUp p then s.flueOut p f else s

/-- One hop on. -/
def hopOn (f : FlueFrame) : FlueFrame := { f with hops := f.hops + 1 }

/-- Whether this module forwards: not excess (R249), and not a frame that has come to 1,023 hops (Table 10-3). -/
def State.forwards (s : State) (f : FlueFrame) : Bool := !s.flue.excess && decide (f.hops < 1023)

/-- Whether a frame is this module's own to take: frames to a duplicate identity reach neither module (R250). -/
def State.isMine (s : State) (f : FlueFrame) : Bool := decide (f.dest = s.myId) && !s.flue.dups.contains s.myId

/-- A frame for another module goes on by the path table (R242, R251). -/
def State.passOn (s : State) (f : FlueFrame) : State :=
  if s.flue.dups.contains f.dest || !s.forwards f then s else s.flueTo (hopOn f)

/-- Credit given back for a class 4 frame taken off a port (R258): a link-control frame (assumption 122). -/
def State.giveCredit (s : State) (p : Nat) : State := s.flueOn p { dest := 0xFFFE, src := s.myId, cls := 0, typ := 1, pay := [1] }

/-- A frame flooded on every port but one whose link is up (R252). -/
def State.flood (s : State) (f : FlueFrame) (except_ : Nat) : State :=
  eachIn (s.portsUp.filter (· ≠ except_)) (fun p s => s.flueOn p f) s

/-- The topology advert (R251): identity as SRC; serial number, neighbours and capacities of the three ports. -/
def State.advert (s : State) : FlueFrame :=
  { dest := 0xFFFF, src := s.myId, cls := 0, typ := 3,
    pay := [s.serial] ++ (List.range 3).map (fun p => (s.peerId p).getD 0xFFFF) ++
      (List.range 3).map (fun p => s.lv (0x8110 + p) 0xE), len := 32 }

/-- A numbered module floods its advert (R251). -/
def State.sendAdvert (s : State) : State :=
  if s.myId < 1024 then
    (s.flood s.advert 3).updFlue (fun x => { x with advertAt := s.now })
  else s

/-! Reserved rates (R244 to R246). -/

def reservedOn (rs : List Reserve) (p : Nat) : Nat :=
  sumList ((rs.filter (fun r => decide (r.port = p) && r.held)).map Reserve.rate)

/-- The next module on the way from an identity along hop counts `d`: its nearest neighbour, the lowest identity (R251). -/
def State.towardRoot (s : State) (d : Tbl Nat) (id : Nat) : Option Nat :=
  (s.neighbours id).foldl (fun (b : Option Nat) n =>
    if d.get 0xFFFF n + 1 = d.get 0xFFFF id then
      match b with
      | none => some n
      | some x => if n < x then some n else b
    else b) none

/-- The links from an identity along hop counts `d`, as pairs of modules. -/
def State.linksTo (s : State) (d : Tbl Nat) : Nat → Nat → List (Nat × Nat)
  | 0, _ => []
  | fuel + 1, id =>
    match s.towardRoot d id with
    | some n => (id, n) :: State.linksTo s d fuel n
    | none => []

/-- Links beyond this module's own on the way to a destination (R245). -/
def State.farLinks (s : State) (dest : Nat) : List (Nat × Nat) := (s.linksTo (s.hopsFrom dest) 1024 s.myId).drop 1

/-- Payload capacity in Mbit/s that the adverts show of a link direction: that of the ports toward the neighbour. -/
def State.linkCap (s : State) (l : Nat × Nat) : Nat :=
  match s.flue.adverts.get none l.1 with
  | some a => maxList ((List.zip a.neigh a.cap).filterMap (fun (q : Nat × Nat) => if q.1 = l.2 then some q.2 else none))
  | none => 0

/-- Mbit/s that may be reserved on a link of a capacity (R244). -/
def State.reservableOf (s : State) (cap : Nat) : Nat := cap * (100 - s.cm 0x8100 0xB) / 100 - 2000

/-- What reservations of entries, each with its destinations, take of a link beyond this module's own ports. -/
def State.farLoad (s : State) (es : List (Nat × List Nat)) (l : Nat × Nat) : Nat :=
  sumList ((es.filter (fun e => e.2.any (fun d => (s.farLinks d).contains l))).map Prod.fst)

/-- Reservations granted entry after entry (R245, R246): an entry whose rate does not fit on every link of its tree holds none of them.
Of the links beyond this module's own ports the adverts give the capacity, and this module's own reservations are counted
(assumption 123). -/
def State.grant (s : State) (destOf : Reserve → List Nat) (held : List Reserve) (want : List Reserve) : List Reserve :=
  ((want.map (fun r => (r.origin, r.entry))).eraseDups).foldl (fun (rs : List Reserve) e =>
    let mine := want.filter (fun r => decide (r.origin = e.1) && decide (r.entry = e.2))
    let dests := (mine.headD ⟨0, 0, 0, 0, true⟩ |> destOf)
    let rate := (mine.map Reserve.rate).headD 0
    let before := (((rs.filter Reserve.held).map (fun r => (r.origin, r.entry))).eraseDups).map (fun (q : Nat × Nat) =>
      let r := (rs.find? (fun x => decide (x.origin = q.1) && decide (x.entry = q.2))).getD ⟨0, 0, 0, 0, true⟩
      (r.rate, destOf r))
    let near := mine.all (fun r => decide (r.port < 3) && decide (reservedOn rs r.port + r.rate ≤ s.reservableOf (s.lv (0x8110 + r.port) 0xE)))
    let far := (dests.flatMap s.farLinks).eraseDups.all (fun l => decide (s.farLoad before l + rate ≤ s.reservableOf (s.linkCap l)))
    rs ++ mine.map (fun r => { r with held := near && far })) held

/-- The order of R246: mirrors first, then relay entries by origin identity and entry. -/
def Reserve.before (a b : Reserve) : Bool :=
  if (a.entry = 8) ≠ (b.entry = 8) then decide (a.entry = 8)
  else decide (a.origin < b.origin ∨ (a.origin = b.origin ∧ a.entry ≤ b.entry))

/-- Reservations made again (R246). -/
def State.reserveAll (s : State) (destOf : Reserve → List Nat) (want : List Reserve) : List Reserve := s.grant destOf [] (want.mergeSort Reserve.before)

/-- Bits of a pixel in a relayed picture (R156): 8 × pgroup bytes over its pixels. -/
def bppOf (samp depth : Nat) : Nat :=
  let comps := if samp = 1 then 2 else if samp = 3 then 2 else 3
  if samp = 3 then 3 * depth / 2 else comps * depth

/-- RESERVED_OUT of every port (Table 10-10). -/
def State.showReserved (s : State) : State :=
  eachBelow 3 (fun p s => s.setN (0x8110 + p) 0xF (reservedOn s.flue.reserves p)) s

/-- Re-reservation after a path or capacity change (R246): entries that newly fail are suspended, counted and raised;
the condition of group 4 source 14 of an entry ends when it fits again. -/
def State.reReserve (s : State) (destOf : Reserve → List Nat) : State :=
  let mine := s.flue.reserves
  let want := (mine.map (fun r => (r.origin, r.entry, r.rate, destOf r))).eraseDups.flatMap (fun r =>
    ((r.2.2.2.map (fun d => (s.path d).port)).eraseDups).map (fun p => ({ origin := r.1, entry := r.2.1, port := p, rate := r.2.2.1 } : Reserve)))
  let now := s.reserveAll destOf want
  let s' := s.updFlue (fun x => { x with reserves := now })
  let s' := eachBelow 9 (fun e s =>
    let fits := (now.filter (fun r => r.entry = e)).all Reserve.held
    let was := (s.inp.relay.get {} e).suspended
    let used := mine.any (fun r => r.entry = e)
    if !used then s
    else if !fits && !was then
      let s := { s with inp := { s.inp with relay := s.inp.relay.upd {} e (fun x => { x with suspended := true }) } }
      let s := eachIn ((now.filter (fun r => decide (r.entry = e) && !r.held)).map Reserve.port).eraseDups
        (fun p s => if p < 3 then s.inc (0x8110 + p) 0x10 else s) s
      s.cond { source := src 4 14, dom := if e = 8 then domTwin else domRelay e, init := blockInit 0 46, access := 7 } true
    else if fits && was then
      let s := { s with inp := { s.inp with relay := s.inp.relay.upd {} e (fun x => { x with suspended := false }) } }
      s.cond { source := src 4 14, dom := if e = 8 then domTwin else domRelay e, init := blockInit 0 46, access := 7 } false
    else s) s'
  s'.showReserved

/-- Where a reservation goes: the twin for a mirror, RELAY_DEST for a relay-out entry (Table 6-5). -/
def State.reserveDests (s : State) (r : Reserve) : List Nat :=
  if r.entry = 8 then [s.cm 0x8210 2]
  else
    let b := s.cmb (0x2180 + r.entry) 4
    (List.range (b.length / 2)).map (fun i => fieldAt b (2 * i + 1) (2 * i))

/-- TWIN_HOPS, and the condition of R284 when an unreachable active twin is held to. -/
def State.twinReach (s : State) : State :=
  if s.cm 0x8210 1 = 0 then s else
  let id := s.cm 0x8210 2
  let s := s.setN 0x8210 9 (if s.reaches id then (s.path id).hops else 0xFFFF)
  s.cond { source := src 4 16, dom := domTwin, init := blockInit 0 46, access := 9 }
    (decide (s.lv 0x8210 7 = 1) && !s.reaches id && decide (s.lv 0x8210 5 = 0))

/-- A path change (R251): table, PATH_CHANGES, event, MODULE_COUNT, reservations, twin. -/
def State.repath (s : State) : State :=
  let p := s.newPaths
  let s := if p = s.flue.paths then s
    else
      let s := (s.updFlue (fun x => { x with paths := p })).inc 0x8100 0xC
      let s := s.raise { source := src 4 12, init := blockInit 0 46, access := 6 }
      (s.setN 0x8100 9 (max 1 (p.filter (fun e => decide (e.2.hops < 0xFFFF))).length)).reReserve s.reserveDests
  s.chimneyState.twinReach

/-! Duplicate identities (R250). -/

/-- Group 4 source 13 follows CHIMNEY_STATE 0x04. -/
def State.dupCond (s : State) : State :=
  s.cond { source := src 4 13, init := blockInit 0 46, access := 6 } (s.flue.dups.contains s.myId)

/-! Council membership (R73 to R75). -/

def State.councilSt (s : State) (c : Nat) : Council := s.council.get {} c
def State.updCouncil (s : State) (c : Nat) (f : Council → Council) : State :=
  { s with council := s.council.upd {} c f }

/-- A BLOCK of U16 entries. -/
def u16List (b : List Byte) : List Nat := (List.range (b.length / 2)).map (fun i => fieldAt b (2 * i + 1) (2 * i))

def membersOf (m : Tbl Val) (c : Nat) : List Nat := u16List (cfgB m (0x4100 + c) 2)

/-- Whether a channel of a configuration is solo (R73, Table 3-6). -/
def soloIn (m : Tbl Val) (me c : Nat) : Bool :=
  decide (cfg m (0x4100 + c) 1 = 0) || decide (membersOf m c = []) || decide (membersOf m c = [me])

def State.solo (s : State) (c : Nat) : Bool := soloIn s.comm s.myId c

/-- DEF_HASH (R74): CRC-32C over the stored values of 40cc:03–0A and 41cc:02–03, in subindex order. -/
def defHash (m : Tbl Val) (c : Nat) : Nat :=
  crc32c (leBytes 2 (chan m c 3) ++ leBytes 2 (chan m c 4) ++ leBytes 1 (chan m c 5) ++ leBytes 1 (chan m c 6) ++
    leBytes 1 (chan m c 7) ++ leBytes 1 (chan m c 8) ++ leBytes 1 (chan m c 9) ++ leBytes 4 (chan m c 0xA) ++
    cfgB m (0x4100 + c) 2 ++ leBytes 2 (cfg m (0x4100 + c) 3))

/-- Eccentricity of an identity over a set of members, those it cannot reach left out (R75). -/
def State.eccentricity (s : State) (id : Nat) (ms : List Nat) : Nat :=
  let d := s.hopsFrom id
  maxList (ms.filterMap (fun m => if d.get 0xFFFF m = 0xFFFF then none else some (d.get 0xFFFF m)))

/-- The root that a set of members elects (R75): smallest eccentricity, then the lowest identity. -/
def State.elect (s : State) (ms : List Nat) : Nat :=
  let here := ms.filter (fun m => decide (m = s.myId) || s.reaches m)
  (here.foldl (fun (b : Option (Nat × Nat)) m =>
    let e := s.eccentricity m here
    match b with
    | none => some (m, e)
    | some (r, x) => if e < x ∨ (e = x ∧ m < r) then some (m, e) else b) none).elim s.myId Prod.fst

def State.rootNow (s : State) (c : Nat) : Nat := s.lv (0x4100 + c) 9

/-- Members that take part: the last broadcast's. Before one, the root has admitted itself alone (R74, R83), and any other member
goes by MEMBERS (R81). -/
def State.activeOf (s : State) (c : Nat) : List Nat :=
  match (s.councilSt c).active with
  | some a => a
  | none => if s.rootNow c = s.myId then [s.myId] else membersOf s.comm c

/-- The first member met from an identity on its way to the root (R75): modules that are not members only forward. -/
def State.firstMember (s : State) (d : Tbl Nat) (ms : List Nat) : Nat → Nat → Option Nat
  | 0, _ => none
  | fuel + 1, id =>
    match s.towardRoot d id with
    | none => none
    | some n => if ms.contains n then some n else State.firstMember s d ms fuel n

/-- Active children of this module in the reduction tree of a channel. -/
def State.childrenOf (s : State) (c : Nat) : List Nat :=
  let ms := s.activeOf c
  let d := s.hopsFrom (s.rootNow c)
  ms.filter (fun m => decide (m ≠ s.myId) && decide (m ≠ s.rootNow c) &&
    decide (s.firstMember d ms 1024 m = some s.myId))

/-- h and d of the tree in force (R78). -/
def State.councilH (s : State) (c : Nat) : Nat := s.eccentricity (s.rootNow c) (s.activeOf c)
def State.councilD (s : State) (c : Nat) : Nat := (s.hopsFrom (s.rootNow c)).get 0xFFFF s.myId

/-- Whether the root of a channel is this module. -/
def State.isRoot (s : State) (c : Nat) : Bool := decide (s.rootNow c = s.myId)

end Sys2Proof.Machine
end

