-- ==== Sys2Proof/Machine/Time.lean ====
section
/-!
DEFINITION. Time (chapter "Time and media clocks"): steps of the counter (R203), the servo and its sources (R210 to
R212), REF_IN (R167, R168), the time outputs and PPS_IN (R220), the two stoves' counters (R27); and their commands.
-/
namespace Sys2Proof.Machine

def State.updServo (s : State) (f : Servo → Servo) : State := { s with servo := f s.servo }
def State.ptp (s : State) (i : Nat) : Ptp := s.servo.ptp.get {} i
def State.updPtp (s : State) (i : Nat) (f : Ptp → Ptp) : State :=
  s.updServo (fun v => { v with ptp := v.ptp.upd {} i f })

/-- A part of the time domain as an initiator (Table 1-3). -/
def timeInit : Nat := blockInit 0 51

def timeEv (b acc : Nat) : Ev := { source := src 3 b, init := timeInit, access := acc }

/-- 2^-40 ns to the 2^-16 ns of I64 and U64 time objects, floor. -/
def to16 (v : Int) : Int := v / 2 ^ 24

/-- Resolution of a line-side timestamp (R26, R204): 0.3125 ns in 2^-40 ns. -/
def lineStep : Nat := 343597383680

/-- `Clock.mono` at a line-side instant of the past, given in `now` units, to the resolution of R204. -/
def State.monoAt (s : State) (at_ : Nat) : Nat :=
  (s.mono - (s.now / tuTick - at_ / tuTick) * tickInc s.clk.y + at_ % tuTick * 2 ^ 40 / 36) / lineStep * lineStep

/-- Counter value in 2^-40 ns of such an instant. -/
def State.ctrAt (s : State) (at_ : Nat) : Int := (s.monoAt at_ : Int) + s.clk.off

/-! The audio media clock (R217). -/

def State.updAudio (s : State) (f : Audio → Audio) : State := { s with audio := f s.audio }

/-- One sample period in 2^-40 ns, rounded down. -/
def samplePeriod : Nat := 1000000000 * 2 ^ 40 / 48000

/-- Instant of sample m on the counter, in 2^-40 ns, the phase error left out. -/
def sampleAt (m : Int) : Int := m * (1000000000 * 2 ^ 40 : Nat) / 48000

/-- The media clock brought up to now: its phase error is slewed by at most SLEW_MAX, and AUDIO_PHASE shows the rest. -/
def State.audioClock (s : State) : State :=
  let x := s.audio
  let slew : Nat := (s.mono - x.errAt) * s.lv 0x7020 2 / 1000000000
  let e := if x.err < 0 then min 0 (x.err + slew) else max 0 (x.err - slew)
  (s.updAudio (fun y => { y with err := e, errAt := s.mono })).setN 0x7020 3 (unsigned 64 (to16 e))

/-- A step's error (R214, R217): beyond one sample the count is moved in whole samples; what is left is slewed. -/
def State.audioStep (s : State) (d : Int) : State :=
  let s := s.audioClock
  let e := s.audio.err + d
  let k : Int := if samplePeriod < e.natAbs then roundDivInt (e * 48000) (1000000000 * 2 ^ 40) else 0
  let e := e - sampleAt k
  (s.updAudio (fun y => { y with
    err := e, next := y.next.map (fun (n : Nat × Option Int) => (n.1, n.2.map (· + k))) })).setN 0x7020 3 (unsigned 64 (to16 e))

/-! Frequency and steps (R201, R203). -/

/-- A new y, in 10^-12. -/
def State.setY (s : State) (y : Int) : State :=
  let s := s.syncClk
  { s with clk := { s.clk with y := y } }.setN 0x7000 4 (unsigned 32 y)

/-- A step by `d` in 2^-40 ns (R203): instants held in `Clock.mono` do not move; labels, gate lists and the audio clock
take up the error. -/
def State.stepCounter (s : State) (d : Int) : State :=
  let s := s.syncClk.audioStep d
  let s := { s with clk := { s.clk with off := s.clk.off + d } }
  let s := (s.inc 0x7000 7).setN 0x7000 8 (unsigned 64 (to16 d))
  let s := s.updPipe (fun p => { p with chans := p.chans.map (fun (e : Nat × Chan) =>
    (e.1, if s.chRunning e.1 || e.2.startAt.isSome then { e.2 with errPending := true } else e.2)) })
  let s := { s with outp := { s.outp with ports := s.outp.ports.map (fun (e : Nat × Port) =>
    (e.1, if e.2.gate.oper.isSome then { e.2 with gate := { e.2.gate with realign := true } } else e.2)) } }
  s.raise (timeEv 3 8)

/-! Sources (R208, R210, R256). -/

/-- Whether an offer on a port is usable (R256). -/
def State.offerUsable (s : State) (p : Nat) : Bool :=
  let l := s.link p
  s.linkUp p && decide (l.stale < 4) && decide (4 ≤ l.good) &&
    (match l.offer with | some o => decide (o.upstream ≠ s.myId) | none => false)

/-- The upstream's port (R256): fewest hops, lowest origin, lowest neighbour identity. -/
def State.upstreamPort (s : State) : Option Nat :=
  let rank := fun (p : Nat) =>
    let o := (s.link p).offer
    [(o.map Offer.hops).getD 0, (o.map Offer.origin).getD 0, (s.peerId p).getD 0xFFFF]
  let less := fun (a b : List Nat) => match (List.zip a b).find? (fun q => q.1 ≠ q.2) with
    | some q => decide (q.1 < q.2)
    | none => false
  ((List.range 3).filter s.offerUsable).foldl (fun (b : Option Nat) p =>
    match b with
    | none => some p
    | some q => if less (rank p) (rank q) then some p else b) none

/-- Whether a source of Table 8-3 other than REF_IN is qualified. -/
def State.qualified (s : State) (code : Nat) : Bool :=
  if 1 ≤ code ∧ code ≤ 4 then
    let st := if code ≤ 2 then s.lv (0x7010 + (code - 1)) 7 else s.lv (0x7010 + (code - 3)) 8
    decide (st = 3) && decide (4 ≤ (s.ptp (code - 1)).good)
  else if code = 5 then s.upstreamPort.isSome
  else if code = 6 then s.servo.hostAt.isSome
  else false

/-- SOURCE_ORDER as committed. -/
def State.order (s : State) : List Nat := (s.cmb 0x7001 1).map BitVec.toNat

def State.sourceNow (s : State) : Nat := s.lv 0x7001 0xD

/-- The master that a PTP instance follows. -/
def Ptp.chosen (x : Ptp) : Option Master := x.masters.find? (fun m => some m.port = x.master)

/-- TIME_FLAGS [3:0], UTC offset, traceability and grandmaster that a source gives (R256); host samples and REF_IN give
none. -/
def State.sourceFlags (s : State) (code : Nat) : Nat × Nat × Nat :=
  if 1 ≤ code ∧ code ≤ 4 then
    match (s.ptp (code - 1)).chosen with
    | some m => (m.flags, m.utc, m.gm)
    | none => (0, 0, 0)
  else if code = 5 then
    match s.upstreamPort.bind (fun p => (s.link p).offer) with
    | some o => (o.flags, o.utc, o.gm)
    | none => (0, 0, 0)
  else (0, 0, 0)

/-- UTC_OFFSET and TIME_FLAGS of the source in use; [4] is 0 until LOCKED or FALLBACK is reached (R202). -/
def State.showSource (s : State) : State :=
  let f := s.sourceFlags s.sourceNow
  let flags := if s.servo.reached then f.1 % 32 else f.1 % 16
  (s.setN 0x7000 5 (f.2.1 % 2 ^ 16)).setN 0x7000 6 flags

/-! Holdover (R212). -/

/-- Time spent LOCKED brought up to now. -/
def State.countLocked (s : State) : State :=
  match s.servo.histAt with
  | some m => s.updServo (fun v => { v with hist := (s.mono - m, s.clk.y) :: v.hist, histAt := some s.mono })
  | none => s

/-- Mean of y over the last `span` of time spent LOCKED; none when there is less. -/
def meanGo : List (Nat × Int) → Nat → Int → Option Int
  | _, 0, acc => some acc
  | [], _, _ => none
  | (d, y) :: rest, span, acc =>
    if span ≤ d then some (acc + y * span) else meanGo rest (span - d) (acc + y * d)

/-- SERVO_STATE. Leaving LOCKED ends the counting of its time; HOLDOVER holds its condition (group 3 source 5). -/
def State.setServo (s : State) (st : Nat) : State :=
  let was := s.lv 0x7001 0xC
  if was = st then s else
  let s := if was = 2 then (s.countLocked).updServo (fun v => { v with histAt := none }) else s
  let s := s.setN 0x7001 0xC st
  let s := if st = 2 then s.updServo (fun v => { v with histAt := some s.mono }) else s
  let s := if st = 2 ∨ st = 4 then (s.updServo (fun v => { v with reached := true })).showSource else s
  let s := if was = 3 then s.updServo (fun v => { v with holdFrom := none }) else s
  s.cond (timeEv 5 8) (decide (st = 3))

def State.enterHoldover (s : State) : State :=
  let s := if s.lv 0x7001 0xC = 2 then s.countLocked else s
  let span := nsCtr (1000000000 * s.lv 0x7001 0xA)
  let y := match meanGo s.servo.hist span 0 with
    | some acc => roundDivInt acc (max 1 span)
    | none => s.clk.y
  let s := (s.setY y).updServo (fun v => { v with i := y, good := 0, overs := 0, outl := 0, holdFrom := some s.now, holdRaised := false })
  (s.setServo 3).setN 0x7001 0x10 0

/-- The source that R210 follows now: the one in use while it is qualified, else the first qualified one, else REF_IN. -/
def State.pickSource (s : State) : Nat :=
  let cur := s.sourceNow
  if 1 ≤ cur ∧ cur ≤ 6 ∧ s.order.contains cur ∧ s.qualified cur then cur
  else match s.order.find? (fun c => decide (c ≠ 7) && s.qualified c) with
    | some c => c
    | none => if s.order.contains 7 && decide (s.lv 0x2200 1 = 2) && decide (s.lv 0x2200 7 = 2) then 7 else 0

/-- Qualification has changed: instants of qualification, the source in use, and what Table 8-4 makes of it: HOLDOVER with none,
FALLBACK when REF_IN is taken. -/
def State.reselect (s : State) : State :=
  let q := (List.range 7).foldl (fun (m : Tbl (Option Nat)) c =>
    if s.qualified c then (if (m.get none c).isSome then m else m.put none c (some s.now)) else m.put none c none) s.servo.qualAt
  let s := s.updServo (fun v => { v with qualAt := q })
  let new := s.pickSource
  let s := if new = s.sourceNow then s else s.setN 0x7001 0xD new
  let st := s.lv 0x7001 0xC
  let s := if new = 0 ∧ st ≠ 0 ∧ st ≠ 3 then s.enterHoldover
    else if new = 7 ∧ (st = 1 ∨ st = 2) then (s.setServo 4).updServo (fun v => { v with good := 0, overs := 0, outl := 0 }) else s
  s.showSource

/-! The servo (R211). -/

/-- KP or KI (Q15.16) × θ (2^-16 ns) / τ (2^-40 ns), in 10^-12. -/
def gainTerm (k : Nat) (theta : Int) (tau : Nat) : Int :=
  roundDivInt ((k : Int) * theta * (2 ^ 8 * 1000000000000)) (max 1 tau)

/-- Steering by a sample. -/
def State.steer (s : State) (theta : Int) (tau : Nat) : State :=
  let ic : Int := (s.lv 0x7001 5 * 1000 : Nat)
  let fc : Int := (s.lv 0x7001 4 * 1000 : Nat)
  let i := clampInt (s.servo.i - gainTerm (s.lv 0x7001 3) theta tau) (-ic) ic
  let y := clampInt (i - gainTerm (s.lv 0x7001 2) theta tau) (-fc) fc
  let sl : Int := (s.lv 0x7020 2 * 1000 : Nat)
  let y := if s.runningChans ≠ [] then clampInt y (i - sl) (i + sl) else y
  let s := if s.lv 0x7001 0xC = 2 then s.countLocked else s
  (s.updServo (fun v => { v with i := i })).setY y

/-- Leaving LOCKED for ACQUIRING (Table 8-4). -/
def State.loseLock (s : State) : State := ((s.setServo 1).inc 0x7001 0x11).raise (timeEv 4 8)

/-- What the sample counts of Table 8-4 do after a steering sample of a source other than REF_IN. -/
def State.judge (s : State) (within : Bool) : State :=
  let s := s.updServo (fun v => if within then { v with good := v.good + 1, overs := 0 } else { v with good := 0, overs := v.overs + 1 })
  let st := s.lv 0x7001 0xC
  if st = 1 ∧ 16 ≤ s.servo.good then s.setServo 2
  else if st = 2 ∧ 4 ≤ s.servo.overs then (s.loseLock).updServo (fun v => { v with good := 0, overs := 0 })
  else s

/-- A sample θ in 2^-16 ns of the source in use (R211); `nominal` is the source's own interval. -/
def State.useSample (s : State) (code : Nat) (theta : Int) (nominal : Nat) : State :=
  let st := s.lv 0x7001 0xC
  let s := s.setN 0x7001 0xE (unsigned 64 theta)
  let ns := theta.natAbs
  let out := decide (st = 2) && decide (s.lv 0x7001 9 * 65536 < ns) && decide (s.servo.outl < 3)
  if out then (s.updServo (fun v => { v with outl := v.outl + 1 })).inc 0x7001 0x13 else
  let tau := match s.servo.lastAt with
    | some m => max (nsCtr 1000000) (s.mono - m)
    | none => nominal
  let s := s.updServo (fun v => { v with outl := 0, lastAt := some s.mono })
  let s := if code = 7 then s.setServo 4
    else if st = 0 ∨ st = 3 ∨ st = 4 then (s.setServo 1).updServo (fun v => { v with good := 0, overs := 0 })
    else s
  let thr := s.lv 0x7001 6
  if decide (thr ≠ 0) && decide (thr * 65536 < ns) && decide (code ≠ 7) && (decide (s.runningChans = []) || decide (s.lv 0x7001 7 = 1)) then
    let s := s.stepCounter (-(theta * 2 ^ 24))
    let s := s.updServo (fun v => { v with good := 0, overs := 0 })
    if s.lv 0x7001 0xC = 2 then s.loseLock else s.setServo 1
  else
    let s := s.steer theta tau
    if code = 7 then s else s.judge (decide (ns ≤ s.lv 0x7001 8 * 65536))

/-- A sample of a source (R210, R211): used when the servo follows that source. -/
def State.sample (s : State) (code : Nat) (theta : Int) (nominal : Nat) : State :=
  let s := s.reselect
  if s.sourceNow = code then s.useSample code theta nominal else s

/-- The counter as it starts at power-up (R202), and the servo at power-up and wake. -/
def State.startServo (s : State) : State :=
  let s := { s with servo := { ({} : Servo) with tsq := [], ptp := s.servo.ptp } }
  ((((s.setY 0).setN 0x7001 0xC 0).setN 0x7001 0xD 0).setN 0x7001 0x10 0).cond (timeEv 5 8) false

/-! REF_IN (R167, R168). -/

def State.updRef (s : State) (f : RefIn → RefIn) : State := { s with inp := { s.inp with ref := f s.inp.ref } }

/-- Nominal period of REF_IN in 2^-40 ns. -/
def State.refPeriod (s : State) : Nat :=
  match s.lv 0x2200 2 with
  | 1 => nsCtr 1000000
  | 2 => nsCtr 1000000000
  | _ => period40 (s.lv 0x2200 3)

/-- REF_STATE, with the condition of group 3 source 8 (REF_IN lost). -/
def State.setRefState (s : State) (v : Nat) : State := (s.setN 0x2200 7 v).cond (timeEv 8 8) (decide (v = 3))

/-- REF_STATE while REF_IN is not qualified: 0x04 while the measured period is off by more than 1 % (R167). -/
def State.refQualState (s : State) : Nat :=
  let p := s.refPeriod
  let m : Nat := s.lv 0x2200 0xA * 2 ^ 40 / 1000
  let off := Int.natAbs ((m : Int) - (p : Int))
  if s.lv 0x2200 1 = 0 then 0 else if m ≠ 0 ∧ p < 100 * off then 4 else 1

/-- Re-qualification: the next edge seen is its first. Until then the predictions of the old base go on, so that missing
periods are still counted (R167). -/
def State.refRestart (s : State) : State :=
  let s := s.updRef (fun r => { r with restart := true, good := 0, rejects := 0, beyond := 0 })
  (s.setRefState s.refQualState).reselect

/-- A change of the setting (R167): nothing of the old setting's periods is kept. -/
def State.refRequalify (s : State) : State :=
  (s.updRef (fun r => { r with last := none, since := 0, edgeIn := 0, okIn := 0, missing := 0 })).refRestart

/-- Phase of a counter value against the nearest whole second or alignment point, shifted by REF_PHASE (R168, R211). -/
def State.refPhase (s : State) (ctr : Int) : Int :=
  let v := ctr - signed 32 (s.lv 0x2200 4) * 2 ^ 40
  if s.lv 0x2200 2 = 3 then
    let p := periodOf (s.lv 0x2200 3)
    let n := roundDivInt (v * (p.2 : Nat)) (1000000000 * 2 ^ 40 * p.1)
    v - roundDivInt (n * (1000000000 * 2 ^ 40 * p.1 : Nat)) p.2
  else v - roundDivInt v (1000000000 * 2 ^ 40) * (1000000000 * 2 ^ 40)

/-- An accepted edge of a qualified REF_IN (R168): CHECK reports it, FALLBACK gives the servo a sample. The frequency
against PTP is that of the reference: positive where its periods are short. -/
def State.refUse (s : State) (edge prev n : Nat) (ctr : Int) : State :=
  let dt : Int := (edge : Int) - prev
  let nom := n * s.refPeriod
  let ten := decide (s.lv 0x2200 2 = 1)
  let phase := s.refPhase ctr
  if s.lv 0x2200 1 = 1 then
    let s := s.setN 0x2200 9 (unsigned 32 (roundDivInt ((nom - dt) * 1000000000000) (max 1 dt.toNat)))
    if ten then s else
    let ns := roundDivInt phase (2 ^ 40)
    let s := s.setN 0x2200 8 (unsigned 32 ns)
    if s.lv 0x2200 6 < ns.natAbs then
      let s := s.updRef (fun r => { r with beyond := r.beyond + 1 })
      if s.inp.ref.beyond = 3 then s.raise (timeEv 9 8) else s
    else s.updRef (fun r => { r with beyond := 0 })
  else if s.lv 0x2200 1 = 2 then s.sample 7 (to16 (if ten then dt - nom else phase)) s.refPeriod
  else s

/-- REF_IN_EDGE (R167). `lineAt` is the line-side instant of the edge; with 10 MHz it is the edge of a 1 ms period. -/
def State.refEdge (s : State) (lineAt : Nat) : State :=
  if s.lv 0x2200 1 = 0 then s else
  let edge := s.monoAt lineAt
  let ctr := s.ctrAt lineAt
  let s := match s.inp.ref.prevEdge with
    | some e => s.setN 0x2200 0xA ((edge - e) * 1000 / 2 ^ 40)
    | none => s
  let s := s.updRef (fun r => { r with prevEdge := some edge, missing := 0 })
  let first := fun (s : State) =>
    (s.setRefState s.refQualState).updRef (fun r =>
      { r with last := some edge, since := 0, edgeIn := 0, okIn := 0, good := 0, rejects := 0, restart := false })
  match (if s.inp.ref.restart then none else s.inp.ref.last) with
  | none => first s
  | some l =>
    let p := s.refPeriod
    let qual := decide (s.lv 0x2200 7 = 2)
    let n := roundDiv (edge - l) (max 1 p)
    let dist := ((edge : Int) - (l + n * p : Nat)).natAbs
    if s.inp.ref.okIn < n ∧ dist ≤ nsCtr (s.lv 0x2200 5) then
      if qual then
        (s.updRef (fun r => { r with last := some edge, since := 0, edgeIn := 0, okIn := 0, rejects := 0 })).refUse edge l n ctr
      else if n ≠ s.inp.ref.okIn + 1 then first s
      else
        let s := s.updRef (fun r => { r with edgeIn := n, okIn := n, rejects := 0, good := r.good + 1 })
        if 16 ≤ s.inp.ref.good then
          (s.updRef (fun r => { r with last := some edge, since := 0, edgeIn := 0, okIn := 0 })).setRefState 2 |>.reselect
        else s.setRefState s.refQualState
    else
      let s := (s.updRef (fun r => { r with rejects := r.rejects + 1, edgeIn := n })).inc 0x2200 0xB
      if !qual || decide (3 ≤ s.inp.ref.rejects) then s.refRestart else s

/-- A period without an edge by its prediction plus REF_WINDOW (R167): it restarts a qualification, and the third in a row
declares loss, qualified or not. -/
def State.refMissing (s : State) : State :=
  match s.inp.ref.last with
  | none => s
  | some l =>
    let p := s.refPeriod
    let n := (s.mono + tickUnit - l - nsCtr (s.lv 0x2200 5)) / max 1 p
    if l + p + nsCtr (s.lv 0x2200 5) ≤ s.mono + tickUnit ∧ s.inp.ref.since < n then
      if s.inp.ref.edgeIn = n then s.updRef (fun r => { r with since := n })
      else
        let s := s.updRef (fun r => { r with since := n, missing := r.missing + 1 })
        if 3 ≤ s.inp.ref.missing then
          let s := s.updRef (fun r => { r with last := none, since := 0, edgeIn := 0, okIn := 0, good := 0, rejects := 0, missing := 0, beyond := 0 })
          ((s.setRefState 3).inc 0x2200 0xC).reselect
        else if s.lv 0x2200 7 ≠ 2 then s.refRestart
        else s
    else s

/-! Commands. -/

/-- REF_IN_EDGE (R167, R168). -/
def execRefInEdge (t lineAt : Nat) (s : State) : Host.Outcome State Fault Refusal :=
  act t (fun s => if s.isUp then s.refEdge lineAt else s) s

/-- REF_PERIOD_MISSING (R167). -/
def execRefPeriodMissing (t : Nat) (s : State) : Host.Outcome State Fault Refusal :=
  act t (fun s => if s.isUp && decide (s.lv 0x2200 1 ≠ 0) then s.refMissing else s) s

/-- PPS_IN_EDGE (R220): timestamped on the line side and counted. -/
def execPpsInEdge (t lineAt : Nat) (s : State) : Host.Outcome State Fault Refusal :=
  act t (fun s =>
    if s.isUp && decide (s.cm 0x7030 4 = 1) then
      (s.setN 0x7030 5 (ctrTime (s.ctrAt lineAt).toNat)).inc 0x7030 6
    else s) s

/-- PPS_OUT_PULSE (R220): PPS_OUT rises at each whole second of the counter. -/
def execPpsOutPulse (t : Nat) (s : State) : Host.Outcome State Fault Refusal :=
  act t (fun s =>
    if s.isUp && s.clk.run && decide (s.cm 0x7030 1 = 1) && decide (s.ctrNow % (1000000000 * 2 ^ 40) < tickInc s.clk.y) then
      (s.emit (.edge 0 true)).updServo (fun v => { v with ppsHigh := some (s.now + tuNs (s.lv 0x7030 2)) })
    else s) s

/-- TIME_OUTPUT_PULSE_END (R220): output 0 is PPS_OUT, 1 FRAME_OUT. -/
def execTimeOutputPulseEnd (t : Nat) (which : Fin 2) (s : State) : Host.Outcome State Fault Refusal :=
  act t (fun s =>
    let high := if which = 0 then s.servo.ppsHigh else s.servo.frameHigh
    match high with
    | some m =>
      if m ≤ s.now then
        (s.updServo (fun v => if which = 0 then { v with ppsHigh := none } else { v with frameHigh := none })).emit (.edge which false)
      else s
    | none => s) s

/-- HOST_SAMPLE_EXPIRE (R210): 4 s without a sample. -/
def execHostSampleExpire (t : Nat) (s : State) : Host.Outcome State Fault Refusal :=
  act t (fun s =>
    match s.servo.hostAt with
    | some m => if m + tuSec 4 ≤ s.now then (s.updServo (fun v => { v with hostAt := none })).reselect else s
    | none => s) s

/-- SOURCE_PREFERENCE_TIMER (R210): a source listed earlier than the one in use, qualified for 10 s, replaces it. -/
def execSourcePreferenceTimer (t : Nat) (s : State) : Host.Outcome State Fault Refusal :=
  act t (fun s =>
    let s := s.reselect
    let earlier := (s.order.takeWhile (· ≠ s.sourceNow)).filter (· ≠ 7)
    if s.sourceNow = 0 ∨ s.sourceNow = 7 then s else
    match earlier.find? (fun c => match s.servo.qualAt.get none c with
        | some m => s.qualified c && decide (m + tuSec 10 ≤ s.now)
        | none => false) with
    | some c => (s.setN 0x7001 0xD c).showSource
    | none => s) s

/-- HOLDOVER_MAX_PASSED (R212). -/
def execHoldoverMaxPassed (t : Nat) (s : State) : Host.Outcome State Fault Refusal :=
  act t (fun s =>
    match s.servo.holdFrom with
    | some m =>
      if m + tuSec (s.lv 0x7001 0xB) ≤ s.now ∧ s.servo.holdRaised = false then
        (s.updServo (fun v => { v with holdRaised := true })).raise (timeEv 6 8)
      else s
    | none => s) s

/-- STOVE_COUNTER_COMPARE (R27): `diff` is stove B's counter less stove A's as the comparison finds it, in 2^-40 ns. -/
def execStoveCounterCompare (t : Nat) (diff : Int) (s : State) : Host.Outcome State Fault Refusal :=
  act t (fun s =>
    if s.isUp && s.clk.run then
      let s := { s with clk := { s.clk with diffB := diff } }
      if tickUnit < diff.natAbs then
        ({ s with clk := { s.clk with reloadB := true } }).raise (timeEv 2 8)
      else s
    else s) s

end Sys2Proof.Machine
end

