-- ==== Sys2Proof/Machine/AudioOps.lean ====
section
/-!
DEFINITION. Audio converters (chapter "Audio"): source ports, the loops that track their ratios, FIFOs, aligned groups, held outputs
(R223 to R230), and the clocks that the module drives (R224, R225).
-/
namespace Sys2Proof.Machine

def State.aPort (s : State) (p : Nat) : AudioPort := s.audio.ports.get {} p
def State.updAPort (s : State) (p : Nat) (f : AudioPort → AudioPort) : State :=
  s.updAudio (fun x => { x with ports := x.ports.upd {} p f })

/-- Whether a source port is in use. -/
def State.aPortOn (s : State) (p : Nat) : Bool := s.running && decide (s.cm (0x7100 + p) 1 = 1)

def State.asrc (s : State) (p : Nat) : Nat := s.lv (0x7100 + p) 0xB

def audioInit : Nat := blockInit 0 53

/-! The media clock (R217). -/

/-- Instant, of `Clock.mono`, at which the media clock counts m. -/
def State.sampleMono (s : State) (m : Int) : Int := sampleAt m + s.audio.err - s.clk.off

/-! Converters (R227 to R229). -/

/-- The converter's live output at a capture instant, 32 bits (R227), from the samples within the 0.5 ms of the filter on either side
(assumption 121) and the period it ran on; silence gives silence (R226). -/
def liveOut (xs : List AudioSmp) (at_ : Int) (right : Bool) : Int :=
  let near := xs.filter (fun a => decide (Int.natAbs ((a.at_ : Int) - at_) ≤ usCtr 500))
  let v := fun (a : AudioSmp) => if right then a.r else a.l
  if near.all (fun a => decide (v a = 0)) then 0
  else clampInt (Config.asrcOut (near.flatMap (fun a => [(a.at_ : Int) - at_, a.per, v a]))) (-(2 ^ 31)) (2 ^ 31 - 1)

/-- A ramp over 1 ms: part `dt` of the way from `a` to `b`. -/
def rampTo (a b : Int) (dt : Int) : Int :=
  if (usCtr 1000 : Int) ≤ dt then b else a + roundDivInt ((b - a) * dt) (usCtr 1000)

/-- The converter's output at a capture instant. -/
def outAt (x : AudioPort) (at_ : Int) (right : Bool) : Int :=
  match x.runs.find? (fun r => decide ((r.from_ : Int) ≤ at_)) with
  | none => 0
  | some r =>
    let v := if right then r.r else r.l
    match r.mode with
    | .silent => 0
    | .live => liveOut x.smps at_ right
    | .held => v
    | .fade => rampTo v 0 (at_ - r.from_)
    | .rise => rampTo v (liveOut x.smps at_ right) (at_ - r.from_)

/-- The capture instant that the converter is on: half a millisecond of FIFO before now (R227). -/
def State.fifoAt (s : State) : Nat := s.mono - usCtr 500

/-- A new stretch of a port's output from the capture instant it is on, holding its last output. -/
def State.stretch (s : State) (p : Nat) (mode : ConvMode) : State :=
  let at_ := s.fifoAt
  let x := s.aPort p
  let last := (at_ : Int) - samplePeriod
  let new : Stretch := { from_ := at_, mode := mode, l := outAt x last false, r := outAt x last true }
  s.updAPort p (fun y => { y with runs := new :: y.runs.take 7 })

/-- Whether a port's output is held or fading. -/
def State.aHeld (s : State) (p : Nat) : Bool :=
  match (s.aPort p).runs.head? with
  | some r => decide (r.mode = .held ∨ r.mode = .fade)
  | none => false

/-! Aligned groups (R230). -/

/-- Members of a group: 0 to 3 by ALIGN_GROUP, 4 and 5 the virtual ports of a sink. -/
def State.groupPorts (s : State) (g : Nat) : List Nat :=
  if g < 4 then (List.range 8).filter (fun p => s.aPortOn p && decide (s.cm (0x7100 + p) 7 = g))
  else (List.range 4).map (fun i => 8 + 4 * (g - 4) + i) |>.filter s.aPortOn

def State.groupOf (s : State) (p : Nat) : Nat := if p < 8 then s.cm (0x7100 + p) 7 else 4 + (p - 8) / 4

/-- Input period that a port's converter runs on: its group's, else that of its own loop; 0 while there is none. -/
def State.inputPeriod (s : State) (p : Nat) : Int :=
  if s.groupOf p < 6 then s.audio.ratios.get 0 (s.groupOf p) else ((s.aPort p).loop.map AudioLoop.per).getD 0

/-- What the converter has read of the FIFO, brought up to now. -/
def State.readFifo (s : State) (p : Nat) : State :=
  let per := s.inputPeriod p
  s.updAPort p (fun x => { x with
    pos := if 0 < per then x.pos + ((s.mono - x.posAt) * 65536 : Nat) / per else x.pos, posAt := s.mono })

/-- Fill of a FIFO in 2^-16 input samples. -/
def State.fill (s : State) (p : Nat) : Int :=
  let x := (s.readFifo p).aPort p
  (x.written * 65536 : Nat) - x.pos

/-- The FIFO set to its centre, 0.5 ms of input; a member of a group goes where its lead's reading is (R230). -/
def State.centre (s : State) (p : Nat) : State :=
  let per := s.inputPeriod p
  let mid : Int := if 0 < per then (usCtr 500 * 65536 : Nat) / per else 0
  let want := match s.audio.lead.get none (s.groupOf p) with
    | some l => if l = p then mid else s.fill l
    | none => mid
  s.updAPort p (fun x => { x with pos := (x.written * 65536 : Nat) - want, posAt := s.mono })

/-- The lead of every group: its lowest member that is not in underrun or overrun. A new lead's loop starts from the ratio in force. -/
def State.showLeads (s : State) : State :=
  eachBelow 6 (fun g s =>
    let ps := s.groupPorts g
    let lead := ps.find? (fun p => decide (s.asrc p ≠ 3))
    let per := s.audio.ratios.get 0 g
    let s := match lead with
      | some b => if s.audio.lead.get none g = lead ∨ per = 0 then s
        else s.updAPort b (fun x => { x with loop := x.loop.map (fun (y : AudioLoop) => { y with per := per }) })
      | none => s
    let s := s.updAudio (fun x => { x with lead := x.lead.put none g lead })
    eachIn ps (fun p s => s.setN (0x7100 + p) 0x11 (if lead = some p then 1 else 0)) s) s

/-! Input (R223, R224, R226, R227). -/

/-- Rates of Table 9-1 in Hz. -/
def audioRates : List Nat := [32000, 44100, 48000, 88200, 96000, 176400, 192000]

def audioRateHz (code : Nat) : Nat := if code = 0 then 0 else audioRates.getD (code - 1) 0

/-! Clocks that the module drives (R224, R225). -/

/-- Instant, of `Clock.mono`, of edge n of a clock of `hz`: the 48 kHz family follows the media clock, the 44.1 kHz family counts from
the PTP epoch. -/
def State.edgeMono (s : State) (hz : Nat) (n : Int) : Int :=
  n * (1000000000 * 2 ^ 40 : Nat) / (max 1 hz : Nat) + (if hz % 8000 = 0 then s.audio.err else 0) - s.clk.off

/-- The edge nearest to an instant of `Clock.mono`. -/
def State.edgeNear (s : State) (hz : Nat) (m : Int) : Int :=
  s.edgeMono hz (roundDivInt ((m + s.clk.off - (if hz % 8000 = 0 then s.audio.err else 0)) * hz) (1000000000 * 2 ^ 40))

/-- The falling edge of WS that a controller port drives next (R224): the clock's own edge, off the period before it by one BCLK at
most. `near` is where the frame was seen. -/
def State.wsFall (s : State) (p near : Nat) : Nat :=
  let hz := audioRateHz (s.cm (0x7100 + p) 6)
  let per := 1000000000 * 2 ^ 40 / max 1 hz
  let bit := per / (2 * max 1 (s.cm (0x7100 + p) 4))
  let grid := fun (m : Nat) => (s.edgeNear hz m).toNat
  match (s.aPort p).ws with
  | some w =>
    if Int.natAbs ((near : Int) - (w + per : Nat)) ≤ per / 2 then max (w + per - bit) (min (w + per + bit) (grid (w + per))) else grid near
  | none => grid near

/-- MCLK0 and MCLK1 (R225), which the audio domain drives where it runs (Table 1-6). An edge stands at each edge of the clock of
MULT × rate, so that a WS of that rate falls on one. -/
def State.showMclk (s : State) : State :=
  let runs := !decide (s.sys.mode = .kindling ∨ s.sys.mode = .banked)
  eachBelow 2 (fun n s =>
    let hz := if runs then audioRateHz (s.cm 0x7110 (1 + 2 * n)) * s.cm 0x7110 (2 + 2 * n) else 0
    if s.audio.mclk.get 0 n = hz then s else (s.updAudio (fun x => { x with mclk := x.mclk.put 0 n hz })).emit (.mclk n hz)) s

/-- The nearest rate of Table 9-1 to a rate in mHz. -/
def nearestRate (mhz : Nat) : Nat :=
  audioRates.foldl (fun b r => if Int.natAbs ((1000 * r : Nat) - (mhz : Int)) < Int.natAbs ((1000 * b : Nat) - (mhz : Int)) then r else b) 32000

/-- Whether a measured rate is one that R224 accepts. -/
def rateOk (virtual : Bool) (mhz : Nat) : Bool :=
  if virtual then decide (32000000 ≤ mhz) && decide (mhz ≤ 192000000)
  else decide (1000 * Int.natAbs ((1000 * nearestRate mhz : Nat) - (mhz : Int)) ≤ 1000 * nearestRate mhz)

/-- RATE_NOW and RATE_ERROR, and the state of a port whose rate R224 does not accept. -/
def State.showRate (s : State) (p mhz : Nat) : State :=
  let near := 1000 * nearestRate mhz
  let s := (s.setN (0x7100 + p) 0xC mhz).setN (0x7100 + p) 0xD (unsigned 32 (roundDivInt (((mhz : Int) - near) * 1000000000) (max 1 near)))
  if rateOk (decide (8 ≤ p)) mhz then (if s.asrc p = 4 then s.setN (0x7100 + p) 0xB 1 else s)
  else (s.stretch p .silent).setN (0x7100 + p) 0xB 4

/-- The rate of the samples of the last 10 ms, in mHz; none of fewer than 16. -/
def State.measured (s : State) (p : Nat) : Option Nat :=
  let xs := (s.aPort p).smps.filter (fun a => decide (s.mono ≤ a.at_ + usCtr 10000))
  match xs.head?, xs.getLast? with
  | some a, some b =>
    if xs.length < 16 ∨ a.at_ ≤ b.at_ then none
    else some (roundDiv ((xs.length - 1) * 1000000000 * 2 ^ 40 * 1000) (a.at_ - b.at_))
  | _, _ => none

/-- The loop of a port takes a capture instant (R227); the lead's gives its group's ratio (R230). -/
def State.trackLoop (s : State) (p at_ : Nat) : State :=
  let bw := s.lv (0x7100 + p) 0xA
  let new := match (s.aPort p).loop with
    | none => { next := (at_ : Int) : AudioLoop }
    | some l =>
      if l.per ≤ 0 then
        let d := (at_ : Int) - l.next
        { next := at_ + d, per := d }
      else
        let err := (at_ : Int) - l.next
        { next := l.next + l.per + Config.asrcLoop 0 bw err, per := l.per + Config.asrcLoop 1 bw err }
  let g := s.groupOf p
  let led := decide (g < 6) && decide (s.audio.lead.get none g = some p)
  let s := if led then eachIn (s.groupPorts g) (fun q s => s.readFifo q) s else s.readFifo p
  let s := s.updAPort p (fun x => { x with loop := some new })
  if led then s.updAudio (fun x => { x with ratios := x.ratios.put 0 g new.per }) else s

/-- A sample taken into a port: acquisition begins with the first one; what no packet can need is dropped. -/
def State.takeSample (s : State) (p : Nat) (a : AudioSmp) : State :=
  let keep := s.cm (0x7100 + p) 8 * 2 ^ 40 + usCtr 4000
  let s := s.trackLoop p a.at_
  let s := s.updAPort p (fun x => { x with
    smps := { a with per := s.inputPeriod p } :: x.smps.filter (fun b => decide (s.mono ≤ b.at_ + keep)),
    since := some (x.since.getD a.at_), written := x.written + 1 })
  let s := if s.asrc p = 0 then s.setN (0x7100 + p) 0xB 1 else s
  match (s.aPort p).runs.head? with
  | some r => if s.asrc p = 3 ∧ r.mode = .rise ∧ r.from_ + usCtr 1000 ≤ s.fifoAt then (s.setN (0x7100 + p) 0xB 2).showLeads else s
  | none => s

/-- What an underrun and an overrun share (R229): the output holds, the event at most once per second. An overrun sets the FIFO to its
centre, and the ratio re-acquires. -/
def State.hold (s : State) (p : Nat) (under : Bool) : State :=
  let s := if under then s else (s.centre p).updAPort p (fun x => { x with loop := none })
  let s := ((s.stretch p .held).updAPort p (fun x => { x with hold := under })).setN (0x7100 + p) 0xB 3
  let s := (s.inc (0x7100 + p) (if under then 0xE else 0xF)).showLeads
  let due := match (s.aPort p).eventAt with | some m => decide (m + tuSec 1 ≤ s.now) | none => true
  if due then
    (s.updAPort p (fun x => { x with eventAt := some s.now })).raise { source := src 17 p, dom := domAudio p, init := audioInit, access := 7 }
  else s

/-- Whether a port converts a live input now. -/
def State.aLive (s : State) (p : Nat) : Bool := s.aPortOn p && decide (s.asrc p = 2 ∨ s.asrc p = 3) && !s.aHeld p

/-- HDMI lock loss (R229): the virtual ports of the sink whose channels the stream carried underrun at once. -/
def State.loseAudio (s : State) (p : Nat) : State :=
  eachBelow 4 (fun i s =>
    let q := 8 + 4 * p + i
    if s.aLive q && !(s.aPort q).unused then s.hold q true else s) s

end Sys2Proof.Machine
end

