-- ==== Sys2Proof/Machine/GranilFrame.lean ====
section
/-!
DEFINITION. Granil frames as bytes (R378, Tables 16-5 and 16-6).
-/
namespace Sys2Proof.Machine

/-- The header: OP, FLAGS, INDEX, SUBINDEX, LENGTH, SEQUENCE. -/
def granilHeader (op flags idx sub len seq : Nat) : List Byte :=
  leBytes 1 op ++ leBytes 1 flags ++ leBytes 2 idx ++ leBytes 1 sub ++ leBytes 2 len ++ leBytes 1 seq

def routeBytes : Option Route → List Byte
  | some r => leBytes 1 r.session ++ leBytes 1 r.via ++ leBytes 2 r.dest
  | none => []

/-- What the CRC of a frame covers. -/
def granilBody (op flags idx sub len seq : Nat) (route : Option Route) (data : List Byte) : List Byte :=
  granilHeader op flags idx sub len seq ++ routeBytes route ++ data

/-- A whole frame, the CRC-16 low byte first. -/
def granilFrame (op flags idx sub seq : Nat) (route : Option Route) (data : List Byte) : List Byte :=
  let body := granilBody op flags idx sub data.length seq route data
  body ++ leBytes 2 (crc16 body)

end Sys2Proof.Machine
end

