-- ==== Sys2Proof/Machine/Oper.lean ====
section
/-!
DEFINITION. Keys, touch and plugging (R356 to R368): actions and how they reach their layer, keys, LEDs, the touch
digitizer and its zones; and their commands.
-/
namespace Sys2Proof.Machine

def State.updOper (s : State) (f : Oper → Oper) : State := { s with oper := f s.oper }

/-! Actions (R356 to R359). -/

/-- The module state lets actions be triggered and applied (R359). -/
def State.acts (s : State) : Bool := s.running

/-- A frame start of the channel will apply what waits: it runs, in LIT. -/
def State.atFrames (s : State) (c : Nat) : Bool := decide (s.sys.mode = .lit) && s.chRunning c

/-- The LF writes of an action: object subindex and value. -/
def actionWrites (action value : Nat) : List (Nat × Nat) :=
  match action with
  | 1 => [(0xD, 1)]
  | 2 => [(0xD, 0)]
  | 4 => [(0xE, bitsOf value 10 0)]
  | 5 => [(9, bitsOf value 31 16), (0xA, bitsOf value 15 0)]
  | 6 => [(5, bitsOf value 31 16), (6, bitsOf value 15 0)]
  | _ => []

/-- An action applied to its layer. -/
def State.applyAction (s : State) (a : ActRec) : State :=
  let s := (actionWrites a.action a.value).foldl (fun s w => s.setN (layerIdx a.c a.layer) w.1 w.2) s
  s.inc 0xB030 3

def ActRec.before (a b : ActRec) : Bool :=
  if a.label ≠ b.label then decide (a.label < b.label)
  else if a.origin ≠ b.origin then decide (a.origin < b.origin) else decide (a.seq < b.seq)

/-- Whether a write completed before a boundary: at an earlier tick (R131). -/
def wroteBefore (at_ boundary : Nat) : Bool := decide (at_ + tickUnit / 2 < boundary)

/-- The actions due at a channel's frame start at an instant, in the order of R358, applied; the frame has label `n`. An action for the
first frame start after its trigger does not apply at the one that meets the trigger (R131, R357). -/
def State.applyActions (s : State) (c boundary : Nat) (n : Int) : State :=
  let due := fun (a : ActRec) => decide (a.c = c) && (if a.next then wroteBefore a.at_ boundary else decide (a.label ≤ n))
  let mine := (s.oper.queue.filter due).mergeSort (fun a b => !(b.before a))
  let s := s.updOper (fun o => { o with queue := o.queue.filter (fun a => !(due a)) })
  mine.foldl (fun s a => s.applyAction a) s

/-- An action taken up by this module: at once outside LIT, else at its frame start (R357, R359). -/
def State.takeAction (s : State) (a : ActRec) : State :=
  if s.atFrames a.c then s.updOper (fun o => { o with queue := o.queue ++ [a] }) else s.applyAction a

/-- TOGGLE resolved from the LAYER_SHOW in force here. -/
def State.resolve (s : State) (c layer action : Nat) : Nat :=
  if action = 3 then (if s.lv (layerIdx c layer) 0xD = 1 then 2 else 1) else action

/-- The remote-action record (Table 15-6). -/
def remoteBytes (label : Int) (value tag origin seq layer action : Nat) : List Byte :=
  leBytes 4 0 ++ leBytes 1 action ++ leBytes 1 layer ++ leBytes 2 seq ++ leBytes 2 origin ++ leBytes 2 tag ++
    leBytes 4 value ++ leBytes 8 (unsigned 64 label)

/-- A remote-action record at a member (R357): late after its frame start, dropped without a running channel. -/
def State.remote (s : State) (b : List Byte) : State :=
  match s.runningChans.find? (fun c => decide (chan s.comm c 2 = fieldAt b 11 10)) with
  | none => s.inc 0xB030 5
  | some c =>
    let a : ActRec := { c := c, label := signed 64 (fieldAt b 23 16), next := false, at_ := s.mono, origin := fieldAt b 9 8, seq := fieldAt b 7 6,
                        layer := fieldAt b 5 5, action := fieldAt b 4 4, value := fieldAt b 15 12 }
    let s := if decide (a.label ≤ (s.chanOf c).label) && s.atFrames c then s.inc 0xB030 4 else s
    s.takeAction a

/-- The label of a channel's first frame start after now (R357). -/
def State.nextLabel (s : State) (c : Nat) : Int :=
  let x := s.chanOf c
  match x.resumeAt with
  | some m => if wroteBefore s.mono m then x.resumeLabel else x.resumeLabel + 1
  | none => x.label + 1

/-- A trigger (R356, R357): its event line, then its action, which on a council's canvas goes to every member. -/
def State.trigger (s : State) (c layer action value line : Nat) : State :=
  if !s.acts then s else
  let s := if line < 16 then s.raise { source := src 18 (16 + line), init := blockInit 0 54 } else s
  let action := s.resolve c layer action
  if action = 0 then s else
  let first := s.nextLabel c
  if s.solo c || !s.chRunning c then
    s.takeAction { c := c, label := first, next := true, at_ := s.mono, origin := s.myId, seq := 0, layer := layer, action := action, value := value }
  else
    let seq := s.oper.nextSeq
    let rec_ := remoteBytes (first + (s.lv 0xB030 1 : Nat)) value (chan s.comm c 2) s.myId seq layer action
    let s := s.updOper (fun o => { o with nextSeq := (seq + 1) % 65536 })
    let s := eachIn ((membersOf s.comm c).filter (· ≠ s.myId)) (fun m s => s.flueTo {
      dest := m, src := s.myId, cls := 4, typ := 0x40,
      pay := (granilFrame 0x20 0x11 0xB030 2 (seq % 256) (some ⟨m, 0xFF, 0⟩) rec_).map BitVec.toNat }) s
    if (membersOf s.comm c).contains s.myId then s.remote rec_ else s

/-- A record of Table 15-1 triggered. -/
def State.triggerRec (s : State) (b : List Byte) : State :=
  s.trigger (fieldAt b 3 3 % 16) (fieldAt b 2 2 % 16) (fieldAt b 1 1) (fieldAt b 7 4) (fieldAt b 0 0)

/-! Counters in BLOCK objects. -/

/-- U32 entry `i` of a BLOCK advanced by 1. -/
def bumpU32 (bs : List Byte) (i : Nat) : List Byte :=
  bs.take (4 * i) ++ leBytes 4 (fieldAt bs (4 * i + 3) (4 * i) + 1) ++ bs.drop (4 * i + 4)

/-! Keys (R360). -/

/-- A press taken: its event, its count and its record (2k short, 2k + 1 long). -/
def State.keyPress (s : State) (k i : Nat) : State :=
  if !((s.lv 0xB000 1).testBit k) then s else
  let s := s.raise { source := src 18 k, init := blockInit 0 54 }
  let s := s.setB 0xB000 6 (bumpU32 (s.lvb 0xB000 6) i)
  s.triggerRec (recAt (s.lvb 0xB000 5) 8 i)

/-- The operator domain runs: in LAID, LIT and DAMPED (domain 54, Table 1-6). -/
def State.operOn (s : State) : Bool := s.running

/-! Touch (R362 to R365). -/

/-- TCH_STATE, with group 18 source 8. -/
def State.setTouch (s : State) (v : Nat) : State :=
  (s.setN 0xB002 9 v).cond { source := src 18 8, init := blockInit 0 54 } (decide (v = 3))

/-- The sequence of R362 on the bus, and what the device answers. -/
def State.touchInit (s : State) (dev : Option TouchDev) : State :=
  if s.cm 0xB002 1 = 0 then ((s.setTouch 0).updOper (fun o => { o with dev := none, contacts := [] })).setN 0xB002 0xB 0 else
  let a := s.cm 0xB002 2
  let reg := s.cm 0xB002 3
  let s := s.emit (.touch (leBytes 1 a ++ leBytes 2 reg))
  let s := (s.updOper (fun o => { o with dev := none, contacts := [], fails := 0, reading := false, retryAt := s.now + tuSec 1 })).setN 0xB002 0xB 0
  match dev with
  | none => s.setTouch 3
  | some d =>
    let s := s.setN 0xB002 0xA d.vidPid
    if d.supported then
      let s := s.emit (.touch (leBytes 1 a ++ [0x00, 0x08]))
      let s := s.emit (.touch (leBytes 1 a ++ [0x00, 0x01]))
      (s.updOper (fun o => { o with dev := some d })).setTouch 2
    else s.setTouch 4

/-- A failed read of the report (R363). -/
def State.touchFail (s : State) (now : Bool) : State :=
  let s := (s.inc 0xB002 0xD).updOper (fun o => { o with fails := o.fails + 1 })
  if now || decide (3 ≤ s.oper.fails) then
    ((s.updOper (fun o => { o with contacts := [], retryAt := s.now + tuSec 1 })).setTouch 3).setN 0xB002 0xB 0
  else s

/-- Mapped position of a contact (R364): rotation, mirror, then the map onto the canvas. -/
def State.mapTouch (s : State) (d : TouchDev) (x y : Int) : Int × Int :=
  let rx := d.xMax - d.xMin + 1
  let ry := d.yMax - d.yMin + 1
  let px := x - d.xMin
  let py := y - d.yMin
  let o := s.cm 0xB002 8
  let (ax, ay, sx, sy) := match o % 4 with
    | 0 => (px, py, rx, ry)
    | 1 => (ry - 1 - py, px, ry, rx)
    | 2 => (rx - 1 - px, ry - 1 - py, rx, ry)
    | _ => (py, rx - 1 - px, ry, rx)
  let ax := if o.testBit 2 then sx - 1 - ax else ax
  let m := s.cm 0xB002 7
  ((bitsOf m 63 48 : Nat) + ax * (bitsOf m 31 16 : Nat) / sx, (bitsOf m 47 32 : Nat) + ay * (bitsOf m 15 0 : Nat) / sy)

/-- Whether a zone record contains a position. -/
def zoneHas (b : List Byte) (x y : Int) : Bool :=
  let zx : Int := fieldAt b 1 0
  let zy : Int := fieldAt b 3 2
  decide (zx ≤ x) && decide (x < zx + fieldAt b 5 4) && decide (zy ≤ y) && decide (y < zy + fieldAt b 7 6)

def zoneTrigger (b : List Byte) : Nat := fieldAt b 11 11

def State.zoneTable (s : State) : List Byte := s.lvb (0xB010 + s.cm 0xB002 6) 1

/-- A zone fires: its count and its action, whose channel is the zone table's. -/
def State.fireZone (s : State) (z : Nat) (b : List Byte) : State :=
  let c := s.cm 0xB002 6
  let s := s.setB (0xB010 + c) 2 (bumpU32 (s.lvb (0xB010 + c) 2) z)
  s.trigger c (fieldAt b 10 10 % 16) (fieldAt b 9 9) (fieldAt b 15 12) (fieldAt b 8 8)

/-- A contact touches down (R365): bound to the lowest enabled zone that contains it. -/
def State.touchDown (s : State) (p : TouchPoint) (x y : Int) : State :=
  let t := s.zoneTable
  let z := (List.range 64).find? (fun i => let b := recAt t 16 i
    (zoneTrigger b).testBit 7 && zoneHas b x y)
  let bound := z.map (fun i => (i, recAt t 16 i))
  let fires := match bound with | some e => decide (zoneTrigger e.2 % 4 = 2) | none => false
  let s := s.updOper (fun o => { o with contacts := o.contacts ++ [⟨p.id, x, y, bound, s.now, true, fires⟩] })
  match bound with
  | some e => if fires then s.fireZone e.1 e.2 else s
  | none => s

/-- A contact that is down moves or lifts. -/
def State.touchMove (s : State) (k : Contact) (p : TouchPoint) (x y : Int) : State :=
  let inside := match k.zone with | some e => zoneHas e.2 x y | none => true
  if p.tip then
    s.updOper (fun o => { o with contacts := o.contacts.map (fun q =>
      if q.id = k.id then { q with x := x, y := y, inside := q.inside && inside } else q) })
  else
    let s := s.updOper (fun o => { o with contacts := o.contacts.filter (fun q => decide (q.id ≠ k.id)) })
    match k.zone with
    | some e =>
      if decide (zoneTrigger e.2 % 4 = 0) && inside && !k.fired && decide (s.now < k.downAt + tuMs (s.lv 0xB000 3))
      then s.fireZone e.1 e.2 else s
    | none => s

def State.touchPoint (s : State) (d : TouchDev) (p : TouchPoint) : State :=
  let xy := s.mapTouch d p.x p.y
  match s.oper.contacts.find? (fun q => decide (q.id = p.id)) with
  | some k => s.touchMove k p xy.1 xy.2
  | none => if p.tip && decide (s.oper.contacts.length < 10) then s.touchDown p xy.1 xy.2 else s

/-- A read of the input report begins. -/
def State.touchReadStart (s : State) : State :=
  (s.emit (.touch (leBytes 1 (s.cm 0xB002 2)))).updOper (fun o => { o with reading := true })

/-! LEDs (R361). -/

/-- Length of the on and of the off phase of an LED's blink; none where it does not blink. -/
def State.ledPhases (s : State) (n : Nat) : Option (Nat × Nat) :=
  match s.lv (0xB008 + n) 1 with
  | 1 =>
    let per := s.lv (0xB008 + n) 3
    let on := min per (s.lv (0xB008 + n) 4)
    some (tuMs on, tuMs (per - on))
  | 2 => match s.sys.mode with
    | .laid => some (tuMs 500, tuMs 500)
    | .damped => some (tuMs 125, tuMs 125)
    | _ => none
  | _ => none

/-- ALERT_N is asserted (R317). -/
def State.alert (s : State) : Bool := (List.range 20).any (fun g => decide ((s.lv (0x9000 + g) 1 &&& s.lv (0x9000 + g) 3) ≠ 0))

/-- Duty of an LED output now, in 1/4096. -/
def State.ledDuty (s : State) (n : Nat) : Nat :=
  if !s.running then 0 else
  let duty := s.lv (0xB008 + n) 2
  match s.lv (0xB008 + n) 1 with
  | 0 => duty
  | 3 => if s.alert || decide (s.pwr.sag = 5) then duty else 0
  | 2 => if s.sys.mode = .lit then duty else if (s.oper.leds.get (true, 0) n).1 then duty else 0
  | _ => if (s.oper.leds.get (true, 0) n).1 then duty else 0

/-! Plugging (R367). -/

/-- A plug event (`what` 0) or unplug event (1) of an HDMI port. -/
def State.plugEvent (s : State) (p what : Nat) : State :=
  let s := if s.operOn then s.raise { source := src 18 (9 + 2 * what + p), init := blockInit 0 54 } else s
  s.triggerRec (recAt (s.lvb 0xB020 1) 8 (2 * p + what))

/-! Commands. -/

/-- KEY_DEBOUNCED_CHANGE (R360). -/
def execKeyDebouncedChange (t : Nat) (k : Fin 8) (pressed : Bool) (s : State) : Host.Outcome State Fault Refusal :=
  act t (fun s =>
    if !s.operOn then s else
    let x := s.oper.keys.get {} k
    if pressed then
      if x.pressed.isSome then s else
      (s.updOper (fun o => { o with keys := o.keys.put {} k { pressed := some s.now } })).setN 0xB000 4 (setBit (s.lv 0xB000 4) k true)
    else
      match x.pressed with
      | none => s
      | some m =>
        let s := (s.updOper (fun o => { o with keys := o.keys.put {} k {} })).setN 0xB000 4 (setBit (s.lv 0xB000 4) k false)
        if !x.long && decide (s.now < m + tuMs (s.lv 0xB000 3)) then s.keyPress k (2 * k) else s) s

/-- KEY_LONG_PRESS (R360). -/
def execKeyLongPress (t : Nat) (k : Fin 8) (s : State) : Host.Outcome State Fault Refusal :=
  act t (fun s =>
    let x := s.oper.keys.get {} k
    match x.pressed with
    | some m =>
      if s.operOn && !x.long && decide (m + tuMs (s.lv 0xB000 3) ≤ s.now) then
        (s.updOper (fun o => { o with keys := o.keys.put {} k { x with long := true } })).keyPress k (2 * k + 1)
      else s
    | none => s) s

/-- TOUCH_INT (R363). -/
def execTouchInt (t : Nat) (s : State) : Host.Outcome State Fault Refusal :=
  act t (fun s => if s.running && decide (s.lv 0xB002 9 = 2) && decide (s.cm 0xB002 5 = 0) then s.touchReadStart else s) s

/-- TOUCH_POLL (R363): every TCH_POLL ms. -/
def execTouchPoll (t : Nat) (s : State) : Host.Outcome State Fault Refusal :=
  act t (fun s => 
    if s.running && decide (s.lv 0xB002 9 = 2) && decide (s.cm 0xB002 5 ≠ 0) && decide (s.oper.polledAt + tuMs (s.cm 0xB002 5) ≤ s.now) then
      (s.updOper (fun o => { o with polledAt := s.now })).touchReadStart
    else s) s

/-- TOUCH_REPORT_READ (R363 to R365). -/
def execTouchReportRead (t : Nat) (res : TouchRead) (s : State) : Host.Outcome State Fault Refusal :=
  act t (fun s =>
    if !(s.oper.reading && decide (s.lv 0xB002 9 = 2)) then s else
    let s := s.updOper (fun o => { o with reading := false })
    match res, s.oper.dev with
    | .nack, _ => s.touchFail true
    | .failed, _ => s.touchFail false
    | .report len points, some d =>
      if d.maxLen < len then s.touchFail true
      else
        let s := (s.inc 0xB002 0xC).updOper (fun o => { o with fails := 0 })
        let s := eachIn points (fun p s => s.touchPoint d p) s
        s.setN 0xB002 0xB s.oper.contacts.length
    | .report _ _, none => s) s

/-- TOUCH_HOLD (R365). -/
def execTouchHold (t contact : Nat) (s : State) : Host.Outcome State Fault Refusal :=
  act t (fun s =>
    match s.oper.contacts.find? (fun k => decide (k.id = contact)) with
    | some k =>
      match k.zone with
      | some e =>
        if decide (zoneTrigger e.2 % 4 = 1) && k.inside && !k.fired && decide (k.downAt + tuMs (s.lv 0xB000 3) ≤ s.now) then
          (s.updOper (fun o => { o with contacts := o.contacts.map (fun q =>
            if q.id = contact then { q with fired := true } else q) })).fireZone e.1 e.2
        else s
      | none => s
    | none => s) s

/-- TOUCH_RETRY (R363). -/
def execTouchRetry (t : Nat) (dev : Option TouchDev) (s : State) : Host.Outcome State Fault Refusal :=
  act t (fun s => if s.running && decide (s.lv 0xB002 9 = 3) && decide (s.oper.retryAt ≤ s.now) then s.touchInit dev else s) s

/-- LED_BLINK_TIMER (R361). -/
def execLedBlinkTimer (t : Nat) (n : Fin 4) (s : State) : Host.Outcome State Fault Refusal :=
  act t (fun s =>
    let x := s.oper.leds.get (true, 0) n
    match s.ledPhases n with
    | some p =>
      if s.running && decide (x.2 + (if x.1 then p.1 else p.2) ≤ s.now) then
        let on := if x.1 then decide (p.2 = 0) else decide (p.1 ≠ 0)
        s.updOper (fun o => { o with leds := o.leds.put (true, 0) n (on, s.now) })
      else s
    | none => s) s

end Sys2Proof.Machine
end

