-- ==== Sys2Proof/Machine/Inputs.lean ====
section
/-!
DEFINITION. Inputs (chapter "Inputs and references", R150 to R166): capture into frame buffers, ST 2110-20 ingest, HDMI
sinks, the library and relay; and the commands that bring pictures in.

Capture inputs are numbered: ingest stream s is s, HDMI sink p is 16 + p, relay-in slot r is 18 + r.
-/
namespace Sys2Proof.Machine

def State.updInp (s : State) (f : Inputs → Inputs) : State := { s with inp := f s.inp }
def State.input (s : State) (i : Nat) : Input := s.inp.ins.get {} i
def State.updInput (s : State) (i : Nat) (f : Input → Input) : State :=
  s.updInp (fun x => { x with ins := x.ins.upd {} i f })
def State.hdmi (s : State) (p : Nat) : Hdmi := s.inp.hdmi.get {} p
def State.updHdmi (s : State) (p : Nat) (f : Hdmi → Hdmi) : State :=
  s.updInp (fun x => { x with hdmi := x.hdmi.upd {} p f })

/-- Index of the objects of an input. -/
def inObj (i : Nat) : Nat := if i < 16 then 0x2100 + i else if i < 18 then 0x2000 + (i - 16) else 0x2190 + (i - 18)

def State.inputOn (s : State) (i : Nat) : Bool := decide (s.cm (inObj i) 1 = 1)

/-- BUF_FRAMES, SYNC_MODE LOCKED, LOCK_DELAY and SKEW_MAX (2^-40 ns) of an input; a slot takes 1 ms for SKEW_MAX. -/
def State.bufFrames (s : State) (i : Nat) : Nat :=
  s.cm (inObj i) (if i < 16 then 0x14 else if i < 18 then 5 else 6)
def State.locked (s : State) (i : Nat) : Bool :=
  if i < 16 then decide (s.cm (inObj i) 0x11 = 1) else if i < 18 then false else decide (s.cm (inObj i) 4 = 1)
def State.lockDelay (s : State) (i : Nat) : Nat := nsCtr (s.cm (inObj i) (if i < 16 then 0x12 else 5))
def State.skewMax (s : State) (i : Nat) : Nat := if i < 16 then usCtr (s.cm (inObj i) 0x13) else usCtr 1000

/-- Counters that only some inputs have: FRAMES_INCOMPLETE, FRAMES_SKIPPED. -/
def State.countIncomplete (s : State) (i : Nat) : State :=
  s.inc (inObj i) (if i < 16 then 0x1B else if i < 18 then 0xF else 8)
def State.countSkipped (s : State) (i : Nat) : State :=
  if i < 16 then s.inc (inObj i) 0x1C else if i < 18 then s.inc (inObj i) 0xE else s

/-- The part that an input's events name: its capture unit, or the block of the HDMI sink. -/
def State.inputInit (s : State) (i : Nat) : Nat :=
  if 16 ≤ i ∧ i < 18 then blockInit (i - 16) 49 else blockInit ((s.input i).unit / 4) (28 + (s.input i).unit % 4)

/-- The source of group 7 of an input, and its event. -/
def State.inputEv (s : State) (i : Nat) : Ev :=
  { source := src 7 (if i < 16 then i else if i < 18 then 16 + (i - 16) else 20 + (i - 18)), dom := domInput i, init := s.inputInit i }

/-! Frame buffers (R151 to R154). -/

/-- Whether stripes of a composed frame are still to be read: the canvas has not finished it (R129). -/
def State.frameOpen (s : State) (c f : Nat) : Bool :=
  (s.chRunning c && decide (f = s.frameNo c) && decide ((s.chanOf c).next < nStripes s.comm c)) ||
  s.pipe.stripes.any (fun x => decide (x.c = c) && decide (x.f = f) && !x.composed && !x.abandoned && !x.dead)

/-- Whether some canvas has latched a frame of an input, or has not finished one in which it had. -/
def State.isLatched (s : State) (i id : Nat) : Bool :=
  s.comp.any (fun e => e.2.layers.any (fun l => decide (l.2.from_ = i) &&
    (match l.2.latched with | some f => decide (f.id = id) | none => false)) ||
    e.2.frames.any (fun g => g.uses.contains (i, id) && s.frameOpen e.1 g.f))

/-- Newest complete frame of a ring. -/
def newest (r : List SrcFrame) : Option Nat := maxList (r.map SrcFrame.id) |> fun m => if r.isEmpty then none else some m

/-- A buffer found for a new frame (R151): a free one, else that of the oldest frame neither latched nor newest. -/
def State.makeRoom (s : State) (i : Nat) : State × Bool :=
  let x := s.input i
  let used := x.ring.length + (x.busy.filter (fun b => !b.skipped)).length
  if used < s.bufFrames i then (s, true)
  else
    match x.ring.find? (fun f => !(s.isLatched i f.id) && decide (some f.id ≠ newest x.ring)) with
    | some f => (s.updInput i (fun y => { y with ring := y.ring.filter (fun g => decide (g.id ≠ f.id)) }), true)
    | none => (s, false)

/-- The frame in capture with a key; a new one takes a buffer or is counted as skipped. The first packet of a later frame, by frame time,
starts SKEW_MAX for the earlier ones (R152); a frame that was completed or discarded does not open again. -/
def State.openFrame (s : State) (i : Nat) (new : Capturing) : State :=
  let x := s.input i
  if x.busy.any (fun b => decide (b.key = new.key)) || x.closed.any (fun c => decide (c.1 = new.key)) then s
  else
    let r := s.makeRoom i
    let s := if r.2 then r.1 else r.1.countSkipped i
    let later := (x.busy.filter (fun b => decide (new.tsrc < b.tsrc))).map Capturing.firstAt ++
      (x.closed.filter (fun c => decide (new.tsrc < c.2.1))).map (fun c => c.2.2.1)
    let at_ := match later with | [] => none | m :: ms => some (ms.foldl min m)
    s.updInput i (fun y => { y with
      busy := y.busy.map (fun b => if b.tsrc < new.tsrc then { b with laterAt := some (b.laterAt.getD s.mono) } else b) ++
        [{ new with skipped := !r.2, firstAt := s.mono, laterAt := at_ }] })

/-- A frame in capture ends, completed or discarded. -/
def State.closeFrame (s : State) (i key : Nat) : State :=
  s.updInput i (fun y => { y with
    busy := y.busy.filter (fun b => decide (b.key ≠ key)),
    closed := ((y.busy.filter (fun b => decide (b.key = key))).map (fun b => (b.key, b.tsrc, b.firstAt, s.mono)) ++ y.closed).filter
      (fun c => decide (s.mono ≤ c.2.2.2 + nsCtr 1000000000)) })

/-- Key of a sample in a frame in capture. -/
def sampleKey (plane pos : Nat) : Nat := plane * 2 ^ 32 + pos

/-- Samples `xs` written from position `pos` of a plane. -/
def writeRun (m : Tbl (Option Nat)) (plane : Nat) : Nat → List Nat → Tbl (Option Nat)
  | _, [] => m
  | pos, x :: xs => writeRun (m.put none (sampleKey plane pos) (some x)) plane (pos + 1) xs

/-- Sizes of the planes of a picture. -/
def planeSizes (w h samp : Nat) : List Nat :=
  if samp = 1 then [w * h, ceilDiv w 2 * h, ceilDiv w 2 * h]
  else if samp = 3 then [w * h, ceilDiv w 2 * ceilDiv h 2, ceilDiv w 2 * ceilDiv h 2]
  else [w * h, w * h, w * h]

/-- The planes of a frame all of whose samples are written. -/
def gatherPlanes (m : Tbl (Option Nat)) (w h samp : Nat) : Option (List (List Nat)) :=
  let ps := (List.range 3).map (fun p => (List.range ((planeSizes w h samp).getD p 0)).map (fun i => m.get none (sampleKey p i)))
  if ps.all (fun p => p.all Option.isSome) then some (ps.map (fun p => p.map (fun o => o.getD 0))) else none

/-- A complete frame enters the ring (R152, R154): released on completion, or LOCKED at Tsrc + LOCK_DELAY; late when it
completes after that. -/
def State.frameDone (s : State) (i : Nat) (pic : Pic) (tsrc : Int) : State :=
  let x := s.input i
  let rel := (tsrc + (s.lockDelay i : Nat)).toNat
  let lock := s.locked i
  let late := lock && decide (rel < s.mono)
  let f : SrcFrame := {
    id := x.nextId, pic := pic, tsrc := tsrc, doneAt := s.mono, releaseAt := if lock && !late then rel else s.mono,
    released := !lock || late }
  let s := s.updInput i (fun y => { y with ring := y.ring ++ [f], nextId := y.nextId + 1 })
  if late then
    let s := if i < 16 then s.inc (inObj i) 0x1D else s
    let due := match x.lateEventAt with | some m => decide (m + tuSec 1 ≤ s.now) | none => true
    if due then (s.updInput i (fun y => { y with lateEventAt := some s.now })).raise (s.inputEv i) else s
  else s

/-- A frame in capture discarded (R152). -/
def State.dropFrame (s : State) (i key : Nat) : State :=
  match (s.input i).busy.find? (fun b => decide (b.key = key)) with
  | some b =>
    let s := s.closeFrame i key
    if b.skipped then s
    else
      let s := s.countIncomplete i
      if 18 ≤ i then s.raise (s.inputEv i) else s
  | none => s

/-! ST 2110-20 ingest (R155, R157). -/

/-- Bytes of a pgroup, and the pixels of a row that it covers; in 4:2:0 a pgroup spans two lines (ST 2110-20, assumption 114). -/
def pgroup (samp depth : Nat) : Nat × Nat :=
  if samp = 1 then (depth / 2, 2)
  else if samp = 3 then (if depth = 8 then (6, 2) else if depth = 10 then (15, 4) else (9, 2))
  else if depth = 8 then (3, 1) else if depth = 10 then (15, 4) else (9, 2)

/-- Whether an SRD lies in the configured format (R155): whole pgroups inside a row, and in BPM whole blocks of 180 bytes unless it ends
its row (assumption 114). -/
def srdOk (w h samp depth packing : Nat) (d : Srd) : Bool :=
  let g := pgroup samp depth
  let px := d.len / g.1 * g.2
  decide (d.row < h) && decide (d.offset < w) && decide (0 < d.len) && decide (d.len % g.1 = 0) && decide (d.offset % g.2 = 0) &&
    decide (d.offset + px < w + g.2) && (samp ≠ 3 || decide (d.row % 2 = 0)) &&
    (decide (packing = 0) || decide (d.len % 180 = 0) || decide (w ≤ d.offset + px))

/-- An SRD's samples written. Chroma is half as wide in 4:2:2 and 4:2:0; a 4:2:0 row carries two lines of Y. -/
def writeSrd (m : Tbl (Option Nat)) (w samp : Nat) (d : Srd) : Tbl (Option Nat) :=
  let half := decide (samp = 1 ∨ samp = 3)
  let luma := fun i => (d.planes.getD i []).take (w - d.offset)
  let chroma := fun i => (d.planes.getD i []).take (if half then ceilDiv w 2 - d.offset / 2 else w - d.offset)
  if samp = 3 then
    let cpos := d.row / 2 * ceilDiv w 2 + d.offset / 2
    writeRun (writeRun (writeRun (writeRun m 0 (d.row * w + d.offset) (luma 0)) 0 ((d.row + 1) * w + d.offset) (luma 1)) 1 cpos (chroma 2)) 2 cpos
      (chroma 3)
  else
    let cpos := if samp = 1 then d.row * ceilDiv w 2 + d.offset / 2 else d.row * w + d.offset
    writeRun (writeRun (writeRun m 0 (d.row * w + d.offset) (luma 0)) 1 cpos (chroma 1)) 2 cpos (chroma 2)

/-- The instant nearest to now whose 90 kHz count modulo 2^32 is the RTP timestamp, of `Clock.mono`. -/
def State.tsrcOf (s : State) (rtp : Nat) : Int :=
  let n : Int := (s.ctrNow : Int) * 90000 / (1000000000 * 2 ^ 40)
  let d := signed 32 (unsigned 32 ((rtp : Int) - n))
  (n + d) * (1000000000 * 2 ^ 40) / 90000 - s.clk.off

/-- IN_STATE (Table 6-8) of a stream in use: a leg that has not delivered, or is lost, leaves one leg. -/
def State.showIngest (s : State) (i : Nat) : State :=
  let x := s.input i
  let out := fun (l : Nat) => x.legLost.getD l false || (x.legAt.getD l none).isNone
  let two := decide (s.cm (inObj i) 3 ≠ 0xFF)
  s.setN (inObj i) 0x15 (
    if x.formatErr then 4
    else if two then (if out 0 && out 1 then 1 else if out 0 || out 1 then 3 else 2)
    else if out 0 then 1 else 2)

/-- A line of a local input sent by relay-out entries (R166): one copy on each port of the tree to RELAY_DEST, held for
that port's forwarder. -/
def relayFrame (me : Nat) (l : RelayLine) : FlueFrame :=
  { dest := l.dests.headD 0xFFFF, src := me, cls := 3, typ := 0x30, tag := l.origin * 2 ^ 22 + l.entry * 2 ^ 19 + l.line % 2 ^ 19,
    pay := [(l.tsrc / 2 ^ 24), l.w, l.h, l.samp, l.depth, l.colour, l.dests.length] ++ l.dests ++
      l.planes.flatMap (fun p => p.length :: p) }

/-- A line queued toward its destinations, by the out port of each. -/
def State.relayOut (s : State) (l : RelayLine) : State :=
  eachBelow 3 (fun p s =>
    let ds := l.dests.filter (fun d => decide ((s.path d).port = p) && s.reaches d)
    if ds.isEmpty then s
    else s.updFlue (fun x => { x with relayQ := x.relayQ ++ [(p, relayFrame s.myId { l with dests := ds })] })) s

/-- Row `y` of a picture's planes, columns `x0` on for `cw` pixels; in 4:2:0 an odd row has no chroma. -/
def rowPart (w samp : Nat) (get : Nat → Nat → Nat) (x0 cw y : Nat) : List (List Nat) :=
  (List.range 3).map (fun p =>
    let half := decide (p ≠ 0) && decide (samp = 1 ∨ samp = 3)
    let pw := if half then ceilDiv w 2 else w
    let py := if p ≠ 0 ∧ samp = 3 then y / 2 else y
    if p ≠ 0 ∧ samp = 3 ∧ y % 2 = 1 then []
    else (List.range (if half then ceilDiv cw 2 else cw)).map (fun j => get p (py * pw + (if half then x0 / 2 else x0) + j)))

/-- A captured line sent by the relay-out entries of its input, as the full line or the crop's part of it (R166). -/
def State.relayLineOut (s : State) (i w h samp depth colour y : Nat) (tsrc : Int) (get : Nat → Nat → Nat) : State :=
  let code := if i < 16 then 0x10 + i else 0x20 + (i - 16)
  if 18 ≤ i then s else
  eachBelow 8 (fun r s =>
    if decide (s.cm (0x2180 + r) 1 = 1) && decide (s.cm (0x2180 + r) 2 = code) && !(s.inp.relay.get {} r).suspended then
      let crop := s.cm (0x2180 + r) 3
      let full := decide (bitsOf crop 31 16 = 0)
      let (x0, y0) := if full then (0, 0) else (bitsOf crop 63 48, bitsOf crop 47 32)
      let cw := if full then w else min (bitsOf crop 31 16) (w - x0)
      let ch := if full then h else min (bitsOf crop 15 0) (h - y0)
      if y0 ≤ y ∧ y < y0 + ch then s.relayOut {
        dests := u16List (s.cmb (0x2180 + r) 4), origin := s.myId, entry := r, line := y - y0, tsrc := (tsrc + s.clk.off).toNat, w := cw, h := ch,
        samp := samp, depth := depth, colour := colour, planes := rowPart w samp get x0 cw y }
      else s
    else s) s

/-- Whether every sample of a row of a frame in capture has been written. -/
def Capturing.rowWhole (b : Capturing) (y : Nat) : Bool :=
  let half := decide (b.samp = 1 ∨ b.samp = 3)
  let cw := if half then ceilDiv b.w 2 else b.w
  let cy := if b.samp = 3 then y / 2 else y
  (List.range b.w).all (fun j => (b.samples.get none (sampleKey 0 (y * b.w + j))).isSome) &&
  [1, 2].all (fun p => (List.range cw).all (fun j => (b.samples.get none (sampleKey p (cy * cw + j))).isSome))

/-- The rows that a packet completed go out as they are captured (R166). -/
def State.relayRows (s : State) (i key : Nat) (rows : List Nat) : State :=
  eachIn rows (fun y s =>
    match (s.input i).busy.find? (fun b => decide (b.key = key) && !b.skipped) with
    | none => s
    | some b =>
      if b.sent.contains y || decide (b.h ≤ y) || !(b.rowWhole y) then s else
      let s := s.updInput i (fun x => { x with busy := x.busy.map (fun c => if c.key = key then { c with sent := y :: c.sent } else c) })
      s.relayLineOut i b.w b.h b.samp b.depth b.colour y b.tsrc (fun p k => (b.samples.get none (sampleKey p k)).getD 0)) s

/-- Every line of a frame that came whole sent by the relay-out entries of its input. -/
def State.relayFrameOut (s : State) (i : Nat) (pic : Pic) (tsrc : Int) : State :=
  eachBelow pic.h (fun y s => s.relayLineOut i pic.w pic.h pic.samp pic.depth pic.colour y tsrc (fun p k => (pic.planes.getD p []).getD k 0)) s

/-! HDMI sinks (R158 to R161). -/

/-- HPD follows its conditions (R160): enabled, an EDID written since power-up, +5 V debounced high, not in the low
time. -/
def State.hpdWanted (s : State) (p : Nat) : Bool :=
  let x := s.hdmi p
  decide (s.cm (0x2000 + p) 1 = 1) && x.edidWritten && x.plugged && x.lowUntil.isNone

/-- HDMI_STATE (Table 6-7) and HPD itself. While HPD is low with +5 V present no code of the table fits: 0x01 is shown (DESIGN CHOICE,
assumption 115). -/
def State.showHdmi (s : State) (p : Nat) : State :=
  let x := s.hdmi p
  let s := s.updHdmi p (fun y => { y with hpd := s.hpdWanted p })
  s.setN (0x2000 + p) 6 (
    if s.cm (0x2000 + p) 1 = 0 then 0
    else if !x.plugged then 1
    else if x.unsup || (x.locked && x.fmtBad) then 5
    else if x.locked then 4
    else if !(s.hpdWanted p) then 1
    else if x.training then 3 else 2)

/-- The condition of an unsupported timing (R158). -/
def State.hdmiCond (s : State) (p : Nat) : State :=
  s.cond { s.inputEv (16 + p) with source := src 7 (18 + p) } ((s.hdmi p).unsup || ((s.hdmi p).locked && (s.hdmi p).fmtBad))

/-- Lock lost (R161): the frame in capture is discarded, the timing is forgotten. -/
def State.dropLock (s : State) (p : Nat) : State :=
  let x := s.hdmi p
  let s := (s.updHdmi p (fun y => { y with locked := false, unsup := false, fmtBad := false, training := false })).hdmiCond p
  let s := if x.locked && !x.fmtBad then s.countIncomplete (16 + p) else s
  let s := if x.locked || x.unsup then
      ((s.updInput (16 + p) (fun y => { y with busy := [] })).inc (0x2000 + p) 0xC).raise (s.inputEv (16 + p))
    else s
  (if x.locked then s.loseAudio p else s).showHdmi p

/-- HPD pulsed low for HPD_LOW_TIME (R160); a second one during the low time restarts it. -/
def State.pulseHpd (s : State) (p : Nat) : State :=
  let x := s.hdmi p
  if x.hpd || x.lowUntil.isSome then
    ((s.updHdmi p (fun y => { y with lowUntil := some (s.now + tuMs (s.lv (0x2000 + p) 4)) })).dropLock p).showHdmi p
  else s

/-- A new EDID in force (R159, R160). -/
def State.edidTaken (s : State) (p : Nat) : State :=
  let s := s.updHdmi p (fun y => { y with edidWritten := true })
  (s.pulseHpd p).showHdmi p

/-- Live objects of a sink written while frames arrive, taken at the frame boundary (R170); once none arrive they are taken at once. -/
def State.inputBoundary (s : State) (p : Nat) : State :=
  let mine := fun (e : Nat × Val × Nat) => decide (keyIdx e.1 = 0x2000 + p)
  let due := s.wait.filter mine
  let s := { s with live := due.foldl (fun m e => objPut m e.1 e.2.1) s.live, wait := s.wait.filter (fun e => !mine e) }
  if due.any (fun e => decide (keySub e.1 = 2)) then s.edidTaken p else s

def State.loseHdmi (s : State) (p : Nat) : State := (s.dropLock p).inputBoundary p

/-- A read of SCDC (R158, R159). Max_FRL_Rate is FRL_MAX; version, scrambler status, status flags and the character error counters have the
places of HDMI 2.1 (PRESUMED, assumption 116); every other byte reads as the source wrote it. -/
def State.scdcByte (s : State) (p off : Nat) : Nat :=
  let x := s.hdmi p
  let on := x.locked || x.unsup
  let lanes := s.lv (0x2000 + p) 7 / 16
  let err := fun (lane : Nat) (high : Bool) =>
    let v := min 0x7FFF (x.ced.getD lane 0)
    if high then v / 256 + (if on then 128 else 0) else v % 256
  let errs := (List.range 6).map (fun i => err (i / 2) (decide (i % 2 = 1))) ++ [err 3 false, err 3 true]
  if off = Config.scdcMaxFrlAt then s.cm (0x2000 + p) 3
  else if off = 0x01 then 1
  else if off = 0x21 then (if on && bitAt (x.scdc.get 0 0x20) 0 then 1 else 0)
  else if off = 0x40 then (if on then 15 + (if lanes = 4 then 16 else 0) else 0) + (if s.hpdWanted p then 64 else 0)
  else if 0x50 ≤ off ∧ off < 0x56 then errs.getD (off - 0x50) 0
  else if off = 0x56 then (256 - sumList errs % 256) % 256
  else if off = 0x57 ∨ off = 0x58 then errs.getD (off - 0x51) 0
  else x.scdc.get 0 off

/-- A byte of the EDID, SCDC or segment the source reads. -/
def State.ddcByte (s : State) (p addr off : Nat) : Byte :=
  let x := s.hdmi p
  if addr = 0x50 then (s.lvb (0x2000 + p) 2).getD (256 * x.segment + off) 0
  else BitVec.ofNat 8 (s.scdcByte p off)

/-- The source asks for an FRL rate (R158): training begins, or TMDS for rate 0; on a link that is locked it asks for retraining (R161). -/
def State.frlRequest (s : State) (p rate : Nat) : State :=
  if !(s.hpdWanted p) then s else
  let s := if (s.hdmi p).locked || (s.hdmi p).unsup then s.loseHdmi p else s
  (s.updHdmi p (fun y => { y with training := decide (rate % 16 ≠ 0) })).showHdmi p

/-- Character errors that SCDC counts (R158), and their sum in FRL_ERRORS. -/
def State.countErrors (s : State) (p : Nat) (errors : List Nat) : State :=
  let s := s.updHdmi p (fun y => { y with ced := (List.range 4).map (fun l => min 0x7FFF (y.ced.getD l 0 + errors.getD l 0)) })
  if sumList errors = 0 then s else s.addN (0x2000 + p) 0xD (sumList errors)

/-! Library (R162 to R165). -/

def State.item (s : State) (n : Nat) : Item := s.inp.items.get {} n
def State.updItem (s : State) (n : Nat) (f : Item → Item) : State :=
  s.updInp (fun x => { x with items := x.items.upd {} n f })

def samplesPerPixel (format : Nat) : Nat := if format = 1 then 2 else if format = 2 ∨ format = 4 then 3 else 4

/-- Space of a definition (R163), in bytes. -/
def itemSpace (w h format frames : Nat) : Nat := ceilDiv (w * h * samplesPerPixel format * 2 * frames) 4096 * 4096

/-- Stove and space of every copy of an item. -/
def Item.places (x : Item) : List (Nat × Nat) :=
  (x.cur.toList ++ x.second.toList).map (fun c => (c.stove, c.space)) ++ x.old.map (fun o => (o.2.2, o.2.1))
def Item.space (x : Item) : Nat := sumList (x.places.map Prod.snd)

/-- Space of the library in use, and LIB_FREE. -/
def State.libUsed (s : State) : Nat := sumList (s.inp.items.map (fun e => e.2.space))
/-- Space in use on a stove. -/
def State.libOn (s : State) (st : Nat) : Nat :=
  sumList (s.inp.items.flatMap (fun e => (e.2.places.filter (fun p => decide (p.1 = st))).map Prod.snd))
def State.showLib (s : State) : State := s.setN 0x2300 2 (s.cm 0x2300 1 * 2 ^ 30 - s.libUsed)

/-- Whether an enabled layer or a SAFETY_ITEM uses an item (R164), of whichever channel. -/
def itemUsed (m : Tbl Val) (n : Nat) : Bool :=
  (List.range 16).any (fun c => decide (cfg m (0x3000 + c) 7 = n) ||
    (List.range 16).any (fun l => decide (layerCfg m c l 1 = 1) && decide (layerCfg m c l 2 = 0x30) && decide (layerCfg m c l 3 = n)))

/-- The copy that upload goes into: the second where there is one, else the first while it is not done. -/
def Item.target (x : Item) : Option ItemCopy :=
  match x.second with
  | some c => some c
  | none => if x.curDone then none else x.cur

def Item.setTarget (x : Item) (c : ItemCopy) : Item :=
  match x.second with
  | some _ => { x with second := some c }
  | none => { x with cur := some c }

/-- State of an item in ITEM_TABLE. -/
def Item.code (x : Item) : Nat :=
  match x.cur with
  | none => 0
  | some _ => if x.curDone then (if x.second.isSome then 3 else 2) else 1

/-- Entry of ITEM_TABLE (Table 6-11). -/
def Item.entry (x : Item) : List Byte :=
  leBytes 4 x.code ++ leBytes 4 ((x.cur.map ItemCopy.space).getD 0 / 4096)

/-- Value of an object 2300:04 to 0E of an item: the live one while the item is selected. -/
def State.itemObj (s : State) (n sub : Nat) : Nat :=
  if s.lv 0x2300 3 = n then s.lv 0x2300 sub
  else ((s.item n).defs.get (dfltOf (key 0x2300 sub)) (key 0x2300 sub)).nat

/-- ITEM_SEL written (Table 6-11): the objects it addresses change places. -/
def State.selectItem (s : State) (n : Nat) : State :=
  let old := s.lv 0x2300 3
  if old = n then s else
  let keys := (List.range 11).map (fun i => key 0x2300 (4 + i))
  let s := s.updItem old (fun x => { x with defs := keys.foldl (fun m k => m.put (dfltOf k) k (objGet s.live k)) x.defs })
  let d := (s.item n).defs
  let s := { s with live := keys.foldl (fun m k => objPut m k (d.get (dfltOf k) k)) s.live }
  s.setN 0x2300 3 n

/-- ITEM_ALLOC (R163, R164, R292): 0 or an abort code. -/
def State.itemAlloc (s : State) : State × Nat :=
  let n := s.lv 0x2300 3
  if 1 ≤ s.pwr.sag then (s, 0x0A) else
  let w := s.lv 0x2300 4
  let h := s.lv 0x2300 5
  let fmt := s.lv 0x2300 6
  let frames := s.lv 0x2300 8
  let space := itemSpace w h fmt frames
  let x := s.item n
  let used := itemUsed s.comm n && x.curDone
  let freed := x.second.toList ++ (if used then [] else x.cur.toList)
  let left : Nat → Nat := fun st => s.cm 0x2300 1 * 2 ^ 29 +
    sumList ((freed.filter (fun c => decide (c.stove = st))).map ItemCopy.space) - s.libOn st
  let stove := if left 0 < left 1 then 1 else 0
  if w = 0 ∨ h = 0 ∨ s.cm 0x2300 1 * 2 ^ 30 < s.libUsed - sumList (freed.map ItemCopy.space) + space ∨ left stove < space then (s, 0x0C)
  else
    let c : ItemCopy := { w := w, h := h, format := fmt, colour := s.lv 0x2300 7, frames := frames, rate := s.lv 0x2300 9, space := space, stove := stove,
                          ver := s.inp.nextVer }
    let s := s.updInp (fun i => { i with nextVer := i.nextVer + 1 })
    let s := s.updItem n (fun x => if used then { x with second := some c } else { x with cur := some c, curDone := false, second := none })
    (s.showLib, 0)

/-- Lines of ITEM_DATA, by `len` bytes each. -/
def cutLines (len : Nat) (b : List Byte) : List (List Nat) :=
  (List.range (b.length / max 1 len)).map (fun i =>
    let row := (b.drop (i * len)).take len
    (List.range (len / 2)).map (fun j => fieldAt row (2 * j + 1) (2 * j)))

/-- ITEM_DATA (R163): whole lines, each sample with 0 in [15:10]; LINE_SEL and FRAME_SEL advance. -/
def State.itemData (s : State) (b : List Byte) : State × Nat :=
  let n := s.lv 0x2300 3
  if 1 ≤ s.pwr.sag then (s, 0x0A) else
  match (s.item n).target with
  | none => (s, 0x0B)
  | some c =>
    let len := c.w * samplesPerPixel c.format * 2
    let pos := s.lv 0x2300 0xD * c.h + s.lv 0x2300 0xE
    let rows := cutLines len b
    if b.length % max 1 len ≠ 0 ∨ rows.any (fun r => r.any (fun v => decide (1024 ≤ v))) then (s, 0x05)
    else if c.frames * c.h < pos + rows.length then (s, 0x06)
    else
      let lines := (List.range rows.length).foldl (fun m i => m.put none (pos + i) (some (rows.getD i []))) c.lines
      let p := pos + rows.length
      let s := s.updItem n (fun x => x.setTarget { c with lines := lines })
      ((s.setN 0x2300 0xD (p / max 1 c.h)).setN 0x2300 0xE (p % max 1 c.h), 0)

/-- Old copies that no canvas has latched are freed (R164). -/
def State.freeOld (s : State) : State :=
  (s.updInp (fun x => { x with items := x.items.map (fun (e : Nat × Item) =>
    (e.1, { e.2 with old := e.2.old.filter (fun o => s.isLatched (32 + e.1) o.1) })) })).showLib

/-- ITEM_DONE (R163, R164): a second copy replaces the first, which stays while a canvas has it latched. -/
def State.itemDone (s : State) : State × Nat :=
  let n := s.lv 0x2300 3
  match (s.item n).target with
  | none => (s, 0x0B)
  | some c =>
    if c.lines.length < c.frames * c.h then (s, 0x0B)
    else
      let s := s.updItem n (fun x => match x.second with
        | some c2 => { x with cur := some c2, second := none, curDone := true, firstLatch := none,
                              old := x.old ++ (x.cur.map (fun a => (a.ver, a.space, a.stove))).toList }
        | none => { x with curDone := true, firstLatch := none })
      (s.freeOld, 0)

/-- ITEM_DELETE (R164). -/
def State.itemDelete (s : State) : State × Nat :=
  let n := s.lv 0x2300 3
  if itemUsed s.comm n then (s, 0x0A)
  else ((s.updItem n (fun x => { x with cur := none, curDone := false, second := none, firstLatch := none })).showLib, 0)

/-- The frame of a clip shown at a frame start T (R165), T and the epoch in 2^-40 ns of the counter. -/
def clipIndex (t epoch : Int) (rate frames : Nat) (once : Bool) : Nat :=
  if t < epoch then 0
  else
    let p := periodOf rate
    let n := ((t - epoch) * (p.2 : Nat) / (p.1 * 1000000000 * 2 ^ 40 : Nat)).toNat
    if once then min n (frames - 1) else n % max 1 frames

/-- One frame of a library copy as a picture (Table 6-4). -/
def ItemCopy.pic (c : ItemCopy) (n : Nat) : Pic :=
  let rows := (List.range c.h).map (fun y => (c.lines.get none (n * c.h + y)).getD [])
  let spp := samplesPerPixel c.format
  let every := fun (d i : Nat) => rows.flatMap (fun r => (List.range (r.length / d)).map (fun j => r.getD (d * j + i) 0))
  let planes := if c.format = 1 then [every 2 0, every 4 1, every 4 3] else (List.range spp).map (every spp)
  { w := c.w, h := c.h, samp := if c.format = 1 then 1 else if c.format ≤ 3 then 2 else 4, depth := 10, colour := c.colour, planes := planes }

/-! Packets of an ingest stream (R157): numbers are 32 bits and compare modulo 2^32. -/

/-- How far number `n` lies ahead of number `a`. -/
def seqAhead (n a : Nat) : Int := signed 32 (unsigned 32 ((n : Int) - (a : Int)))

/-- Whether number `n` lies in a run of `count` from `first`. -/
def inRun (n first count : Nat) : Bool := decide (0 ≤ seqAhead n first) && decide (seqAhead n first < (count : Int))

/-- A run of missing numbers without number `n`: the part before it and the part after it. -/
def splitRun (n first count : Nat) : List (Nat × Nat) :=
  if inRun n first count then
    let d := (seqAhead n first).toNat
    [(first, d), ((n + 1) % 2 ^ 32, count - 1 - d)].filter (fun e => decide (e.2 ≠ 0))
  else [(first, count)]

/-- Whether number `n` lies in what a stream has been sent and was never received, on either leg. -/
def Input.missed (x : Input) (n : Nat) : Bool :=
  x.gaps.any (fun g => inRun n g.1 g.2.1) || x.lost.any (fun g => inRun n g.1 g.2)

/-- Whether number `n` has been received before, though it is no longer kept. -/
def Input.received (x : Input) (n : Nat) : Bool :=
  match x.low, x.high with
  | some l, some h => decide (0 ≤ seqAhead n l) && decide (seqAhead n h ≤ 0) && !(x.missed n)
  | _, _ => false

/-- Whether number `n` is not above the highest of its leg, and the number after one that has already fallen back on it: a sender that
has started again (DESIGN CHOICE, assumption 117). -/
def Input.fellBack (x : Input) (leg n : Nat) : Bool :=
  match x.legHigh.getD leg none with
  | some h => decide (seqAhead n h ≤ 0) && !(x.missed n)
  | none => false
def Input.restarts (x : Input) (leg n : Nat) : Bool := x.fellBack leg n && decide (x.legBack.getD leg none = some n)

/-- A number noted on its leg. -/
def Input.noteLeg (x : Input) (leg n : Nat) : Input :=
  if x.fellBack leg n then { x with legBack := x.legBack.set leg (some ((n + 1) % 2 ^ 32)) }
  else { x with legHigh := x.legHigh.set leg (some (match x.legHigh.getD leg none with | some h => if 0 < seqAhead n h then n else h | none => n)),
                legBack := x.legBack.set leg none }

/-- Missing numbers whose SKEW_MAX has passed are lost on both legs (PKTS_LOST). -/
def State.expireGaps (s : State) (i keep : Nat) : State :=
  let x := s.input i
  let old := x.gaps.filter (fun g => !(decide (s.mono ≤ g.2.2 + keep)))
  let n := sumList (old.map (fun g => g.2.1))
  (if n = 0 then s else s.addN (inObj i) 0x18 n).updInput i (fun y => { y with
    gaps := x.gaps.filter (fun g => decide (s.mono ≤ g.2.2 + keep)), lost := x.lost ++ old.map (fun g => (g.1, g.2.1)) })

/-- The first copy of a number taken: the gap it leaves behind, and the numbers kept for SKEW_MAX. -/
def State.takeNumber (s : State) (i leg n keep : Nat) : State :=
  let x := s.input i
  let fresh := x.restarts leg n
  let x : Input := if fresh then { x with high := none, low := none, gaps := [], lost := [], seen := [], legHigh := [none, none], legBack := [none, none] } else x
  let ahead : Int := match x.high with | some h => seqAhead n h | none => 1
  let gaps := if 1 < ahead then x.gaps ++ [((x.high.getD 0 + 1) % 2 ^ 32, (ahead - 1).toNat, s.mono)]
    else x.gaps.flatMap (fun g => (splitRun n g.1 g.2.1).map (fun e => (e.1, e.2, g.2.2)))
  let y : Input := { x.noteLeg leg n with
    high := some (if 0 < ahead then n else x.high.getD n), low := some (x.low.getD n), gaps := gaps,
    lost := x.lost.flatMap (fun g => splitRun n g.1 g.2),
    seen := (n, s.mono, leg) :: x.seen.filter (fun e => decide (s.mono ≤ e.2.1 + keep)) }
  s.updInput i (fun _ => y)

/-- A packet arrived for a frame in capture, whichever copy it is (R152). -/
def State.touchFrame (s : State) (i key : Nat) : State :=
  s.updInput i (fun y => { y with busy := y.busy.map (fun b => if b.key = key then { b with lastAt := s.mono } else b) })

/-- SKEW_NOW (R157): leg B against leg A over the last second; `e` is the number kept of the first copy. -/
def State.noteSkew (s : State) (i leg : Nat) (e : Nat × Nat × Nat) : State :=
  let s := if e.2.2 ≠ leg then
      let d : Int := if leg = 1 then (s.mono : Int) - e.2.1 else (e.2.1 : Int) - s.mono
      s.updInput i (fun y => { y with skews := ((s.mono, d) :: y.skews).filter (fun k => decide (s.mono ≤ k.1 + nsCtr 1000000000)) })
    else s
  let sk := (s.input i).skews
  s.setN (inObj i) 0x17 (unsigned 32 (roundDivInt (sk.foldl (fun a k => a + k.2) 0) (max 1 sk.length * (1000 * 2 ^ 40))))

/-- A packet's samples written into its frame (R151, R155), and the lines it completed relayed (R166). -/
def State.writePacket (s : State) (i : Nat) (pkt : IngestPkt) : State :=
  let o := inObj i
  let w := s.cm o 0xC
  let h := s.cm o 0xD
  let samp := s.cm o 0xA
  let depth := s.cm o 0xB
  if !(pkt.srds.all (srdOk w h samp depth (s.cm o 0x10))) || decide (3 < pkt.srds.length) then
    (s.inc o 0x1A).updInput i (fun y => { y with badRun := y.badRun + 1 })
  else
    let s := s.updInput i (fun y => { y with badRun := 0, formatErr := false })
    let s := s.openFrame i { key := pkt.rtp, tsrc := s.tsrcOf pkt.rtp, w := w, h := h, samp := samp, depth := depth,
                             colour := s.cm o 0xF, lastAt := s.mono }
    let s := s.updInput i (fun y => { y with busy := y.busy.map (fun b =>
      if b.key = pkt.rtp then { b with lastAt := s.mono, samples := if b.skipped then b.samples else pkt.srds.foldl (fun m d => writeSrd m w samp d) b.samples }
      else b) })
    (s.relayRows i pkt.rtp (pkt.srds.flatMap (fun d => if samp = 3 then [d.row, d.row + 1] else [d.row]))).showIngest i

/-! Commands. -/

/-- INGEST_PACKET_RX (R155, R157): de-duplicated where the stream has two legs, checked and written. -/
def execIngestPacketRx (t : Nat) (i : Fin 16) (pkt : IngestPkt) (s : State) : Host.Outcome State Fault Refusal :=
  act t (fun s =>
    let o := inObj i
    let leg := pkt.leg.val
    let two := decide (s.cm o 3 ≠ 0xFF)
    if !(s.running && s.inputOn i) || decide (pkt.payloadType ≠ s.cm o 9) || (decide (leg = 1) && !two) then s else
    let s := s.updInput i (fun y => { y with legAt := y.legAt.set leg (some s.mono), legLost := y.legLost.set leg false })
    let keep := max (s.skewMax i) 1
    let kept := if two then (s.input i).seen.find? (fun e => decide (e.1 = pkt.seq) && decide (s.mono ≤ e.2.1 + keep)) else none
    match kept with
    | some e =>
      let s := s.updInput i (fun y => y.noteLeg leg pkt.seq)
      ((s.noteSkew i leg e).touchFrame i pkt.rtp).showIngest i
    | none =>
      let s := s.expireGaps i keep
      let x := s.input i
      if two && x.received pkt.seq && !(x.restarts leg pkt.seq) then
        (((s.updInput i (fun y => y.noteLeg leg pkt.seq)).inc o 0x19).touchFrame i pkt.rtp).showIngest i
      else (s.takeNumber i leg pkt.seq keep).writePacket i pkt) s

/-- INGEST_FORMAT_ERROR (R155): a run of 64 bad packets. -/
def execIngestFormatError (t : Nat) (i : Fin 16) (s : State) : Host.Outcome State Fault Refusal :=
  act t (fun s =>
    if s.running && s.inputOn i && decide (64 ≤ (s.input i).badRun) && !(s.input i).formatErr then
      ((s.updInput i (fun y => { y with formatErr := true })).showIngest i).raise (s.inputEv i)
    else s) s

/-- CAPTURE_FRAME_COMPLETE (R152). An HDMI frame comes with its samples, and its buffer is looked for then, not as it starts to arrive
(DESIGN CHOICE, assumption 118); the others' have been written. A frame's end is its sink's frame boundary (R170). -/
def execCaptureFrameComplete (t : Nat) (input : Fin 26) (k : Nat) (hdmi : Option HdmiFrame) (s : State) : Host.Outcome State Fault Refusal :=
  act t (fun s =>
    let i := input.val
    if !(s.running && s.inputOn i) then s
    else if 16 ≤ i ∧ i < 18 then
      match hdmi with
      | some f =>
        let x := s.input i
        let sizes := planeSizes x.w x.h x.samp
        if (s.hdmi (i - 16)).locked && !(s.hdmi (i - 16)).fmtBad && decide (f.planes.map List.length = sizes) then
          let s := s.countErrors (i - 16) f.errors
          let r := s.makeRoom i
          let pic : Pic := { w := x.w, h := x.h, samp := x.samp, depth := x.depth, colour := x.colour, planes := f.planes }
          let at_ : Int := (s.monoAt f.lineAt : Nat)
          (if r.2 then (r.1.relayFrameOut i pic at_).frameDone i pic at_ else r.1.countSkipped i).inputBoundary (i - 16)
        else s
      | none => s
    else
      match (s.input i).busy.find? (fun b => decide (b.key = k) && !b.skipped) with
      | some b =>
        match gatherPlanes b.samples b.w b.h b.samp with
        | some ps =>
          (s.closeFrame i k).frameDone i { w := b.w, h := b.h, samp := b.samp, depth := b.depth, colour := b.colour, planes := ps } b.tsrc
        | none => s
      | none => s) s

/-- FRAME_INCOMPLETE_TIMEOUT (R152): SKEW_MAX after the last packet, or after the first of a later frame. -/
def execFrameIncompleteTimeout (t : Nat) (input : Fin 26) (k : Nat) (s : State) : Host.Outcome State Fault Refusal :=
  act t (fun s =>
    match (s.input input).busy.find? (fun b => decide (b.key = k)) with
    | some b =>
      let sk := s.skewMax input
      let beyond := decide (b.lastAt + sk ≤ s.mono + tickUnit) ||
        (match b.laterAt with | some m => decide (m + sk ≤ s.mono + tickUnit) | none => false)
      if beyond then s.dropFrame input k else s
    | none => s) s

/-- LOCKED_FRAME_RELEASE (R154). -/
def execLockedFrameRelease (t : Nat) (input : Fin 26) (id : Nat) (s : State) : Host.Outcome State Fault Refusal :=
  act t (fun s => s.updInput input (fun y => { y with ring := y.ring.map (fun f =>
    if decide (f.id = id) && s.due f.releaseAt then { f with released := true } else f) })) s

/-- INGEST_LEG_LOST (R157): no packet on a leg for 10 frame periods, counted from the input's coming into use where none has come. -/
def execIngestLegLost (t : Nat) (i : Fin 16) (leg : Fin 2) (s : State) : Host.Outcome State Fault Refusal :=
  act t (fun s =>
    let x := s.input i
    let per := period40 (s.cm (inObj i) 0xE)
    let there := decide (leg = 0) || decide (s.cm (inObj i) 3 ≠ 0xFF)
    if s.running && s.inputOn i && there && !(x.legLost.getD leg false) && s.due ((x.legAt.getD leg none).getD x.since + 10 * per) then
      ((s.updInput i (fun y => { y with legLost := y.legLost.set leg true })).showIngest i).raise (s.inputEv i)
    else s) s

/-- HDMI_5V_RISE (R160, R367): the first rise after a confirmed unplug is a plug event; debounce starts. -/
def execHdmi5vRise (t : Nat) (p : Fin 2) (s : State) : Host.Outcome State Fault Refusal :=
  actPin t (fun s => s.updHdmi p (fun y => { y with fiveV := true })) (fun s =>
    let s := s.updHdmi p (fun y => { y with fiveV := true, debounceAt := some (s.now + tuMs 100) })
    if s.oper.plugged.contains p.val then s
    else (s.updOper (fun o => { o with plugged := p.val :: o.plugged })).plugEvent p 0) s

/-- HDMI_5V_FALL (R160): the fall is debounced; lock is lost at once (R161). -/
def execHdmi5vFall (t : Nat) (p : Fin 2) (s : State) : Host.Outcome State Fault Refusal :=
  actPin t (fun s => s.updHdmi p (fun y => { y with fiveV := false })) (fun s => (s.updHdmi p (fun y => { y with fiveV := false, debounceAt := some (s.now + tuMs 100) })).loseHdmi p) s

/-- HDMI_5V_DEBOUNCE_END (R160, R367). -/
def execHdmi5vDebounceEnd (t : Nat) (p : Fin 2) (s : State) : Host.Outcome State Fault Refusal :=
  act t (fun s =>
    let x := s.hdmi p
    match x.debounceAt with
    | some m =>
      if m ≤ s.now then
        let s := s.updHdmi p (fun y => { y with plugged := y.fiveV, debounceAt := none })
        let s := s.setN 0xB020 2 (setBit (s.lv 0xB020 2) p x.fiveV)
        let s := if !x.fiveV && (x.plugged || s.oper.plugged.contains p.val) then
            (s.updOper (fun o => { o with plugged := o.plugged.filter (· ≠ p.val) })).plugEvent p 1
          else s
        s.showHdmi p
      else s
    | none => s) s

/-- HDMI_HPD_LOW_END (R160). -/
def execHdmiHpdLowEnd (t : Nat) (p : Fin 2) (s : State) : Host.Outcome State Fault Refusal :=
  act t (fun s =>
    match (s.hdmi p).lowUntil with
    | some m => if m ≤ s.now then (s.updHdmi p (fun y => { y with lowUntil := none })).showHdmi p else s
    | none => s) s

/-- DDC_ACCESS (R158, R159): EDID at 0x50, segment pointer at 0x30, SCDC at 0x54; FRL_Rate written at 0x31 asks for training (PRESUMED,
assumption 116), and reading the character error counters clears them. -/
def execDdcAccess (t : Nat) (p : Fin 2) (a : Ddc) (s : State) : Host.Outcome State Fault Refusal :=
  act t (fun s =>
    if !s.running then s else
    match a with
    | .write addr bytes =>
      if addr = 0x30 then s.updHdmi p (fun y => { y with segment := (bytes.headD 0).toNat })
      else if addr = 0x50 then s.updHdmi p (fun y => { y with offset := (bytes.headD 0).toNat })
      else if addr = 0x54 then
        let off := (bytes.headD 0).toNat
        let data := bytes.drop 1
        let s := s.updHdmi p (fun y => { y with
          offset := off + data.length,
          scdc := (List.range data.length).foldl (fun m i => m.put 0 (off + i) (data.getD i 0).toNat) y.scdc })
        if off ≤ 0x31 ∧ 0x31 < off + data.length then s.frlRequest p (data.getD (0x31 - off) 0).toNat else s
      else s
    | .read addr count =>
      if addr = 0x50 ∨ addr = 0x54 then
        let off := (s.hdmi p).offset
        let bs := (List.range count).map (fun i => s.ddcByte p addr ((off + i) % 256))
        let cleared := decide (addr = 0x54) && (List.range count).any (fun i => decide (0x50 ≤ (off + i) % 256 ∧ (off + i) % 256 < 0x59))
        (s.emit (.ddc p bs)).updHdmi p (fun y => { y with
          offset := (off + count) % 256, segment := if addr = 0x50 then 0 else y.segment, ced := if cleared then [0, 0, 0, 0] else y.ced })
      else s) s

/-- Whether a sampling and depth, in the coding of VIDEO_FORMAT, is in Table 6-2. -/
def formatOk (samp depth : Nat) : Bool := [1, 2, 3, 4].contains samp && [8, 10, 12].contains depth

/-- Whether a timing is outside Table 6-2, or its link above FRL_MAX. The frame rate runs from 24,000/1,001 Hz to 120 Hz in periods of whole ns. -/
def HdmiTiming.bad (tm : HdmiTiming) (frlMax : Nat) : Bool :=
  tm.interlaced || tm.unsupported || decide (tm.w < 640 ∨ tm.h < 480 ∨ 7680 < tm.w ∨ 4320 < tm.h) || !(formatOk tm.samp tm.depth) ||
    decide (tm.periodNs < 8333333 ∨ 41708334 < tm.periodNs) || decide (frlMax < tm.link % 16)

/-- HDMI_LOCK (R158, R160, R161): the timing that is locked; outside Table 6-2 it is not captured. -/
def execHdmiLock (t : Nat) (p : Fin 2) (tm : HdmiTiming) (s : State) : Host.Outcome State Fault Refusal :=
  act t (fun s =>
    if !(s.running && s.hpdWanted p) then s else
    let o := 0x2000 + p.val
    let bad := HdmiTiming.bad tm (s.cm o 3)
    let s := (s.setN o 7 tm.link).setN o 8 (tm.w * 65536 + tm.h)
    let s := s.setN o 9 (1000000000000 / max 1 tm.periodNs)
    let s := s.setN o 0xA (tm.samp * 16 + (tm.depth - 8))
    let s := s.updHdmi p (fun y => { y with locked := !bad, unsup := bad, fmtBad := false, training := false })
    let s := if bad then s else s.updInput (16 + p) (fun y => { y with w := tm.w, h := tm.h, samp := tm.samp, depth := tm.depth,
                                                                       colour := s.lv o 0xB, periodNs := tm.periodNs })
    (s.hdmiCond p).showHdmi p) s

/-- HDMI_LOCK_LOSS (R161). -/
def execHdmiLockLoss (t : Nat) (p : Fin 2) (s : State) : Host.Outcome State Fault Refusal :=
  act t (fun s => if s.running && ((s.hdmi p).locked || (s.hdmi p).unsup) then s.loseHdmi p else s) s

/-- AVI_INFOFRAME_RX (R158, R161): colorimetry, range and format from the next complete frame; a format outside Table 6-2 is not captured. -/
def execAviInfoframeRx (t : Nat) (p : Fin 2) (format colour : Nat) (s : State) : Host.Outcome State Fault Refusal :=
  act t (fun s =>
    if !s.running then s else
    let o := 0x2000 + p.val
    let samp := format % 256 / 16
    let depth := 8 + format % 16
    let s := (s.setN o 0xA (format % 256)).setN o 0xB (colour % 256)
    let s := s.updHdmi p (fun y => { y with fmtBad := !(formatOk samp depth) })
    let s := s.updInput (16 + p) (fun y => { y with colour := colour % 256, samp := samp, depth := depth })
    (s.hdmiCond p).showHdmi p) s

/-- RELAY_LINE_RX (R166, R247): the line is captured into the slot that names its origin and entry, and stored whole for
forwarding to its other destinations. -/
def execRelayLineRx (t : Nat) (_port : Fin 3) (line : RelayLine) (s : State) : Host.Outcome State Fault Refusal :=
  act t (fun s =>
    if !s.isUp then s else
    let others := line.dests.filter (· ≠ s.myId)
    let s := if others.isEmpty then s else s.relayOut { line with dests := others }
    if !(line.dests.contains s.myId) || !s.running then s else
    match (List.range 8).find? (fun r => decide (s.cm (0x2190 + r) 1 = 1) && decide (s.cm (0x2190 + r) 2 = line.origin) &&
        decide (s.cm (0x2190 + r) 3 = line.entry)) with
    | some r =>
      let i := 18 + r
      let s := s.setN (0x2190 + r) 7 2
      let s := s.openFrame i { key := line.tsrc, tsrc := (line.tsrc : Int) - s.clk.off, w := line.w, h := line.h, samp := line.samp,
                               depth := line.depth, colour := line.colour, lastAt := s.mono }
      let cw := if line.samp = 1 ∨ line.samp = 3 then ceilDiv line.w 2 else line.w
      let crow := if line.samp = 3 then line.line / 2 else line.line
      s.updInput i (fun y => { y with busy := y.busy.map (fun b =>
        if b.key = line.tsrc ∧ b.skipped = false then
          let m := writeRun b.samples 0 (line.line * line.w) (line.planes.getD 0 [])
          let m := writeRun (writeRun m 1 (crow * cw) (line.planes.getD 1 [])) 2 (crow * cw) (line.planes.getD 2 [])
          { b with lastAt := s.mono, samples := m }
        else b) })
    | none => s) s

/-- RELAY_LINE_FORWARD (R247): the line queued first for a port is sent. -/
def execRelayLineForward (t : Nat) (port : Fin 3) (s : State) : Host.Outcome State Fault Refusal :=
  act t (fun s =>
    match s.flue.relayQ.find? (fun e => decide (e.1 = port.val)) with
    | some e => (s.updFlue (fun x => { x with relayQ := x.relayQ.erase e })).flueOn port e.2
    | none => s) s

end Sys2Proof.Machine
end

