-- ==== Sys2Proof/Machine/OutCfg.lean ====
section
/-!
DEFINITION. What a configuration says of the output stage (chapter "Output packets, shaping and gate lists"): ports,
entries, their packet sizes, automatic rates and gate windows (R172, R176, R185, R187, R193); and of audio flows (R231).
-/
namespace Sys2Proof.Machine

/-! Ports (R172). -/

/-- Side of a port code: 0 Net A, 1 Net B; and the code of its main port, which is the side. -/
def portSide (p : Nat) : Nat := if p = 0 ∨ (2 ≤ p ∧ p ≤ 5) then 0 else 1

def port (m : Tbl Val) (p sub : Nat) : Nat := cfg m (0x6000 + p) sub

/-- Whether a port code carries traffic in the configured mode. -/
def portCarries (m : Tbl Val) (p : Nat) : Bool :=
  if p < 2 then decide (port m p 2 = 0) else decide (p < 10) && decide (port m (portSide p) 2 = 1)

/-- Whether a port is enabled: a sub-port needs its port as well. -/
def portOn (m : Tbl Val) (p : Nat) : Bool := decide (port m p 1 = 1) && decide (port m (portSide p) 1 = 1)

/-- MAC rate in Gbit/s (R192). -/
def portGbit (p : Nat) : Nat := if p < 2 then 400 else 100

/-- Wire time of `n` bytes with 20 bytes of preamble and gap, in 2^-40 ns. -/
def wireTime (p n : Nat) : Nat := 8 * (n + 20) * 2 ^ 40 / portGbit p

/-- Group of event sources and bit of a port code (Table 13-1). -/
def portGroup (p : Nat) : Nat := 5 + portSide p
def portBit (p : Nat) : Nat := if p < 2 then 0 else (p - 2) % 4 + 1

/-- Initiator of an Ethernet block. -/
def ethInit (p : Nat) : Nat := 0x400 + portSide p * 0x800 + 48

/-! Entries (R176, Table 7-10). -/

structure TxCfg where
  destA : Nat
  destB : Nat
  udpA : Nat
  udpB : Nat
  udpSrc : Nat
  dscp : Nat
  flags : Nat
  portA : Nat
  portB : Nat
  cls : Nat
  pt : Nat
  ssrc : Nat
  rate : Nat
  burst : Nat
  seqInit : Nat
deriving DecidableEq, Repr

def txRec (m : Tbl Val) (e : Nat) : List Byte := recAt (cfgB m 0x6100 1) 32 e

def txCfg (m : Tbl Val) (e : Nat) : TxCfg :=
  let b := txRec m e
  { destA := fieldAt b 31 28, destB := fieldAt b 27 24, udpA := fieldAt b 23 22, udpB := fieldAt b 21 20, udpSrc := fieldAt b 19 18,
    dscp := fieldAt b 17 17, flags := fieldAt b 16 16, portA := fieldAt b 15 15, portB := fieldAt b 14 14, cls := fieldAt b 13 13,
    pt := fieldAt b 12 12, ssrc := fieldAt b 11 8, rate := fieldAt b 7 4, burst := fieldAt b 3 2 * 64, seqInit := fieldAt b 1 0 }

/-- Ports of an entry's legs. -/
def TxCfg.legs (c : TxCfg) : List Nat := if c.portB = 0xFF then [c.portA] else [c.portA, c.portB]

/-- Audio flow objects of an entry. -/
def audio (m : Tbl Val) (a sub : Nat) : Nat := cfg m (0x7120 + a) sub

/-- Whether an entry is enabled. -/
def entryOn (m : Tbl Val) (e : Nat) : Bool :=
  if e < 4096 then decide (flow m e 1 = 1) else decide (audio m (e - 4096) 1 = 1)

def minList (d : Nat) (xs : List Nat) : Nat := xs.foldl min d

/-- PAYLOAD_MAX (R176). -/
def payloadMax (m : Tbl Val) (e : Nat) : Nat := minList 9000 ((txCfg m e).legs.map (fun p => port m p 9)) - 40

/-- Frame headers of a port, FCS included (R187). -/
def frameHead (m : Tbl Val) (p : Nat) : Nat := if port m p 7 = 0 then 58 else 62

/-- Length of a frame with an RTP payload, from destination MAC to FCS; Ethernet's least is 64 bytes. -/
def frameLen (m : Tbl Val) (p payload : Nat) : Nat := max 64 (frameHead m p + payload)

/-- Counted length of an RTP payload (R185): the larger of the legs. -/
def counted (m : Tbl Val) (e payload : Nat) : Nat :=
  maxList ((txCfg m e).legs.map (fun p => frameLen m p payload + port m p 0xA))

/-! Audio flows (R231). -/

/-- Samples of a packet, and packet time in ns. -/
def packetSamples (m : Tbl Val) (a : Nat) : Nat := if audio m a 2 = 0 then 48 else 6
def packetNs (m : Tbl Val) (a : Nat) : Nat := if audio m a 2 = 0 then 1000000 else 125000
def audioPayload (m : Tbl Val) (a : Nat) : Nat := packetSamples m a * audio m a 4 * (if audio m a 3 = 0 then 2 else 3)

/-! Gate windows (R193). -/

/-- A list cut at the cycle's end, its last entry held until then. -/
def fitList : List (Nat × Nat) → Nat → List (Nat × Nat)
  | [], _ => []
  | [(g, _)], left => if left = 0 then [] else [(g, left)]
  | (g, d) :: e :: rest, left => if left = 0 then [] else if left ≤ d then [(g, left)] else (g, d) :: fitList (e :: rest) (left - d)

/-- Longest run of a class's state in a sequence of intervals. -/
def longestRun (q : Nat) (open_ : Bool) : List (Nat × Nat) → Nat → Nat → Nat
  | [], _, best => best
  | (g, d) :: rest, cur, best =>
    if g.testBit q = open_ then longestRun q open_ rest (cur + d) (max best (cur + d)) else longestRun q open_ rest 0 best

/-- Longest interval of a state in ticks, across cycle boundaries; none when it never ends. -/
def GateList.longest (g : GateList) (q : Nat) (open_ : Bool) : Option Nat :=
  let xs := fitList g.list g.cycle
  if xs.all (fun e => decide (e.1.testBit q = open_)) then none else some (longestRun q open_ (xs ++ xs) 0 0)

/-- CLASS_WINDOWS of a list in ns: open, and the Gc of R187; a class that is never open, or never closed, has no end. -/
def GateList.openNs (g : GateList) (q : Nat) : Nat :=
  match g.longest q true with | none => 0xFFFFFFFF | some t => t * 5 / 2
def GateList.closedNs (g : GateList) (q : Nat) : Nat :=
  match g.longest q true, g.longest q false with
  | none, _ => 0
  | _, none => 0xFFFFFFFF
  | _, some t => ceilDiv (t * 5) 2

/-- The list an entry of ADMIN_LIST bytes spells (Table 7-4). -/
def readGates (b : List Byte) : List (Nat × Nat) :=
  (List.range (b.length / 8)).map (fun i => (fieldAt b (8 * i + 6) (8 * i + 6), fieldAt b (8 * i + 3) (8 * i)))

/-! Automatic rates (R187). -/

/-- Largest counted frame of an entry: a full payload. -/
def largestFrame (m : Tbl Val) (e : Nat) : Nat :=
  if e < 4096 then counted m e (payloadMax m e) else counted m e (audioPayload m (e - 4096))

/-- Cap of one send window in bytes: C of a flow, 9 Bp / 8 of the flows of a merged one. -/
def capBytes (m : Tbl Val) (n : Nat) : Nat :=
  if flow m n 3 = 0 then ceilDiv (budgetC m n) (8 * 65536)
  else ceilDiv (9 * sumList ((groupsOf m (flow m n 2)).map (budgetP m))) (64 * 65536)

/-- W in 2^-16 ns (R187). -/
def window16Of (m : Tbl Val) (n : Nat) : Nat :=
  let c := flow m n 2
  if flow m n 3 = 0 then ts16 m c - 2000 * 65536
  else let p := periodOf (chan m c 5); 1000000000 * 65536 * p.1 / p.2 - 2000 * 65536

/-- The automatic rate in kbit/s, at a closed interval in ns; 0 when the window has no time. -/
def autoRate (m : Tbl Val) (e gc : Nat) : Nat :=
  if e < 4096 then
    let cb := capBytes m e
    let n := ceilDiv cb (max 1 (payloadMax m e - 3))
    let h := maxList ((txCfg m e).legs.map (fun p => frameHead m p + 3 + port m p 0xA))
    let w := window16Of m e - gc * 65536
    if w = 0 then 0 else ceilDiv (8 * (cb + n * h) * 1000000 * 65536) w
  else ceilDiv (8 * counted m e (audioPayload m (e - 4096)) * 1000000) (packetNs m (e - 4096))

/-- Rate and burst of an entry's shaper (R187, R188). -/
def shaperOf (m : Tbl Val) (e gc : Nat) : Nat × Nat × Nat :=
  let c := txCfg m e
  (if c.rate = 0 then autoRate m e gc else c.rate, if c.burst = 0 then 4 * largestFrame m e else c.burst, c.cls)

/-- RTP timestamp of a frame with a label (Table 7-2). -/
def rtpOf (m : Tbl Val) (c : Nat) (label : Int) : Nat :=
  let p := periodOf (chan m c 5)
  let num : Int := label * (p.1 * 1000000000 : Nat) + signed 32 (chan m c 0xA) * (p.2 : Nat)
  unsigned 32 (num * 90000 / (p.2 * 1000000000 : Nat))

end Sys2Proof.Machine
end

