-- ==== Sys2Proof/Machine/Council.lean ====
section
/-!
DEFINITION. The rate council (R73 to R83): rounds, broadcasts, members that fail or disagree; and the commands that
carry them.

A summary's payload is the 32 bytes of Table 3-1, byte 0 first, then the sender's DEF_HASH and, in a report of an absent child, that
child's identity; a broadcast's is STRIPE, TAG, whether an offset is sent, q̄, DRAUGHT, MEMBERS_IN, the root's DEF_HASH, then the active
members (assumption 21).
-/
namespace Sys2Proof.Machine

/-- STRIPE of Table 3-1: frame count [19:0] and canvas stripe. -/
def stripeTag (f k : Nat) : Nat := f % 2 ^ 20 * 4096 + k % 4096

/-- The enabled non-solo channel of a canvas tag. -/
def State.chanOfTag (s : State) (tag : Nat) : Option Nat :=
  (chanOn s.comm).find? (fun c => decide (chan s.comm c 2 = tag) && !s.solo c)

/-- The frame of a channel in flight that a STRIPE field names. -/
def State.frameOfTag (s : State) (c st : Nat) : Option Nat :=
  (s.pipe.stripes.find? (fun x => decide (x.c = c) && decide (stripeTag x.f x.k = st))).map Stripe.f

def State.round (s : State) (c f k : Nat) : Round :=
  ((s.councilSt c).rounds.find? (fun r => decide (r.f = f) && decide (r.k = k))).getD { f := f, k := k }

def State.updRound (s : State) (c f k : Nat) (g : Round → Round) : State :=
  let r := g (s.round c f k)
  s.updCouncil c (fun x => { x with rounds := r :: x.rounds.filter (fun y => !(decide (y.f = f) && decide (y.k = k))) })

/-- Two sums combined (R77). -/
def Round.add (r : Round) (wq : Int) (w : Nat) (lo hi : Int) (members draught : Nat) : Round :=
  { r with wq := r.wq + wq, w := r.w + w, qMin := min r.qMin lo, qMax := max r.qMax hi,
           members := r.members + members, draught := max r.draught draught }

def State.draughtOwn (s : State) (c : Nat) : Nat := maxList ((s.ownDraughts c).map Prod.snd)

/-- The 32 bytes of a summary, byte 0 first (Table 3-1). -/
def Round.bytes (r : Round) (tag : Nat) : List Nat :=
  (leBytes 4 tag ++ leBytes 4 (stripeTag r.f r.k) ++ leBytes 2 r.draught ++ leBytes 2 r.members ++ leBytes 2 (unsigned 16 r.qMax) ++
    leBytes 2 (unsigned 16 r.qMin) ++ leBytes 8 r.w ++ leBytes 8 (unsigned 64 r.wq)).map BitVec.toNat

/-- Bytes hi to lo of a received summary. -/
def sumField (f : FlueFrame) (hi lo : Nat) : Nat := fieldAt ((f.pay.take 32).map (BitVec.ofNat 8)) hi lo

/-- The tree in force for a stripe (R78): its root and this module's active children. -/
def State.rootAt (s : State) (c f k : Nat) : Nat := (s.stripe c f k).elim (s.rootNow c) Stripe.root
def State.kidsAt (s : State) (c f k : Nat) : List Nat := (s.stripe c f k).elim [] Stripe.kids

/-- This module's own contribution for canvas stripe k (R77): only flow stripes that are coded; a shed channel, a standby
twin and a module in DAMPED contribute zero weight (R280, R321, R338). -/
def State.ownSummary (s : State) (c f k : Nat) (r : Round) : Round :=
  let standby := decide (s.cm 0x8210 1 ≠ 0) && decide (s.lv 0x8210 7 = 1) && (s.cm 0x8210 4).testBit c
  let parts := if s.codes c && !standby
    then (s.partsOf c k).filter (fun p => (s.flowSt p.1).sends f && !(s.flowSt p.1).fills f) else []
  let qs := parts.map (fun p => (flow s.comm p.1 7 * ctuH s.comm p.1 p.2, s.ownQp p.1 f p.2))
  qs.foldl (fun r q => r.add ((q.1 : Int) * q.2) q.1 q.2 q.2 0 0)
    { r with members := r.members + 1, draught := max r.draught (s.draughtOwn c), own := true }

/-- A broadcast reaches this module (R77, R79): kept for the stripe unless Tf has passed. -/
def State.takeBroadcast (s : State) (c f k : Nat) (q : Option Int) (draught membersIn : Nat) (active : List Nat) : State :=
  let s := s.updCouncil c (fun x => { x with active := some active, late := 0, partialNow := decide (membersIn < active.length) })
  let s := s.updStripe c f k (fun x => if x.tf then x else { x with bcast := some (q, draught) })
  let s := match q with
    | some v => s.setN (0x4100 + c) 0xE (unsigned 16 v)
    | none => s
  let s := s.setN (0x4100 + c) 0xB active.length
  if membersIn < active.length then s.inc (0x4100 + c) 0xD else s

/-- A broadcast frame to each child (R77). -/
def State.spread (s : State) (c f k : Nat) (q : Option Int) (draught membersIn : Nat) (hash : Nat) (active : List Nat) : State :=
  eachIn (s.kidsAt c f k) (fun ch s => s.flueTo {
    dest := ch, src := s.myId, cls := 1, typ := 0x11, tag := stripeTag f k,
    pay := [stripeTag f k, chan s.comm c 2, if q.isSome then 1 else 0, unsigned 16 (q.getD 0), draught, membersIn, hash] ++ active,
    len := 32 }) s

/-- A complete or timed-out sum goes on (R77, R78): the root broadcasts, any other member sends it toward the root.
Children that did not report are counted missing (R80). -/
def State.forwardRound (s : State) (c f k : Nat) : State :=
  let r := s.round c f k
  if r.sent then s else
  let kids := s.kidsAt c f k
  let root := s.rootAt c f k
  let s := s.updRound c f k (fun r => { r with sent := true })
  let s := s.updCouncil c (fun x => { x with missed := kids.foldl (fun m ch =>
    if r.from_.contains ch then m.put 0 ch 0 else m.put 0 ch (m.get 0 ch + 1)) x.missed })
  if root = s.myId then
    let active := s.activeOf c
    let q := if r.w = 0 then none else some (roundDivInt r.wq r.w)
    let s := s.spread c f k q r.draught r.members (defHash s.comm c) active
    s.takeBroadcast c f k q r.draught r.members active
  else
    match s.firstMember (s.hopsFrom root) (s.activeOf c) 1024 s.myId with
    | some p => s.flueTo {
        dest := p, src := s.myId, cls := 1, typ := 0x10, tag := stripeTag f k,
        pay := r.bytes (chan s.comm c 2) ++ [defHash s.comm c], len := 32 }
    | none => s

/-- A module forwards its sum as soon as all its active children have reported (R78). -/
def State.roundReady (s : State) (c f k : Nat) : State :=
  let r := s.round c f k
  if r.own && (s.kidsAt c f k).all (fun ch => r.from_.contains ch) then s.forwardRound c f k else s

/-! Mismatch and holds (R82). -/

/-- The stove whose rate council block serves a channel: that of its lowest placed hearth. -/
def State.councilStove (s : State) (c : Nat) : Nat :=
  let hs := (List.range 8).filter (fun h => s.pipe.placed.any (fun p => decide (p.2 = h) && decide (flow s.comm p.1 2 = c)))
  match hs with
  | h :: _ => h / 4
  | [] => 0

/-- Whether R82 holds a channel at fill stripes. -/
def State.mismatched (s : State) (c : Nat) : Bool :=
  (chanOn s.comm).contains c && !s.solo c &&
  ((match (s.councilSt c).rootHash with
    | some h => decide (h ≠ defHash s.comm c) && !s.isRoot c
    | none => false) ||
   (chanOn s.comm).any (fun d => decide (d ≠ c) && !s.solo d && decide (chan s.comm d 2 = chan s.comm c 2)))

/-- A hold begins at once; its event is in the group of the channel's stove (R82). It ends at a frame start. -/
def State.holdCheck (s : State) (c : Nat) (atFrame : Bool) : State :=
  let bad := s.mismatched c
  let ev : Ev := { source := src (9 + s.councilStove c) (4 + c), dom := domChannel c,
                   init := blockInit (s.councilStove c) 57, access := 0xB }
  if bad && !(s.chanOf c).held then
    ((s.updChan c (fun x => { x with held := true })).setN (0x4100 + c) 0xA 4).cond ev true
  else if !bad && (s.chanOf c).held && atFrame then
    (s.updChan c (fun x => { x with held := false })).cond ev false
  else s

/-- COUNCIL_STATE at a frame start (Table 3-6). -/
def State.councilState (s : State) (c : Nat) : State :=
  s.setN (0x4100 + c) 0xA (
    if !((chanOn s.comm).contains c) then 0
    else if s.solo c then 5
    else if (s.chanOf c).held then 4
    else match (s.councilSt c).active with
      | none => 1
      | some _ => if (s.councilSt c).partialNow then 3 else 2)

/-- The root of the council that has formed across a break among members that can be reached again, where it ranks before this
module's root under R75 (R81). -/
def State.otherRoot (s : State) (c : Nat) (outside : List Nat) : Option Nat :=
  let all := s.activeOf c ++ outside
  let fixed := cfg s.comm (0x4100 + c) 3
  let other := if outside.contains fixed then fixed else s.elect outside
  let e := fun (r : Nat) => s.eccentricity r all
  if outside = [] then none
  else if fixed = s.rootNow c then none
  else if other = fixed ∨ e other < e (s.rootNow c) ∨ (e other = e (s.rootNow c) ∧ other < s.rootNow c) then some other else none

/-- The council of a channel at its frame start (R80, R81): a new root takes office, removals and admissions take effect, and of two
councils that a break had split the one whose root ranks first goes on, the other's members joining it. -/
def State.councilFrame (s : State) (c : Nat) : State :=
  if s.solo c then s.councilState c else
  let s := match (s.councilSt c).rootNext with
    | some r => (s.setN (0x4100 + c) 9 r).updCouncil c (fun x => { x with
        active := match x.activeNext with | some a => some a | none => x.active,
        rootNext := none, activeNext := none, late := 0, rounds := [], missed := [] })
    | none => s
  let s := s.updCouncil c (fun x => { x with
    split := (membersOf s.comm c).filter (fun m => decide (m ≠ s.myId) && (!s.reaches m || (x.split.contains m && !((s.activeOf c).contains m)))) })
  let outside := (s.councilSt c).split.filter s.reaches
  let s := match s.otherRoot c outside with
    | some r => (s.setN (0x4100 + c) 9 r).updCouncil c (fun x => { x with
        active := some (s.activeOf c ++ outside.filter (fun m => !((s.activeOf c).contains m))), late := 0, rounds := [], missed := [] })
    | none => s.updCouncil c (fun x => { x with addNext := x.addNext ++ outside })
  let s := if s.isRoot c then
      s.updCouncil c (fun x => { x with
        active := (match x.active with
          | none => if x.addNext = [] then none else some (s.myId :: x.addNext.eraseDups)
          | some a => some ((a.filter (fun m => !(x.dropNext.contains m) && (decide (m = s.myId) || s.reaches m)))
              ++ (x.addNext.filter (fun m => !(a.contains m))).eraseDups)),
        dropNext := [], addNext := [] })
    else s.updCouncil c (fun x => { x with dropNext := [], addNext := [] })
  (s.holdCheck c true).councilState c

/-- Formation at a commit (R75, R76, R83): root, DEPTH, ROUND_TRIP and DEF_HASH of the committed definition. What a root said of its
own hash stands while that root is in office (R82). On a solo channel ROUND_TRIP and DEPTH read 0 and ROOT_NOW the module's own identity
(assumption 99). -/
def State.councilForm (s : State) (c : Nat) : State :=
  let s := s.setN (0x4100 + c) 0xF (defHash s.comm c)
  if s.solo c then
    ((((s.setN (0x4100 + c) 7 0).setN (0x4100 + c) 8 0).setN (0x4100 + c) 9 s.myId).updCouncil c (fun _ => {})).holdCheck c false
  else
    let ms := membersOf s.comm c
    let was := s.rootNow c
    let root := if cfg s.comm (0x4100 + c) 3 = 0xFFFF then s.elect ms else cfg s.comm (0x4100 + c) 3
    let h := s.eccentricity root ms
    let s := ((s.setN (0x4100 + c) 9 root).setN (0x4100 + c) 8 h).setN (0x4100 + c) 7 (3000 + 1050 * h)
    (s.updCouncil c (fun x => { rootHash := if root = was then x.rootHash else none })).holdCheck c false

/-! Commands. -/

/-- Whether council rounds of a channel run: enabled and running, not solo, not DAMPED, frame not inserted (R216, R321). -/
def State.rounds (s : State) (c f k : Nat) : Bool :=
  s.chRunning c && !s.solo c && decide (s.sys.mode ≠ .damped) &&
    (match s.stripe c f k with | some x => !x.inserted && !x.tf | none => false)

/-- COUNCIL_SUMMARY_SEND (R77). -/
def execCouncilSummarySend (t : Nat) (c : Fin 16) (f k : Nat) (s : State) : Host.Outcome State Fault Refusal :=
  act t (fun s =>
    match s.stripe c f k with
    | some x =>
      if s.rounds c f k && (x.composed || x.abandoned) && s.due (s.stripeAfter x 1 + usCtr 2) && !(s.round c f k).own then
        (s.updRound c f k (s.ownSummary c f k)).roundReady c f k
      else s
    | none => s) s

/-- A member's summary of a round in progress, combined (R77). -/
def State.combine (s : State) (c : Nat) (frame : FlueFrame) : State :=
  let st := sumField frame 7 4
  match s.frameOfTag c st with
  | none => s
  | some f =>
    let k := st % 4096
    let r := s.round c f k
    if s.rounds c f k && !r.sent && !(r.from_.contains frame.src) then
      (s.updRound c f k (fun r => { r.add (signed 64 (sumField frame 31 24)) (sumField frame 23 16) (signed 16 (sumField frame 15 14))
        (signed 16 (sumField frame 13 12)) (sumField frame 11 10) (sumField frame 9 8) with from_ := frame.src :: r.from_ })).roundReady c f k
    else s

/-- A summary for this module (R74, R80, R82): one with another DEF_HASH is not combined, and its member is not in the active set; that
of an active child is combined; that of a member outside the active set goes on to the root, which admits it. -/
def State.takeSummary (s : State) (c : Nat) (frame : FlueFrame) : State :=
  let hash := frame.pay.getD 32 0
  if hash ≠ defHash s.comm c then
    let s := if frame.src = s.rootNow c then s.updCouncil c (fun x => { x with rootHash := some hash }) else s
    let s := if s.isRoot c then s.updCouncil c (fun x => { x with
        dropNext := frame.src :: x.dropNext.filter (· ≠ frame.src), addNext := x.addNext.filter (· ≠ frame.src) })
      else s.flueTo { frame with dest := s.rootNow c }
    s.holdCheck c false
  else if (s.activeOf c).contains frame.src then s.combine c frame
  else if !((membersOf s.comm c).contains frame.src) then s
  else if s.isRoot c then s.updCouncil c (fun x => { x with addNext := frame.src :: x.addNext.filter (· ≠ frame.src) })
  else s.flueTo { frame with dest := s.rootNow c }

/-- COUNCIL_SUMMARY_RX (R77, R80, R82): a frame for another module is forwarded; a report of an absent child reaches the root. -/
def execCouncilSummaryRx (t : Nat) (_port : Fin 3) (frame : FlueFrame) (s : State) : Host.Outcome State Fault Refusal :=
  act t (fun s =>
    if !s.isMine frame then s.passOn frame
    else
      match s.chanOfTag (sumField frame 1 0) with
      | none => s
      | some c =>
        match frame.pay[33]? with
        | some child =>
          if s.isRoot c then s.updCouncil c (fun x => { x with dropNext := child :: x.dropNext.filter (· ≠ child) })
          else s
        | none => s.takeSummary c frame) s

/-- COUNCIL_WAIT_LIMIT (R78): Tf − h × 0.45 µs − 1 µs − d × 0.60 µs, with h and d of the tree in force for the stripe. -/
def execCouncilWaitLimit (t : Nat) (c : Fin 16) (f k : Nat) (s : State) : Host.Outcome State Fault Refusal :=
  act t (fun s =>
    match s.stripe c f k with
    | some x =>
      let limit := s.tfOf x - nsCtr (450 * x.treeH + 1000 + 600 * x.treeD)
      if s.rounds c f k && s.due limit && (s.round c f k).own then s.forwardRound c f k else s
    | none => s) s

/-- COUNCIL_BROADCAST_RX (R77, R79, R82). -/
def execCouncilBroadcastRx (t : Nat) (_port : Fin 3) (frame : FlueFrame) (s : State) : Host.Outcome State Fault Refusal :=
  act t (fun s =>
    if !s.isMine frame then s.passOn frame
    else
      match s.chanOfTag (frame.pay.getD 1 0 % 65536) with
      | none => s
      | some c =>
        let s := s.updCouncil c (fun x => { x with rootHash := some (frame.pay.getD 6 0) })
        let s := s.holdCheck c false
        match s.frameOfTag c (frame.pay.getD 0 0) with
        | none => s
        | some f =>
          let k := frame.pay.getD 0 0 % 4096
          let q := if frame.pay.getD 2 0 = 1 then some (signed 16 (frame.pay.getD 3 0)) else none
          let active := frame.pay.drop 7
          let late := (s.stripe c f k).elim true Stripe.tf
          let s := s.spread c f k q (frame.pay.getD 4 0) (frame.pay.getD 5 0) (frame.pay.getD 6 0) active
          if late || (s.chanOf c).held then s
          else s.takeBroadcast c f k q (frame.pay.getD 4 0) (frame.pay.getD 5 0) active) s

/-- COUNCIL_CHILD_ABSENT (R80). -/
def execCouncilChildAbsent (t : Nat) (c : Fin 16) (child : Nat) (s : State) : Host.Outcome State Fault Refusal :=
  act t (fun s =>
    let lim := s.cm (0x4100 + c) 6
    if !s.solo c && decide (lim ≤ (s.councilSt c).missed.get 0 child) && (s.activeOf c).contains child then
      let s := s.updCouncil c (fun x => { x with missed := x.missed.put 0 child 0 })
      if s.isRoot c then s.updCouncil c (fun x => { x with dropNext := child :: x.dropNext.filter (· ≠ child) })
      else s.flueTo {
        dest := s.rootNow c, src := s.myId, cls := 1, typ := 0x10, tag := stripeTag (s.frameNo c) 0,
        pay := ({ f := s.frameNo c, k := 0, qMin := 0, qMax := 0 } : Round).bytes (chan s.comm c 2) ++ [defHash s.comm c, child], len := 32 }
    else s) s

/-- COUNCIL_ROOT_LOST (R81): a member that is not held elects from the last active set without the lost root, or from MEMBERS before
any; the root takes office at the next frame start. -/
def execCouncilRootLost (t : Nat) (c : Fin 16) (s : State) : Host.Outcome State Fault Refusal :=
  act t (fun s =>
    if !s.solo c && !s.isRoot c && !(s.chanOf c).held && decide (s.cm (0x4100 + c) 6 ≤ (s.councilSt c).late) then
      s.updCouncil c (fun x => match x.active with
        | some a =>
          let ms := a.filter (· ≠ s.rootNow c)
          { x with rootNext := some (s.elect ms), activeNext := some ms, late := 0 }
        | none => { x with rootNext := some (s.elect (membersOf s.comm c)), late := 0 })
    else s) s

end Sys2Proof.Machine
end

