-- ==== Sys2Proof/Machine/WearOps.lean ====
section
/-!
DEFINITION. The live wear record: entering a finding (R352, R353), and the record as its bytes (Tables 14-9, 14-10).
-/
namespace Sys2Proof.Machine

/-- HOURS of the record: those written back at power-up plus the time powered since then (R353). -/
def State.wearHours (s : State) : Nat := s.wear.hours0 + (s.now - s.wear.from_) / tuSec 3600

/-- A change of the record (R352): WEAR_CHANGES and WEAR_SEQ advance. -/
def State.wearChange (s : State) (es : List WearEntry) : State :=
  { (s.inc 0xA040 4) with wear := { s.wear with entries := es, seq := s.wear.seq + 1, changes := s.wear.changes + 1 } }

/-- The oldest entry flagged only as worn, else the oldest that is neither retired nor repair pending (R353). -/
def dropIndex (es : List WearEntry) : Option Nat :=
  match (List.range es.length).find? (fun i => decide ((es[i]?.map WearEntry.flags) = some 8)) with
  | some i => some i
  | none => (List.range es.length).find? (fun i => match es[i]? with | some e => !(e.flags.testBit 0) && !(e.flags.testBit 2) | none => false)

/-- A finding entered (R352, R353): flags added to the part's entry, or a new entry; a full record drops one first, and
where none can be dropped the finding is not entered and group 19 source 10 is raised. -/
def State.wearEnter (s : State) (kind flags unit margin : Nat) : State :=
  match s.wear.entries.find? (fun e => decide (e.kind = kind) && decide (e.unit = unit)) with
  | some e =>
    if e.flags ||| flags = e.flags then s
    else s.wearChange (s.wear.entries.map (fun x => if x.kind = kind ∧ x.unit = unit
      then { x with flags := x.flags ||| flags, margin := if margin = 0x8000 then x.margin else margin } else x))
  | none =>
    let new : WearEntry := ⟨kind, flags, unit, margin, s.wearHours⟩
    if s.wear.entries.length < 1024 then s.wearChange (s.wear.entries ++ [new])
    else match dropIndex s.wear.entries with
      | some i => s.wearChange (s.wear.entries.eraseIdx i ++ [new])
      | none => s.raise { source := src 19 10, init := blockInit 0 59, access := 0xB }

def WearEntry.bytes (e : WearEntry) : List Byte :=
  leBytes 1 e.kind ++ leBytes 1 e.flags ++ leBytes 4 0 ++ leBytes 4 e.unit ++ leBytes 2 e.margin ++ leBytes 4 e.hours

/-- The header with its CRC field as given (Table 14-9). -/
def State.wearHeader (s : State) (crc : Nat) : List Byte :=
  leBytes 2 1 ++ leBytes 2 s.wear.entries.length ++ leBytes 4 0 ++ leBytes 8 (s.lv 0x1000 3) ++
    leBytes 4 s.wear.seq ++ leBytes 4 s.wearHours ++ leBytes 4 0 ++ leBytes 4 crc

/-- 1F20 WEAR_RECORD as it reads (R353). -/
def State.wearBytes (s : State) : List Byte :=
  let body := s.wear.entries.flatMap WearEntry.bytes
  s.wearHeader (crc32c (s.wearHeader 0 ++ body)) ++ body

def readEntry (b : List Byte) : WearEntry :=
  ⟨fieldAt b 0 0, fieldAt b 1 1, fieldAt b 9 6, fieldAt b 11 10, fieldAt b 15 12⟩

/-- The entries of a record. -/
def readEntries (b : List Byte) : List WearEntry :=
  (List.range (fieldAt b 3 2)).map (fun i => readEntry ((b.drop (32 + 16 * i)).take 16))

end Sys2Proof.Machine
end

