-- ==== Sys2Proof/Machine/Grate.lean ====
section
/-!
DEFINITION. The Grates (chapter "Grate dispatch and withy execution"): jobs and their dependences (R101 to R105, R440),
dispatch (R106 to R109), fencing, re-runs, spare entry (R111 to R115, R439).
-/
namespace Sys2Proof.Machine

/-! Withies. -/

def withyHearth (w : Nat) : Nat := w / 36
def withySkein (w : Nat) : Nat := w / 9

/-- STATE of Table 4-7: 0 active, 1 spare, 2 self-test, 3 fenced, 4 retired, 5 retired by wear record. -/
def State.wState (s : State) (w : Nat) : Nat :=
  let x := (s.withySt w).st
  if x = 9 then (if w % 9 = 8 then 1 else 0) else x

def hearthWithies (h : Nat) : List Nat := (List.range 36).map (fun i => 36 * h + i)
def skeinWithies (sk : Nat) : List Nat := (List.range 9).map (fun i => 9 * sk + i)

/-- Active withies of a hearth (R115). -/
def State.activeCount (s : State) (h : Nat) : Nat := ((hearthWithies h).filter (fun w => decide (s.wState w = 0))).length

/-- The allocatable rate of a hearth with `a` active withies (R115), pix/s. -/
def allocLimit (a : Nat) : Nat := min 2000000000 (2000000000 - 75000000 * (32 - a))

/-- Skeins of a hearth that still hold a spare. -/
def State.sparesLeft (s : State) (h : Nat) : Nat :=
  ((List.range 4).filter (fun i => (skeinWithies (4 * h + i)).any (fun w => decide (s.wState w = 1 ∨ s.wState w = 2)))).length

/-- Withy time that a hearth has had available is counted up to now, before its active withies change (LOAD, Table 4-5). -/
def State.accrue (s : State) (h : Nat) : State :=
  let a := s.activeCount h
  s.updHearth h (fun x => { x with avail := x.avail + a * (s.now - x.availAt), availAt := s.now })

/-- Skeins of a hearth whose spare is still to enter after its self-test. -/
def State.entering (s : State) (h : Nat) : Nat :=
  ((List.range 4).filter (fun i => (skeinWithies (4 * h + i)).any (fun w => decide (s.wState w = 2)))).length

/-- ACTIVE_WITHIES, ALLOC_LIMIT and SPARES_LEFT, with the conditions of group 11 (R115): the excess over ALLOC_LIMIT is raised when a
retirement brings it about, spares that are about to enter counted, and ends as soon as there is none. -/
def State.countWithies (s : State) (h : Nat) (retired : Bool) : State :=
  let a := s.activeCount h
  let lim := fun n => if (s.hearthSt h).badMem then 0 else allocLimit n
  let s := ((s.setN (0xC010 + h) 1 a).setN (0xC010 + h) 2 (lim a)).setN (0xC010 + h) 0xB (s.sparesLeft h)
  let ev := fun b => ({ source := src 11 (b + h), dom := domHearth h, init := hearthInit h 0xD, access := 8 } : Ev)
  let excess := decide (s.sys.mode = .lit) && decide (lim (a + s.entering h) < s.lv (0xC010 + h) 3)
  let s := s.cond (ev 8) (excess && (retired || s.isPresent (src 11 (8 + h))))
  s.cond (ev 16) (decide (a < 28))

/-- Whether an arbitration, of its pair or of the twins, keeps a withy out of dispatch (R269, R281). -/
def State.inArbitration (s : State) (w : Nat) : Bool :=
  (s.pair.pairs.get {} (withyHearth w % 4)).arb.contains w || s.pair.twinWids.contains w

/-- Whether a withy may receive jobs. -/
def State.takesJobs (s : State) (w : Nat) : Bool :=
  decide (s.wState w = 0) && !(s.withySt w).marked && !s.inArbitration w && s.hearthRuns (withyHearth w)

/-! Jobs. -/

def Job.is (a b : Job) : Bool :=
  decide (a.h = b.h) && decide (a.flow = b.flow) && decide (a.f = b.f) && decide (a.j = b.j) && decide (a.col = b.col)

def State.updJobs (s : State) (p : Job → Bool) (g : Job → Job) : State :=
  s.updPipe (fun x => { x with jobs := x.jobs.map (fun b => if p b then g b else b) })

def State.setJob (s : State) (b : Job) (g : Job → Job) : State := s.updJobs (fun x => x.is b) g

def Job.isReady (b : Job) : Bool := match b.at_ with | .ready _ => true | _ => false
def Job.runsOn (b : Job) (w : Nat) : Bool := match b.at_ with | .running v _ => decide (v = w) | _ => false
def Job.waitsOn (b : Job) (w : Nat) : Bool := match b.at_ with | .prefetched v => decide (v = w) | _ => false

def State.current (s : State) (w : Nat) : Option Job := s.pipe.jobs.find? (fun b => b.runsOn w)
def State.prefetch (s : State) (w : Nat) : Option Job := s.pipe.jobs.find? (fun b => b.waitsOn w)

/-- Instant at which a job that runs ends (R8, R39). -/
def Job.ends (b : Job) : Nat := match b.at_ with | .running _ t => t + jobTime b.samples | _ => 0

/-- A job with no dependence left becomes ready, unless it lies in a prefetch slot. -/
def Job.settle (now : Nat) (b : Job) : Job :=
  if b.deps.isEmpty then
    match b.at_ with
    | .waiting => { b with at_ := .ready now, readyAt := now }
    | .prefetched _ => { b with readyAt := now }
    | _ => b
  else b

/-- A dependence satisfied for some jobs (R104). A job whose reference dependence falls after Tf is counted, once its last reference
is there (Table 4-5). -/
def State.satisfy (s : State) (d : Dep) (p : Job → Bool) : State :=
  let hit := fun (b : Job) => p b && b.deps.contains d
  let isRef := fun (x : Dep) => match x with | .ref _ => true | _ => false
  let late := if isRef d then s.pipe.jobs.filter (fun b => hit b && !(b.deps.contains .council) && b.deps.all (fun x => decide (x = d) || !isRef x)) else []
  let s := s.updJobs hit (fun b => (({ b with deps := b.deps.filter (· ≠ d) } : Job)).settle s.now)
  eachIn late (fun b s => s.inc (0xC010 + b.h) 0xA) s

/-- Whether a picture's flow stripe stands in a hearth's reference. -/
def State.refFinal (s : State) (h flow f j : Nat) : Bool :=
  s.pipe.refs.any (fun r => decide (r.h = h) && decide (r.flow = flow) && decide (r.j = j) && decide (r.f = f) && r.final)

/-- The reference that a hearth holds of a flow stripe for picture f: that of the latest picture before it. -/
def State.refBefore (s : State) (h flow j f : Nat) : Option RefStripe :=
  (s.pipe.refs.filter (fun r => decide (r.h = h) && decide (r.flow = flow) && decide (r.j = j) && decide (r.f < f))).foldl
    (fun (b : Option RefStripe) r => match b with | some x => if x.f < r.f then some r else b | none => some r) none

def State.putRef (s : State) (r : RefStripe) : State :=
  s.updPipe (fun x => { x with refs := r :: x.refs.filter (fun y =>
    !(decide (y.h = r.h) && decide (y.flow = r.flow) && decide (y.j = r.j) && decide (y.f = r.f))) })

def State.doneOf (s : State) (h flow f j col : Nat) : Option Done :=
  s.pipe.done.find? (fun d => decide (d.h = h) && decide (d.flow = flow) && decide (d.f = f) && decide (d.j = j) && decide (d.col = col))

/-- Whether jobs of a flow stripe run on a hearth or all have ended there: jobs that were ended with their hearth or channel count for
none. -/
def State.hasJobs (s : State) (h flow f j : Nat) : Bool :=
  s.pipe.jobs.any (fun b => decide (b.h = h) && decide (b.flow = flow) && decide (b.f = f) && decide (b.j = j)) ||
  decide ((s.pipe.done.filter (fun d => decide (d.h = h) && decide (d.flow = flow) && decide (d.f = f) && decide (d.j = j))).length = gCw s.comm flow)

/-- Reach of a reference, ceil(72 / S). -/
def reach (m : Tbl Val) (n : Nat) : Nat := ceilDiv 72 (gS m n)

/-- Flow stripes of the previous picture that flow stripe j reads (Table 4-1). -/
def refWindow (m : Tbl Val) (n j : Nat) : List Nat :=
  (List.range (gNf m n)).filter (fun i => decide (j ≤ i + 1) && decide (i ≤ j + reach m n))

/-- Whether the reference dependence on a flow stripe of a picture has been satisfied: its reference is final, or its readiness
deadline has passed and no job of it ran on the hearth (R440). -/
def State.refThere (s : State) (h n f i : Nat) : Bool :=
  s.refFinal h n f i ||
    ((s.stripe (flow s.comm n 2) f (belongs s.comm n i)).elim true Stripe.dead && !s.hasJobs h n f i)

/-- Dependences of Table 4-1 that apply to a job of a flow whose first picture is that of frame `first`, those already
satisfied left out. -/
def State.depsOf (s : State) (h n f j col : Nat) (first : Bool) (tf : Bool) : List Dep :=
  let m := s.comm
  let w := max 1 (s.segW n)
  let sameSeg := fun a b => decide (a / w = b / w)
  let left := if col ≠ 0 ∧ sameSeg col (col - 1) then [Dep.job j (col - 1)] else []
  let up := if j = 0 then []
    else if col + 1 < gCw m n ∧ sameSeg col (col + 1) then [Dep.job (j - 1) (col + 1)] else [Dep.job (j - 1) col]
  let refs := if first then [] else ((refWindow m n j).filter (fun i => !s.refThere h n (f - 1) i)).map Dep.ref
  (left ++ up).filter (fun d => match d with
    | .job i c => (s.doneOf h n f i c).isNone
    | _ => true) ++ (if tf then [] else [.council]) ++ refs

/-- The jobs of one flow stripe on a hearth (R104). -/
def State.buildJobs (s : State) (h c n f k j : Nat) (deadline : Nat) (tf : Bool) : List Job :=
  let m := s.comm
  let first := decide ((s.flowSt n).firstOf f = f)
  (List.range (gCw m n)).map (fun col =>
    (({ h := h, c := c, flow := n, f := f, k := k, j := j, col := col, seg := col / max 1 (s.segW n),
        samples := ctuW m n col * ctuH m n j, deadline := deadline, deps := s.depsOf h n f j col first tf } : Job)).settle s.now)

/-! Dispatch (R106 to R109). -/

/-- Allocated pixel rate of a canvas on a hearth, times 1001. -/
def State.hearthRate (s : State) (h c : Nat) : Nat :=
  sumList (((s.pipe.placed.filter (fun p => decide (s.runsOn p.2 % 4 = h % 4) && decide (p.2 % 4 = h % 4) && decide (flow s.comm p.1 2 = c)
    && (s.cm 0x8200 1 ≠ 0 || decide (p.2 = h)))).map (fun p => pix1001 s.comm p.1)))

/-- Canvases on a hearth, and their weights (R107) in units of 1 / 1001 pix/s, in which SHARE_WEIGHT and an allocated rate in Mpix/s are
both whole. -/
def State.canvasesOn (s : State) (h : Nat) : List Nat :=
  (chanOn s.comm).filter (fun c => (s.hearthsOf c).contains h)
def State.weight (s : State) (h c : Nat) : Nat :=
  let w := s.cm (0xC020 + c) 1
  if w = 0 then s.hearthRate h c else w * 1001000000

/-- Jobs of step 3 of R106 that are ready on a hearth. -/
def State.readyList (s : State) (h c : Nat) : List Job :=
  s.pipe.jobs.filter (fun b => decide (b.h = h) && decide (b.c = c) && b.isReady && !b.rerun && !b.late)

def Job.before (a b : Job) : Bool :=
  let ka := [if a.head then 0 else 1, a.deadline, a.flow, a.j, a.col]
  let kb := [if b.head then 0 else 1, b.deadline, b.flow, b.j, b.col]
  match (List.zip ka kb).find? (fun p => p.1 ≠ p.2) with
  | some p => decide (p.1 < p.2)
  | none => false

def leastJob (lt : Job → Job → Bool) (bs : List Job) : Option Job :=
  bs.foldl (fun best b => match best with | none => some b | some x => if lt b x then some b else best) none

def Job.older (a b : Job) : Bool :=
  if a.head ≠ b.head then a.head else if a.order ≠ b.order then decide (a.order < b.order) else a.before b

/-- The canvas R107 serves: the largest credit among those with ready jobs, the lowest channel on a tie. -/
def State.servedCanvas (s : State) (h : Nat) : Option Nat :=
  (List.range 16).foldl (fun best c =>
    if (s.readyList h c).isEmpty then best
    else match best with
      | none => some c
      | some b => if (s.hearthSt h).credit.get 0 b < (s.hearthSt h).credit.get 0 c then some c else best) none

/-- The job R106 chooses on a hearth, and whether it comes from step 3. -/
def State.chooseJob (s : State) (h : Nat) : Option (Job × Bool) :=
  let here := s.pipe.jobs.filter (fun b => decide (b.h = h) && b.isReady)
  match leastJob Job.older (here.filter Job.rerun) with
  | some b => some (b, false)
  | none =>
    match leastJob Job.older (here.filter (fun b => b.late && !b.rerun)) with
    | some b => some (b, false)
    | none =>
      match s.servedCanvas h with
      | some c => (leastJob Job.before (s.readyList h c)).map (fun b => (b, true))
      | none => none

/-- Idle withies and withies with an empty prefetch slot, in skein and position order. -/
def State.idleWithy (s : State) (h : Nat) : Option Nat :=
  (hearthWithies h).find? (fun w => s.takesJobs w && (s.current w).isNone && (s.prefetch w).isNone)
def State.slotWithies (s : State) (h : Nat) : List Nat :=
  (hearthWithies h).filter (fun w => s.takesJobs w && (s.current w).isSome && (s.prefetch w).isNone)

/-- The withy R108 prefers for a job. -/
def State.chooseWithy (s : State) (b : Job) : Option Nat :=
  let slots := s.slotWithies b.h
  match slots.find? (fun w => match s.current w with
      | some x => decide (x.flow = b.flow) && decide (x.f = b.f) && decide (x.j = b.j) && decide (x.col + 1 = b.col) && decide (x.seg = b.seg)
      | none => false) with
  | some w => some w
  | none =>
    match s.idleWithy b.h with
    | some w => some w
    | none => slots.foldl (fun best w =>
        match best with
        | none => some w
        | some v => if ((s.current w).map Job.ends).getD 0 < ((s.current v).map Job.ends).getD 0 then some w else best) none

/-- Bin of a wait or slack in 1/36 ns: 0 below 0.125 µs, i from 0.125 × 2^(i−1) µs, 15 from 2,048 µs (R116). -/
def histBin (t : Nat) : Nat :=
  let n := t / 4500
  if n = 0 then 0 else min 15 (1 + log2Go 64 n)

/-- A job starts on a withy (R109); its wait enters the window's histogram (R116). -/
def State.startJob (s : State) (b : Job) (w : Nat) : State :=
  let s := s.setJob b (fun b => { b with at_ := .running w s.now, head := false })
  s.updHearth b.h (fun x => { x with waits := x.waits.upd 0 (histBin (s.now - b.readyAt)) (· + 1) })

/-- Credit after a dispatch from step 3 (R107), held between ±524,288. -/
def State.charge (s : State) (h c samples : Nat) : State :=
  s.updHearth h (fun x => { x with credit := x.credit.upd 0 c (fun v => clampInt (v - samples) (-524288) 524288) })

/-- A chosen job placed on a withy: started when the withy is idle, else prefetched. -/
def State.placeJob (s : State) (b : Job) (w : Nat) (charged : Bool) : State :=
  let s := if charged then s.charge b.h b.c b.samples else s
  if (s.current w).isNone then s.startJob b w else s.setJob b (fun b => { b with at_ := .prefetched w })

/-- Chained prefetches (R108): a job whose only dependence left is a job running on a withy with an empty slot. -/
def State.chain (s : State) (h : Nat) : State :=
  eachIn (s.slotWithies h) (fun w s =>
    match s.current w with
    | none => s
    | some x =>
      match s.pipe.jobs.find? (fun b => decide (b.h = h) && decide (b.flow = x.flow) && decide (b.f = x.f) && decide (b.j = x.j) &&
          decide (b.col = x.col + 1) && decide (b.seg = x.seg) && decide (b.deps = [Dep.job x.j x.col]) &&
          decide (b.at_ = .waiting)) with
      | some b =>
        let s := s.setJob b (fun b => { b with at_ := .prefetched w })
        if b.rerun || b.late then s else s.charge h b.c b.samples
      | none => s) s

/-- Free job slots filled while there are jobs for them (R106). -/
def State.dispatchGo (s : State) (h : Nat) : Nat → State
  | 0 => s
  | fuel + 1 =>
    match s.chooseJob h with
    | none => s
    | some (b, charged) =>
      match s.chooseWithy b with
      | none => s
      | some w => State.dispatchGo ((s.placeJob b w charged).chain h) h fuel

/-- READY_MAX of the window, then dispatch. A canvas whose ready list is empty has its credit held at 0 or below. -/
def State.dispatch (s : State) (h : Nat) : State :=
  if !s.hearthRuns h then s else
  let depth := sumList ((List.range 16).map (fun c => (s.readyList h c).length))
  let s := s.updHearth h (fun x => { x with readyMax := max x.readyMax depth })
  let s := (s.chain h).dispatchGo h (s.pipe.jobs.length + 1)
  s.updHearth h (fun x => { x with credit := x.credit.map (fun e =>
    if (s.readyList h e.1).isEmpty then (e.1, min e.2 0) else e) |>.filter (fun e => decide (e.2 ≠ 0)) })

/-! Completion (R101, R103, R104). -/

/-- A line of a frame as composed. -/
def State.composedLine (s : State) (c f y : Nat) : Option CLine :=
  ((s.comp.get {} c).frames.find? (fun x => decide (x.f = f))).bind (fun x => x.lines.get none y)

/-- Columns of the segment of a column. -/
def State.segOf (s : State) (n col : Nat) : List Nat := segCols s.comm n (s.segW n) (col / max 1 (s.segW n))

/-- Unfiltered samples of CTUs by row and column, of those that exist (R101, R102). -/
def State.raws (s : State) (h n f : Nat) (at_ : List (Nat × Nat)) : List Nat :=
  at_.filterMap (fun p => (s.doneOf h n f p.1 p.2).map (fun d => d.recon.raw))

/-- Left, above-left, above and above-right neighbours of a job in its own segment (R101). -/
def State.neighboursOf (s : State) (b : Job) : List (Nat × Nat) :=
  let cols := s.segOf b.flow b.col
  let left := if b.col ≠ 0 ∧ cols.contains (b.col - 1) then [b.col - 1] else []
  let right := if cols.contains (b.col + 1) then [b.col + 1] else []
  left.map (fun c => (b.j, c)) ++ (if b.j = 0 then [] else (left ++ [b.col] ++ right).map (fun c => (b.j - 1, c)))

/-- Composed samples of a job's CTU (R101). -/
def State.jobSamples (s : State) (b : Job) : List Nat :=
  let m := s.comm
  let y0 := flow m b.flow 6 + b.j * gS m b.flow
  let x0 := flow m b.flow 5 + b.col * gS m b.flow - (window m b.c).x
  let w := ctuW m b.flow b.col
  (List.range (ctuH m b.flow b.j)).flatMap (fun i =>
    match s.composedLine b.c b.f (y0 + i) with
    | some l => (l.y.drop x0).take w ++ (l.cb.drop (x0 / 2)).take (w / 2) ++ (l.cr.drop (x0 / 2)).take (w / 2)
    | none => [])

/-- The reference window of a job: flow stripes j − 1 to j + r of the reference, as finished (R101, Table 4-1). -/
def State.jobWindow (s : State) (b : Job) : List Nat :=
  if (s.flowSt b.flow).firstOf b.f = b.f then []
  else (refWindow s.comm b.flow b.j).flatMap (fun i =>
    match s.refBefore b.h b.flow i b.f with
    | some r => r.recon.flatMap (fun x => [x.own, x.seam])
    | none => [])

/-- What a job's coded bits depend on (R72, R110): the picture's place in its sequence, its type and its place in a refresh (R52, R272), the
CTU's place, complexities, the
rate inputs that Tf latched, the work of the latched draught (R84, R86), the parameter sets, the neighbours of its own segment, the
reference window and the composed samples. -/
def State.jobInputs (s : State) (b : Job) : List Nat :=
  let x := s.flowSt b.flow
  let hevc := isHevc s.comm b.c
  let rate := match x.rateOf b.f b.j with
    | some r => [unsigned 16 r.q] ++ (effortOf hevc r.draught).args ++ r.shares
    | none => []
  [x.poc hevc b.f, (x.picType hevc b.f).code, b.j, b.col, x.complexity b.f b.j] ++ x.refreshArgs b.f ++ rate ++ ((x.params.map ParamSets.args).getD []) ++
    s.raws b.h b.flow b.f (s.neighboursOf b) ++ s.jobWindow b ++ s.jobSamples b

/-- Jobs of a slice that are not finished. -/
def State.openJobs (s : State) (b : Job) : Bool :=
  s.pipe.jobs.any (fun x => decide (x.h = b.h) && decide (x.flow = b.flow) && decide (x.f = b.f) && decide (x.j = b.j) && decide (x.seg = b.seg))

/-- How a job is coded and the bits it takes (R69). In cap mode CLAMP, once the segment's bits and 16 for each uncoded CTU reach the
segment's share, or this CTU's would take it past the share, it and those after it are coded at the highest QP, and as skip CUs, of at
most 16 bits each, where that does not fit (assumption 97). -/
def State.codeJob (s : State) (b : Job) : Nat × Nat :=
  let base := s.jobInputs b
  let bits := fun (mode : Nat) => Config.codedBits (mode :: base)
  match (s.flowSt b.flow).rateOf b.f b.j with
  | none => (0, bits 0)
  | some r =>
    if capStandIn s.comm b.flow then (0, bits 0) else
    let cols := s.segOf b.flow b.col
    let before := (cols.filter (· < b.col)).filterMap (fun c => s.doneOf b.h b.flow b.f b.j c)
    let spent := sumList (before.map Done.bits)
    let open_ := (cols.filter (b.col ≤ ·)).length
    let share := r.shares.getD b.seg 0
    let fits := fun v => decide (spent + v + 16 * (open_ - 1) ≤ share)
    let was := maxList (before.map Done.mode)
    if was = 0 ∧ spent + 16 * open_ < share ∧ fits (bits 0) then (0, bits 0)
    else if was ≤ 1 ∧ fits (bits 1) then (1, bits 1)
    else (2, min (bits 2) (min 16 ((share - spent) / max 1 open_)))

/-- Whether the composed samples of some columns of a job's flow stripe hold poisoned ones (R147). -/
def State.readsPoison (s : State) (b : Job) (cols : List Nat) : Bool :=
  let m := s.comm
  let x0 := flow m b.flow 5 + cols.headD 0 * gS m b.flow
  let w := sumList (cols.map (ctuW m b.flow))
  (List.range (ctuH m b.flow b.j)).any (fun i =>
    match s.composedLine b.c b.f (flow m b.flow 6 + b.j * gS m b.flow + i) with
    | some l => l.poisonIn x0 w
    | none => false)

/-- A segment row's last job has ended: its slice, copied into the output buffer within 4 µs (R103). A slice one of whose
jobs ran late gives no coded output (R105). -/
def State.sliceDone (s : State) (b : Job) : State :=
  let ds := (s.segOf b.flow b.col).filterMap (fun c => s.doneOf b.h b.flow b.f b.j c)
  let bits := sumList (ds.map Done.bits)
  let args := ds.flatMap (fun d => [d.mode, d.bits, d.recon.raw])
  let x : Slice := {
    h := b.h, c := b.c, flow := b.flow, f := b.f, k := b.k, j := b.j, seg := b.seg, bits := bits,
    hash := (bits / 8 % 2 ^ 32) * 2 ^ 32 + (Config.sliceCrc args).toNat, doneAt := s.mono, late := b.late, lost := ds.any Done.lost, wids := ds.map Done.wid,
    poisoned := s.readsPoison b (s.segOf b.flow b.col) || ds.any Done.poisoned }
  s.updPipe (fun p => { p with slices := p.slices ++ [x] })

/-- Busy time of a withy in the running window up to now, for a job that runs on it (Tables 4-5 and 4-7). -/
def State.creditBusy (s : State) (b : Job) : State :=
  match b.at_ with
  | .running w since => s.updWithy w (fun x => { x with busy := x.busy + (s.now - max since s.pipe.obsAt) })
  | _ => s

/-- Jobs that end with what they belong to: their withies' busy time stays counted. -/
def State.endJobs (s : State) (p : Job → Bool) : State :=
  (eachIn (s.pipe.jobs.filter p) (fun b s => s.creditBusy b) s).updPipe (fun x => { x with jobs := x.jobs.filter (fun b => !p b) })

/-- A job ends on its withy (R101, R102, R104): coded bits, unfiltered reconstruction, what it finalises with its left and above
neighbours, dependences, the slice, the prefetched job. -/
def State.finishJob (s : State) (b : Job) (w : Nat) : State :=
  let code := s.codeJob b
  let raw := Config.recon (code.1 :: s.jobInputs b)
  let d : Done := {
    h := b.h, flow := b.flow, f := b.f, j := b.j, col := b.col, bits := code.2, mode := code.1,
    recon := { raw := raw, own := Config.filtered (0 :: raw :: s.raws b.h b.flow b.f (s.neighboursOf b)) }, wid := w, lost := b.lost,
    poisoned := b.poisoned, refPoisoned := b.refPoisoned || s.readsPoison b [b.col] }
  let s := s.creditBusy b
  let s := s.updPipe (fun p => { p with jobs := p.jobs.filter (fun x => !(x.is b)), done := p.done ++ [d] })
  let s := s.updWithy w (fun x => { x with jobs := x.jobs + 1 })
  let s := if s.openJobs b then s else s.sliceDone b
  let s := s.satisfy (.job b.j b.col) (fun x => decide (x.h = b.h) && decide (x.flow = b.flow) && decide (x.f = b.f))
  match s.prefetch w with
  | some p => (s.startJob p w)
  | none => s

/-! References (R102, R105, R440). -/

/-- The next picture's jobs that read a flow stripe of the reference go on. -/
def State.refSatisfied (s : State) (h n f j : Nat) : State :=
  s.satisfy (.ref j) (fun b => decide (b.h = h) && decide (b.flow = n) && decide (b.f = f + 1))

/-- A flow stripe of the reference is final. -/
def State.refDone (s : State) (h n f j : Nat) (recon : List Ctu) (bad : Bool) : State :=
  (s.putRef { h := h, flow := n, j := j, f := f, final := true, recon := recon, poisoned := bad }).refSatisfied h n f j

/-- The reference left as it was for a stripe without jobs (R440). -/
def State.refKeep (s : State) (h n f j : Nat) : State :=
  let r := s.refBefore h n j f
  s.refDone h n f j (r.elim [] RefStripe.recon) (r.any RefStripe.poisoned)

/-- The precomputed reconstruction of a fill picture: FILL_COLOUR in every sample (R95, R440). -/
def State.refFill (s : State) (h n f j : Nat) : State :=
  let v := flow s.comm n 0xE
  s.refDone h n f j (List.replicate (gCw s.comm n) { raw := v, own := v, seam := v }) false

/-- The CTUs of a flow stripe as the seam filter leaves them (R102): at a segment's edges, on the last row and on the group's edge it
finishes bands from the unfiltered samples on both sides. -/
def State.seamed (s : State) (h n f j : Nat) : List Ctu :=
  let m := s.comm
  (List.range (gCw m n)).filterMap (fun col =>
    (s.doneOf h n f j col).map (fun d =>
      let cols := s.segOf n col
      let edge := decide (cols.head? = some col) || decide (cols.getLast? = some col) || decide (j + 1 = gNf m n)
      let around := [(j, col)] ++ (if col = 0 then [] else [(j, col - 1)]) ++ [(j, col + 1)] ++
        (if j = 0 then [] else [(j - 1, col)] ++ (if col = 0 then [] else [(j - 1, col - 1)]) ++ [(j - 1, col + 1)])
      { d.recon with seam := if edge then Config.filtered (1 :: s.raws h n f around) else 0 }))

/-! Fencing and spares (R111 to R113, R439). -/

/-- Whether a hearth serves a running canvas. -/
def State.hearthServes (s : State) (h : Nat) : Bool := s.runningChans.any (fun c => (s.hearthsOf c).contains h)

/-- The skein's spare starts its 20 µs self-test (R113); `wear` when the wear record has it enter (R10). -/
def State.testSpare (s : State) (sk : Nat) (wear : Bool) : State :=
  match (skeinWithies sk).find? (fun w => decide (s.wState w = 1) && !(s.withySt w).marked) with
  | some w => s.updWithy w (fun x => { x with st := 2, testEnd := some (s.now + tuUs 20), passed := false, wearTest := wear })
  | none => s

/-- A lost job runs again from the same inputs (R111); a prefetched one returns to the head of its step (R109). -/
def State.returnJobs (s : State) (w : Nat) : State :=
  let s := match s.current w with
    | some b =>
      let o := s.pipe.order
      let s := (s.creditBusy b).setJob b (fun b => { b with at_ := .ready s.now, readyAt := s.now, rerun := true, lost := true, order := o, head := false })
      (s.updPipe (fun p => { p with order := o + 1 })).inc (0xC010 + b.h) 8
    | none => s
  match s.prefetch w with
  | some b => s.setJob b (fun b => { b with at_ := if b.deps.isEmpty then .ready s.now else .waiting, head := true })
  | none => s

/-- A withy fenced (R111): it receives no further jobs and its skein's spare is tested (R113). One fenced or retired already stays so. -/
def State.fenceWithy (s : State) (w : Nat) : State :=
  if 3 ≤ s.wState w then s else
  let s := (s.returnJobs w).accrue (withyHearth w)
  let s := s.updWithy w (fun x => { x with st := 3, testEnd := none })
  (s.testSpare (withySkein w) false).countWithies (withyHearth w) false

/-- A withy retired for good and entered in the wear record (R10, R115, R332). -/
def State.retireWithy (s : State) (w : Nat) : State :=
  let inj := (s.withySt w).injected
  (s.updWithy w (fun x => { x with st := 4, testEnd := none, marked := false })).wearEnter 1 (if inj then 3 else 1) (withyInit w) 0x8000

/-- Whether a skein stands under its escalated recovery, its withies fenced (R326). -/
def State.skeinHeld (s : State) (sk : Nat) : Bool := (s.recoveryOf (domSkein sk)).isSome

/-- Step 1 of R31 on a skein: its spare that passed enters in place of the fenced withy, which is retired; a withy that
runs its own self-test after a skein recovery returns; a fenced withy without a spare is retired. -/
def State.skeinBoundary (s : State) (sk : Nat) : State :=
  if s.skeinHeld sk then s else
  let ws := skeinWithies sk
  let tested := ws.filter (fun w => decide (s.wState w = 2) && (s.withySt w).passed)
  let testing := ws.any (fun w => decide (s.wState w = 2) && !(s.withySt w).passed)
  let fenced := ws.filter (fun w => decide (s.wState w = 3))
  let s := if fenced.isEmpty && tested.isEmpty then s else s.accrue (sk / 4)
  let s := if testing then s else eachIn fenced (fun w s => s.retireWithy w) s
  let s := eachIn tested (fun w s => s.updWithy w (fun x => { x with st := 0, testEnd := none, passed := false, wearTest := false })) s
  let s := if testing || (fenced.isEmpty && tested.isEmpty) then s
    else { s with flt := { s.flt with withyRec := s.flt.withyRec.put false sk false } }
  let s := if tested.isEmpty then s else s.updHearth (sk / 4) (fun x => { x with enteredAt := some s.mono })
  if fenced.isEmpty && tested.isEmpty then s else s.countWithies (sk / 4) (!testing && !fenced.isEmpty)

def State.hearthBoundary (s : State) (h : Nat) : State :=
  (eachBelow 4 (fun i s => s.skeinBoundary (4 * h + i)) s).dispatch h

/-- A change to a hearth that waits for a boundary of a canvas it serves; at once where it serves none (R439). -/
def State.boundaryIfIdle (s : State) (h : Nat) : State := if s.hearthServes h then s else s.hearthBoundary h

/-- TWIN_MODE as the twin duty runs it: PAIRED-SHADOW runs as PAIRED-LEAN under sag level 1 (R277). -/
def State.twinMode (s : State) : Nat :=
  let m := s.cm 0x8210 1
  if m = 2 ∧ s.pair.twinLean then 1 else m

/-- Whether a hearth codes a flow's picture of frame f: after a switch-over with a gap, the standby codes from the frame of
R272 on; a standby twin in PAIRED-LEAN, or without its duty under sag level 3, codes nothing until it has taken over (R277, R283). -/
def State.mayCode (s : State) (h n f : Nat) : Bool :=
  let c := flow s.comm n 2
  (match (s.pair.pairs.get {} (h % 4)).resume.get none c with
   | some r => decide (r ≤ f)
   | none => true) &&
  (match s.pair.twinFrom.get none c with
   | some r => decide (r ≤ f)
   | none => true) &&
  !(decide (s.twinMode = 1 ∨ s.lv 0x8210 8 = 6) && s.pair.muted.contains c)

/-! Commands. -/

/-- STRIPE_READY (R104, R267): the Grate of a hearth builds the jobs of the flow stripes that belong to the stripe. -/
def execStripeReady (t : Nat) (h : Fin 8) (c : Fin 16) (f k : Nat) (s : State) : Host.Outcome State Fault Refusal :=
  act t (fun s =>
    match s.stripe c f k with
    | some x =>
      if x.composed && !x.inserted && x.whole.isNone && !(x.ready.contains h.val) && !x.dead && (s.hearthsOf c).contains h.val && s.hearthRuns h then
        let s := s.updStripe c f k (fun x => { x with ready := x.ready ++ [h.val] })
        let parts := (s.partsOf c k).filter (fun p => (s.codersOf p.1).contains h.val && s.mayCode h p.1 f && (s.flowSt p.1).sends f && !(s.flowSt p.1).fills f)
        let s := eachIn parts (fun p s => s.updPipe (fun q => { q with
          jobs := q.jobs ++ s.buildJobs h c p.1 f k p.2 (s.deadlineOf x) x.tf })) s
        s.dispatch h
      else s
    | none => s) s

/-- The offset of a channel held in one module: the pixel-weighted mean of its flows' q_own (R71). -/
def State.soloOffset (s : State) (c f k : Nat) : Option Int :=
  let r := s.ownSummary c f k { f := f, k := k }
  if r.w = 0 then none else some (roundDivInt r.wq r.w)

/-- COUNCIL_DEPENDENCE_TF (R79): the result of the round, or its absence, is latched with the draught in force, the
stripes' targets and QPs are fixed, a refresh asked for begins with stripe 0, and the council dependence ends. -/
def execCouncilDependenceTf (t : Nat) (c : Fin 16) (f k : Nat) (s : State) : Host.Outcome State Fault Refusal :=
  act t (fun s =>
    match s.stripe c f k with
    | some x =>
      if x.tf || !s.due (s.tfOf x) || decide (s.sys.mode = .damped) || x.inserted then s else
      let solo := s.solo c
      let offset := if solo then s.soloOffset c f k else (match x.bcast with | some b => b.1 | none => none)
      let late := !solo && x.bcast.isNone && !(s.chanOf c).held
      let s := if late then (s.inc (0x4100 + c) 0xC).updCouncil c (fun y => { y with late := y.late + 1 }) else s
      let s := match x.bcast with
        | some b => if solo then s else s.updChan c (fun y => { y with councilDraught := some b.2 })
        | none => s
      let dr := s.lv (0x4200 + c) 2
      let s := s.updStripe c f k (fun x => { x with tf := true, offset := offset, draught := dr })
      let parts := (s.partsOf c k).filter (fun p => (s.flowSt p.1).sends f && !(s.flowSt p.1).fills f && s.codes c)
      let s := eachIn parts (fun p s =>
        let s := if p.2 = 0 then s.beginAsked p.1 f else s
        let s := s.updFlow p.1 (fun y => y.count (budgetP s.comm p.1) f)
        s.fixRate c p.1 f p.2 dr offset) s
      let s := if 2 ≤ dr ∧ parts ≠ [] then s.inc (0x4200 + c) 7 else s
      let s := s.satisfy .council (fun b => decide (b.c = c.val) && decide (b.f = f) && decide (b.k = k))
      eachBelow 8 (fun h s => s.dispatch h) s
    | none => s) s

/-- The bits-versus-QP model refitted once a whole stripe is coded (R71, R110). -/
def State.refit (s : State) (b : Job) : State :=
  let whole := !(s.pipe.jobs.any (fun x => decide (x.h = b.h) && decide (x.flow = b.flow) && decide (x.f = b.f) && decide (x.j = b.j)))
  if whole && decide (s.activeHearth b.flow = some b.h) then
    let bits := sumList ((s.pipe.done.filter (fun d => decide (d.h = b.h) && decide (d.flow = b.flow) && decide (d.f = b.f) && decide (d.j = b.j))).map Done.bits)
    s.updFlow b.flow (fun x => { x with model := ((bits, x.complexity b.f b.j,
      ((x.rateOf b.f b.j).map RateIn.q).getD 0) :: x.model).take 8 })
  else s

/-- JOB_COMPLETE (R104): a withy finishes its job, at the end of the job's fixed time (R8). -/
def execJobComplete (t : Nat) (wid : Fin 288) (s : State) : Host.Outcome State Fault Refusal :=
  act t (fun s =>
    match s.current wid with
    | some b =>
      if b.ends ≤ s.now then ((s.finishJob b wid).refit b).dispatch b.h else s
    | none => s) s

/-- SEAM_FILTER_DONE (R102, R104): the seam filter finishes a flow stripe once all its jobs have ended. -/
def execSeamFilterDone (t : Nat) (h : Fin 8) (flow : Fin 4096) (f j : Nat) (s : State) : Host.Outcome State Fault Refusal :=
  act t (fun s =>
    let ds := (List.range (gCw s.comm flow)).filterMap (fun col => s.doneOf h flow f j col)
    if decide (ds.length = gCw s.comm flow) && !s.refFinal h flow f j then
      (s.refDone h flow f j (s.seamed h flow f j) (ds.any Done.refPoisoned)).dispatch h
    else s) s

/-- GRATE_CREDIT_TICK (R107): 2,400 × Wc / ΣW, rounded down to whole samples (assumption 100), for each canvas whose ready list is not
empty. -/
def execGrateCreditTick (t : Nat) (h : Fin 8) (s : State) : Host.Outcome State Fault Refusal :=
  act t (fun s =>
    let cs := s.canvasesOn h
    let total := sumList (cs.map (s.weight h))
    if total = 0 then s else
    (eachIn cs (fun c s =>
      if (s.readyList h c).isEmpty then s.updHearth h (fun x => { x with credit := x.credit.upd 0 c (fun v => min v 0) })
      else s.updHearth h (fun x => { x with credit := x.credit.upd 0 c (fun v =>
        clampInt (v + (2400 * s.weight h c / total : Nat)) (-524288) 524288) })) s).dispatch h) s

/-- MISSING_STRIPE_COPY_DONE (R105): co-located samples of the previous reference stand for every CTU of a stripe whose
stripe-ready never arrived; jobs that wait for them as above or above-right go on. The reference dependence on such a stripe has ended
at its readiness deadline (R440, assumption 101). -/
def execMissingStripeCopyDone (t : Nat) (h : Fin 8) (c : Fin 16) (f k : Nat) (s : State) : Host.Outcome State Fault Refusal :=
  act t (fun s =>
    match s.stripe c f k with
    | some x =>
      if x.dead && !(x.ready.contains h.val) && x.whole.isNone && !x.inserted then
        let parts := (s.partsOf c k).filter (fun p => (s.codersOf p.1).contains h.val && (s.flowSt p.1).sends f && !(s.flowSt p.1).fills f)
        let s := eachIn parts (fun p s =>
          let ref := s.refBefore h p.1 p.2 f
          let recon := ref.elim [] RefStripe.recon
          let s := eachBelow (gCw s.comm p.1) (fun col s =>
            let s := s.updPipe (fun q => { q with done := q.done ++ [{ h := h, flow := p.1, f := f, j := p.2, col := col, bits := 0, recon := recon.getD col {} }] })
            s.satisfy (.job p.2 col) (fun b => decide (b.h = h.val) && decide (b.flow = p.1) && decide (b.f = f))) s
          s.refDone h p.1 f p.2 recon (ref.any RefStripe.poisoned)) s
        (s.updStripe c f k (fun x => { x with ready := x.ready ++ [h.val] })).dispatch h
      else s
    | none => s) s

end Sys2Proof.Machine
end

