-- ==== Sys2Proof/Machine/Mirror.lean ====
section
/-!
DEFINITION. Mirror records (R266, R267, R281): what the standby of a pair holds, and what a send token carries.

A record is a list of 64-bit words with a CRC-32C over them, each least significant byte first (assumption 124).
-/
namespace Sys2Proof.Machine

def State.pairSt (s : State) (i : Nat) : PairSt := s.pair.pairs.get {} i
def State.updPairs (s : State) (f : Pairs → Pairs) : State := { s with pair := f s.pair }
def State.updPair (s : State) (i : Nat) (f : PairSt → PairSt) : State :=
  s.updPairs (fun p => { p with pairs := p.pairs.upd {} i f })

def State.paired (s : State) : Bool := decide (s.cm 0x8200 1 ≠ 0)

/-- Flows placed on a pair. -/
def State.flowsOnPair (s : State) (i : Nat) : List Nat := (s.pipe.placed.filter (fun p => decide (p.2 % 4 = i))).map Prod.fst

/-- PAIR_STATE; entering 0x01 or 0x05 ends the pair's recovery (R278). -/
def State.setPairState (s : State) (i v : Nat) : State :=
  let s := s.setN (0x8201 + i) 1 v
  if v = 1 ∨ v = 5 then
    match s.recoveryOf (domPair i) with
    | some r => s.endRecovery r 4
    | none => s
  else s

/-! Records. -/

def recordCrc (nums : List Nat) : Nat := crc32c (nums.flatMap (fun v => leBytes 8 v))

/-- A record as received: of one that fails its CRC, the CRC is wrong (assumption 124). -/
def recordOf (nums : List Nat) (bad : Bool) : MirrorRec :=
  { nums := nums, crc := if bad then (recordCrc nums + 1) % 2 ^ 32 else recordCrc nums }

def MirrorRec.ok (r : MirrorRec) : Bool := decide (r.crc = recordCrc r.nums)

/-- The record of a flow (R266): rate-agent state (R65 to R71), picture order count, the transmit entry's next sequence number and
timestamp, and the hint bits. -/
structure FlowMirror where
  u : Nat := 0
  s : Nat := 0
  poc : Nat := 0
  seq : Nat := 0
  ts : Nat := 0
  baseQp : Int := 0
  model : List (Nat × Nat × Int) := []
  hints : Tbl Nat := []
  comp : Tbl Nat := []
deriving DecidableEq, Repr

def FlowMirror.nums (r : FlowMirror) : List Nat :=
  [r.u, r.s, r.poc, r.seq, r.ts, unsigned 64 r.baseQp, r.model.length, r.hints.length, r.comp.length] ++
    r.model.flatMap (fun e => [e.1, e.2.1, unsigned 64 e.2.2]) ++ r.hints.flatMap (fun e => [e.1, e.2]) ++ r.comp.flatMap (fun e => [e.1, e.2])

def wordPairs : List Nat → List (Nat × Nat)
  | a :: b :: rest => (a, b) :: wordPairs rest
  | _ => []
def wordTriples : List Nat → List (Nat × Nat × Int)
  | a :: b :: c :: rest => (a, b, signed 64 c) :: wordTriples rest
  | _ => []

def FlowMirror.ofNums (ns : List Nat) : FlowMirror :=
  let at_ := fun (i : Nat) => ns.getD i 0
  let a := 9 + 3 * at_ 6
  let b := a + 2 * at_ 7
  { u := at_ 0, s := at_ 1, poc := at_ 2, seq := at_ 3, ts := at_ 4, baseQp := signed 64 (at_ 5),
    model := wordTriples ((ns.take a).drop 9), hints := wordPairs ((ns.take b).drop a), comp := wordPairs (ns.drop b) }

/-- The record of a flow after its stripe of picture f; complexities of that picture and the one before it. -/
def State.flowMirror (s : State) (n f ts : Nat) : FlowMirror :=
  let x := s.flowSt n
  { u := x.u, s := x.s, poc := x.poc (isHevc s.comm (flow s.comm n 2)) f, seq := (s.outp.ents.get {} n).nextSeq.getD (txCfg s.comm n).seqInit, ts := ts,
    baseQp := x.baseQp, model := x.model, hints := x.hints, comp := x.comp.filter (fun e => decide (128 * (f - 1) ≤ e.1)) }

/-- The rate-agent state that a record holds taken over (R272, R283). The budget and the bits of what has been sent since are the output
stage's. -/
def FlowSt.fromMirror (x : FlowSt) (r : FlowMirror) : FlowSt :=
  { x with model := r.model, hints := r.hints, baseQp := r.baseQp, comp := r.comp,
           segComp := x.segComp.filter (fun e => r.comp.any (fun q => decide (q.1 = e.1))) }

/-- The record of a channel's council: ROOT_NOW, the last q̄ and DRAUGHT received, the active set. -/
def State.councilMirror (s : State) (c : Nat) : List Nat :=
  [s.rootNow c, s.lv (0x4100 + c) 0xE, (s.chanOf c).councilDraught.getD 0] ++ s.activeOf c

def councilKey (c : Nat) : Nat := 4096 + c
def paramKey (n : Nat) : Nat := 4112 + n

/-! What the standby of a pair holds. -/

/-- Whether a pair mirrors: its standby is there and takes part (R266, R267, R277). -/
def State.mirrors (s : State) (i : Nat) : Bool := s.paired && [1, 2, 4].contains (s.pairState i)

def State.putMirror (s : State) (i key : Nat) (r : MirrorRec) : State :=
  s.updPair i (fun x => { x with mirror := x.mirror.put none key (some r) })

/-- Parameter sets copied to the standby at a commit (R266); those of a running flow are fixed (R53). -/
def State.mirrorParams (s : State) (m : Tbl Val) (i : Nat) : State :=
  eachIn ((s.flowsOnPair i).filter (fun n => (flowsOn m).contains n)) (fun n s =>
    s.putMirror i (paramKey n) (recordOf ((s.flowSt n).params.getD (paramsOf m n (s.segW n))).args false)) s

/-- What a pair's records are after the stripe of a channel's picture f whose timestamp is ts: of these flows, and in PAIRED-LEAN of its
council. In PAIRED-SHADOW a flow's record is its sequence number and timestamp alone (R267). -/
def State.pairRecords (s : State) (i c f ts : Nat) (flows : List Nat) : List (Nat × List Nat) :=
  let lean := decide (s.pairMode i = 1)
  flows.map (fun n =>
    let r := s.flowMirror n f ts
    (n, FlowMirror.nums (if lean then r else { seq := r.seq, ts := r.ts }))) ++ (if lean then [(councilKey c, s.councilMirror c)] else [])

/-- Records of a pair that were bad and asked for again: those that are still bad at the next deadline end the pair's protection, the
others are right (R266). -/
def State.recheckMirror (s : State) (i : Nat) (again : List Nat) : State :=
  let stale := (s.pairSt i).mirror.filter (fun e => match e.2 with | some r => !r.ok | none => false)
  if stale.any (fun e => again.contains e.1) then
    (s.setPairState i 5).raise { source := src 16 (8 + i), dom := domPair i, init := hearthInit i 0xF }
  else eachIn stale (fun e s => match e.2 with | some r => s.putMirror i e.1 (recordOf r.nums false) | none => s) s

/-- The mirror after the readiness deadline of a channel's stripe (R266): `bad` are the records that fail their CRC when they arrive,
`again` those that fail it again. -/
def State.mirrorStripe (s : State) (x : Stripe) (flows bad again : List Nat) : State :=
  eachBelow 4 (fun i s =>
    let mine := flows.filter (fun n => (s.flowsOnPair i).contains n)
    if mine = [] ∨ !s.mirrors i then s else
    let s := s.recheckMirror i again
    if !s.mirrors i then s else
    let new := s.pairRecords i x.c x.f x.rtp mine
    let held := (s.pairSt i).mirror.filterMap (fun e => match e.2 with
      | some r => if decide (4112 ≤ e.1) && bad.contains e.1 then some (e.1, r.nums) else none
      | none => none)
    let s := eachIn (new ++ held) (fun e s => s.putMirror i e.1 (recordOf e.2 (bad.contains e.1))) s
    s.addN (0x8201 + i) 0xA ((new ++ held).filter (fun e => bad.contains e.1)).length) s

/-- Whether no record of a pair is bad. -/
def State.mirrorOk (s : State) (i : Nat) : Bool :=
  (s.pairSt i).mirror.all (fun e => match e.2 with | some r => r.ok | none => true)

/-! Send tokens (R281). -/

/-- Hash of a flow stripe: CRC-32C over the hashes of its slices on the active hearth, in slice address order. -/
def State.stripeHash (s : State) (n f j : Nat) : Nat :=
  crc32c ((List.range (s.segsOf n)).flatMap (fun g =>
    match s.pipe.slices.find? (fun x => decide (x.flow = n) && decide (x.f = f) && decide (x.j = j) && decide (x.seg = g) && decide (s.activeHearth n = some x.h)) with
    | some x => leBytes 8 x.hash
    | none => []))

def TokenRec.words (r : TokenRec) : List Nat := [r.flow, r.j, r.hash, r.nums.length] ++ r.nums

/-- The records of a token, read from its words. -/
def tokenRecs (stripe : Nat) : Nat → List Nat → List TokenRec
  | fuel + 1, n :: j :: h :: k :: rest =>
    { flow := n, j := j, stripe := stripe, hash := h, nums := rest.take k } :: tokenRecs stripe fuel (rest.drop k)
  | _, _ => []

end Sys2Proof.Machine
end

