-- ==== Sys2Proof/Machine/Pairs.lean ====
section
/-!
DEFINITION. Hearth pairs and module twins (chapter "Hearth pairs, module twins and switch-over", R263 to R287):
switch-over, arbitration, resynchronisation, sag, and the twin's handoff.

Payloads of the twin's frames (assumption 22): TYPE 0x20 opens with 1 for a send token (STRIPE, CANVAS_TAG, then the words of each flow
stripe's record) and with 3 for TWIN_HASH; TYPE 0x21 opens with 1 for a give-up frame, 2 for a request or arbitration result and 5 for a
resynchronisation (channels, cause, send instant in ns), 3 for a fence frame (channels), 4 for a mismatch (channels, the stripe's frame,
then flow and j of each flow stripe).
-/
namespace Sys2Proof.Machine

/-- The active and the standby hearth of a pair (R265). -/
def State.activeOfPair (s : State) (i : Nat) : Nat := i + (if (s.lv 0x8200 3).testBit i then 4 else 0)
def State.standbyOfPair (s : State) (i : Nat) : Nat := otherSide (s.activeOfPair i)

/-! Twins: what a channel's twin duty is (R279). -/

def State.twinOn (s : State) : Bool := decide (s.cm 0x8210 1 ≠ 0)
def State.twinned (s : State) (c : Nat) : Bool := s.twinOn && (s.cm 0x8210 4).testBit c

/-- Whether a pair carries a twinned channel that this module is about to stop sending: a hearth switch-over is then void (R285). -/
def State.handsAway (s : State) (i : Nat) : Bool :=
  (s.flowsOnPair i).any (fun n =>
    let c := flow s.comm n 2
    s.twinned c && (s.pair.hand.get none c).isSome && !(s.pair.muted.contains c))

/-! Switch-over of a pair. -/

/-- Jobs of a hearth end with it: running jobs' slices are lost to the fault. -/
def State.dropJobs (s : State) (h : Nat) : State :=
  let here := s.pipe.jobs.filter (fun b => decide (b.h = h))
  let lost := (here.filter (fun b => match b.at_ with | .running _ _ => true | _ => false)).map (fun b => (b.flow, b.f, b.j, b.seg))
  (s.endJobs (fun b => decide (b.h = h))).updPair (h % 4)
    (fun x => { x with lost := lost ++ x.lost })

/-- The first frame of a channel whose stripe-0 jobs become eligible at least 4 µs from now (R272). -/
def State.firstCodable (s : State) (c : Nat) : Nat :=
  let x := s.chanOf c
  let tf0 := x.frameAt + (1 + s.lcOf c) * x.period / max 1 (nStripes s.comm c) + usCtr 4
  if s.mono + usCtr 4 ≤ tf0 then s.frameNo c else s.frameNo c + 1

/-- What a standby takes over with a gap (R272): each flow's rate state and hints from its record. -/
def State.takeRecord (s : State) (i n : Nat) : State :=
  match (s.pairSt i).mirror.get none n with
  | some r => s.updFlow n (fun x => x.fromMirror (FlowMirror.ofNums r.nums))
  | none => s

/-- A switch-over of a pair (R270 to R272): roles, cause, counters, its recovery, and in PAIRED-LEAN the gap. A pair not
in state 0x01 does not switch, but in state 0x04 for its own arbitration; one beside a twin handoff is void (R285). The former active hearth
returns when no fault keeps it out: after causes 0x03 to 0x05 (assumption 125). -/
def State.switchPair (s : State) (i cause : Nat) : State :=
  let st := s.pairState i
  if !s.paired || !(decide (st = 1) || (decide (st = 4) && decide (cause = 3))) || s.handsAway i then s else
  let old := s.activeOfPair i
  let roles := s.lv 0x8200 3
  let c : Capture := { ts := s.stamp, init := hearthInit old 0xD, source := src 16 i, access := 8, cls := 2 }
  let s := match s.freeSlot with
    | some k => s.beginRecovery (domPair i) 3 c (some k) true
    | none => s
  let s := s.raise { source := src 16 i, dom := domPair i, init := hearthInit old 0xD }
  let s := ((s.setN 0x8200 3 (setBit roles i (!(roles.testBit i)))).setN (0x8201 + i) 3 cause).inc (0x8201 + i) 2
  let s := (s.updPair i (fun x => { x with
    failed := some old, decided := some s.mono, planned := false, gap := [], returning := decide (3 ≤ cause) })).setN (0x8201 + i) 7 0
  if s.pairMode i = 2 then s.setPairState i 5
  else
    let s := s.dropJobs old
    let flows := (s.flowsOnPair i).filter (fun n => (flowsOn s.comm).contains n)
    let chans := (flows.map (fun n => flow s.comm n 2)).eraseDups
    let s := s.updPair i (fun x => { x with resume := chans.foldl (fun m c => m.put none c (some (s.firstCodable c))) [] })
    let s := eachIn flows (fun n s => (s.takeRecord i n).askBlind n) s
    s.setPairState i 3

/-- Cause 0x02: the active hearth of a pair falls below 28 active withies (R115, R270). -/
def State.shortHearth (s : State) (h : Nat) : State :=
  if s.paired && decide (s.activeOfPair (h % 4) = h) && decide (s.activeCount h < 28) then s.switchPair (h % 4) 2 else s

/-- A pair starts to resynchronise (R275): its active side copies the records. -/
def State.startResync (s : State) (i : Nat) : State :=
  let s := ((s.updPair i (fun x => { x with resync := true, returning := false, mirror := [] })).setPairState i 2).mirrorParams s.comm i
  eachIn ((s.flowsOnPair i).filter (fun n => (flowsOn s.comm).contains n)) (fun n s =>
    let c := flow s.comm n 2
    eachIn (s.pairRecords i c (s.frameNo c) (rtpOf s.comm c (s.chanOf c).label) [n]) (fun e s => s.putMirror i e.1 (recordOf e.2 false)) s) s

/-- Mismatch of a slice between the sides of a pair (R268, R269): comparisons of the flow stop, the withies that ran its jobs
leave dispatch, arbitration begins. -/
def State.pairMismatch (s : State) (n : Nat) (wids : List Nat) : State :=
  match s.activeHearth n with
  | none => s
  | some h =>
    let i := h % 4
    let s := s.raise { source := src 16 (4 + i), dom := domPair i, init := hearthInit h 0xD }
    let s := s.updFlow n (fun x => { x with compareOff := true, refreshEnd := if x.refreshFrom.isNone then 0 else x.refreshEnd })
    let s := s.updPair i (fun x => { x with arb := (x.arb ++ wids).eraseDups })
    if s.pairState i = 1 then s.setPairState i 4 else s

/-- The outcome of an arbitration (Table 11-2), as steps 1 and 2 of R31. -/
def State.applyArb (s : State) (i : Nat) : State :=
  match (s.pairSt i).arbOutcome with
  | none => s
  | some (o, faulty) =>
    let s := s.updPair i (fun x => { x with arb := [], arbOutcome := none })
    if o = 0 then (s.inc (0x8201 + i) 5).setPairState i 1
    else
      let s := eachIn faulty (fun w s => (s.fenceWithy w).boundaryIfIdle (withyHearth w)) (s.inc (0x8201 + i) 4)
      if o = 1 then
        let s := s.switchPair i 3
        if s.pairState i = 3 then s else s.startResync i
      else s.startResync i

/-- Sag level 1 on a pair of PAIRED-SHADOW, at a boundary (R277). -/
def State.pairLean (s : State) (i : Nat) : State :=
  let x := s.pairSt i
  if 1 ≤ s.pwr.sag ∧ x.lean = false ∧ s.cm 0x8200 1 = 2 then s.updPair i (fun y => { y with lean := true })
  else if s.pwr.sag = 0 ∧ x.lean then
    let s := s.updPair i (fun y => { y with lean := false })
    if s.pairState i = 1 ∨ s.pairState i = 2 then s.startResync i else s
  else s

/-- Supply sag on a pair, at a boundary (R277): levels 1 and 3; those left at one detection are undone in descending level. -/
def State.pairSag (s : State) (i : Nat) : State :=
  if !s.paired then s else
  let x := s.pairSt i
  let h := s.standbyOfPair i
  let s := if 3 ≤ s.pwr.sag ∧ x.dark = false then
      (((s.dropJobs h).updHearth h (fun y => { y with dark := true })).updPair i (fun y => { y with dark := true, mirror := [] })).setN (0x8201 + i) 1 6
    else if s.pwr.sag < 3 ∧ x.dark then
      ((s.updHearth h (fun y => { y with dark := false, testing := true })).updPair i
        (fun y => { y with dark := false, testing := true })).setPairState i 5
    else s
  s.pairLean i

/-- Boundary changes of a pair: arbitration outcome, sag, and PAIRED-SHADOW resuming after sag level 1 (R31, R277). -/
def State.pairBoundary (s : State) (i : Nat) : State := (s.applyArb i).pairSag i

/-- A planned switch-over (R265) made. -/
def State.pairPlanned (s : State) (i : Nat) : State :=
  if (s.pairSt i).planned then (s.updPair i (fun y => { y with planned := false })).switchPair i 5 else s

/-- Whether either hearth of a pair serves a running channel. -/
def State.pairServes (s : State) (i : Nat) : Bool := s.hearthServes i || s.hearthServes (i + 4)

/-- Whether the placement in force needs a hearth: its own position carries flows, or in the paired modes that of its pair. -/
def State.hearthNeeded (s : State) (h : Nat) : Bool :=
  s.pipe.placed.any (fun p => decide (p.2 = h) || (s.paired && decide (p.2 = otherSide h)))

/-- Running channels with flows placed at a hearth, or at the other side of its pair in the paired modes. -/
def State.carriedBy (s : State) (h : Nat) : List Nat :=
  s.runningChans.filter (fun c => (groupsOf s.comm c).any (fun n =>
    s.pipe.placed.any (fun p => decide (p.1 = n) && (decide (p.2 = h) || (s.paired && decide (p.2 = otherSide h))))))

/-- A hearth that carries channels, all of them shed under level 4 (R338). -/
def State.shedOnly (s : State) (h : Nat) : Bool :=
  !(s.carriedBy h).isEmpty && (s.carriedBy h).all (fun c => (s.chanOf c).shed)

/-- The domains of every hearth gated or ungated (R24, R25): a hearth that a running canvas is served by stays ungated, but for one
whose channels are all shed (R338). -/
def State.gateHearths (s : State) : State :=
  eachBelow 8 (fun h s => s.updHearth h (fun x => { x with gated := s.shedOnly h || (!(s.hearthNeeded h) && !(s.hearthServes h)) })) s

/-- Boundary changes at once for every hearth and pair that serves no running channel (R439), the gating of its domains among them. -/
def State.settleIdle (s : State) : State :=
  State.gateHearths <| eachBelow 4 (fun i s => if s.pairServes i then s else (s.pairBoundary i).pairPlanned i) (eachBelow 8 (fun h s => s.boundaryIfIdle h) s)

/-- The former active hearth of a pair becomes its standby and resynchronises, where no fault keeps it out (R271, assumption 125). -/
def State.pairReturns (s : State) (i : Nat) : State :=
  if (s.pairSt i).returning && decide (s.pairState i = 5) && s.hearthRuns (s.standbyOfPair i) then s.startResync i else s

/-- A pair at a frame start of a channel it serves: planned switch-over (R265), resynchronisation (R275), and the end of
the gap at the recovery point (R272). -/
def State.pairFrame (s : State) (c i : Nat) : State :=
  let x := s.pairSt i
  let s := (s.pairReturns i).pairPlanned i
  let on := fun n => (flowsOn s.comm).contains n
  let flows := (s.flowsOnPair i).filter (fun n => decide (flow s.comm n 2 = c) && on n)
  let s := if x.resync && decide (s.pairMode i = 2) then
      (eachIn flows (fun n s =>
        let s := if s.lv 0x8200 5 = 0 ∨ chan s.comm c 0xC = 0 then s.startRefresh n (s.frameNo c) 2 false false else s
        s.updFlow n (fun y => { y with compareOff := true })) s).updPair i (fun y => { y with resync := false })
    else s
  let refreshed := fun n =>
    let y := s.flowSt n
    y.refreshAsk.isNone && (y.refreshFrom.isNone || decide (y.refreshEnd ≤ s.frameNo (flow s.comm n 2)))
  if s.pairState i = 3 ∧ ((s.flowsOnPair i).filter on).all refreshed then
    (s.updPair i (fun y => { y with resume := [], lost := [] })).setPairState i 5
  else s

/-- A hearth fenced by a hearth-level fault (R270). -/
def State.fenceHearth (s : State) (h : Nat) : State :=
  (s.dropJobs h).updHearth h (fun x => { x with fenced := true })

/-- The self-test of a hearth whose fault has ended (R274). -/
def State.startHearthTest (s : State) (h : Nat) : State :=
  if (s.hearthSt h).fenced then s.updHearth h (fun x => { x with testing := true }) else s

/-! Twins (R279 to R285). -/

/-- Whether an entry of a channel is muted: by the twin, or by DAMPED with outputs muted (R179, R321). -/
def State.chMuted (s : State) (c : Nat) : Bool :=
  s.pair.muted.contains c || (s.dampedActs && s.sys.dampedMute && !(s.chanOf c).shed)

/-- Whether this module codes a channel as PAIRED-SHADOW's standby twin (R281). -/
def State.twinShadows (s : State) (c : Nat) : Bool :=
  s.twinned c && decide (s.lv 0x8210 7 = 1) && decide (s.twinMode = 2) && s.pair.muted.contains c && [1, 2, 4].contains (s.lv 0x8210 8)

/-- Channels of the twin definition in force. -/
def State.twinChans (s : State) : List Nat := (List.range 16).filter s.twinned

/-- A switch-over frame to the twin. -/
def State.twinFrameOut (s : State) (kind chans cause : Nat) : State :=
  s.flueTo { dest := s.cm 0x8210 2, src := s.myId, cls := 2, typ := 0x21, pay := [kind, chans, cause, ctrNs s.ctrNow] }

/-- What the side that takes a channel over continues with (R283): the sequence numbers of the last token, and in PAIRED-LEAN its
records and a first picture chosen as in R272. -/
def State.takeTokens (s : State) (c : Nat) : State :=
  let lean := decide (s.twinMode = 1)
  let s := eachIn (s.pair.tokens.filter (fun r => decide (flow s.comm r.flow 2 = c))) (fun r s =>
    let m := FlowMirror.ofNums r.nums
    let s := { s with outp := { s.outp with ents := s.outp.ents.upd {} r.flow (fun e => { e with nextSeq := some m.seq }) } }
    if lean then s.updFlow r.flow (fun x => { x.fromMirror m with u := m.u, s := m.s }) else s) s
  if lean then
    let s := s.updPairs (fun p => { p with twinFrom := p.twinFrom.put none c (some (s.firstCodable c)) })
    eachIn (groupsOf s.comm c) (fun n s => s.askBlind n) s
  else s

/-- Channels handed over (R283): the sending side mutes them, the other side sends them from now on. After causes 0x03 to 0x05 the
former active twin has no fault that keeps it out (assumption 126). -/
def State.handOver (s : State) (c cause : Nat) : State :=
  let gaining := s.pair.muted.contains c
  let s := if gaining then s.takeTokens c else s
  let s := s.updPairs (fun p => { p with
    hand := p.hand.put none c none,
    muted := if gaining then p.muted.filter (· ≠ c) else c :: p.muted,
    missed := p.missed.put 0 c 0, twinBack := !gaining && decide (3 ≤ cause) && decide (cause ≤ 5), twinAsk := none, twinDue := [] })
  let all := s.twinChans.all (fun d => s.pair.muted.contains d != gaining)
  let s := if all then s.setN 0x8210 7 (if gaining then 0 else 1) else s
  ((s.setN 0x8210 8 5).inc 0x8210 0xB).raise { source := src 16 20, dom := domTwin, init := blockInit 0 46 }

/-- Handoffs whose stripe this is (R283): the readiness deadline lies at least 20 µs after the frame's send instant. -/
def State.handoffAt (s : State) (c : Nat) : State :=
  match s.pair.hand.get none c with
  | some x => if x.at_ + tuUs 20 ≤ s.now then s.handOver c x.cause else s
  | none => s

/-- Whether the twins switch for a cause: in state 0x01, and in 0x04 for their arbitration (R270). -/
def State.twinSwitches (s : State) (cause : Nat) : Bool :=
  decide (s.lv 0x8210 8 = 1) || (decide (s.lv 0x8210 8 = 4) && decide (cause = 3))

/-- A handoff agreed for channels of a bitmap; one agreed before stands. -/
def State.agree (s : State) (chans cause at_ : Nat) : State :=
  if !s.twinSwitches cause then s else
  eachBelow 16 (fun c s => if chans.testBit c && s.twinned c && (s.pair.hand.get none c).isNone then
    s.updPairs (fun p => { p with hand := p.hand.put none c (some ⟨at_, cause⟩) }) else s) s

/-- A request, planned change or arbitration result that both twins act on (R283). -/
def State.askHandoff (s : State) (cause : Nat) : State :=
  let chans := s.cm 0x8210 4
  if s.twinSwitches cause then (s.twinFrameOut 2 chans cause).agree chans cause s.now else s

/-- Twins resynchronise from an instant on (R275, R281): each channel begins at its first frame start at least 20 µs later (assumption
126). -/
def State.twinResync (s : State) (at_ : Nat) : State :=
  (s.updPairs (fun p => { p with twinAsk := some at_, twinDue := s.twinChans, twinBack := false })).setN 0x8210 8 2

/-- The standby twin asks for it. -/
def State.askTwinResync (s : State) : State := (s.twinFrameOut 5 (s.cm 0x8210 4) 0).twinResync s.now

/-- Slices of flow stripes that differ from the twin's (R269, R281): their flows' comparisons stop, the withies that ran their jobs leave
dispatch, arbitration begins. -/
def State.twinMismatch (s : State) (f : Nat) (bad : List (Nat × Nat)) : State :=
  let wids := (s.pipe.slices.filter (fun x => decide (x.f = f) && bad.contains (x.flow, x.j) && decide (s.activeHearth x.flow = some x.h))).flatMap Slice.wids
  let s := s.updPairs (fun p => { p with
    twinWids := (p.twinWids ++ wids).eraseDups, twinOff := (p.twinOff ++ bad.map Prod.fst).eraseDups })
  if s.lv 0x8210 8 = 1 then
    ((s.inc 0x8210 0xE).setN 0x8210 8 4).raise { source := src 16 21, dom := domTwin, init := blockInit 0 46 }
  else s

/-- The outcome of a twin arbitration (Table 11-2): withies found faulty here are retired, the active twin at fault hands over, a standby
that is not right resynchronises, and where neither is faulty the flows refresh at the next frame start. -/
def State.twinOutcome (s : State) (here there : Bool) : State :=
  let active := decide (s.lv 0x8210 7 = 0)
  let activeBad := if active then here else there
  let standbyBad := if active then there else here
  let s := s.updPairs (fun p => { p with twinWids := [] })
  if s.lv 0x8210 8 ≠ 4 then s
  else if activeBad && !standbyBad then s.askHandoff 3
  else if activeBad || standbyBad then (if active then s.setN 0x8210 8 2 else s.askTwinResync)
  else (s.updPairs (fun p => { p with twinBad := p.twinOff })).setN 0x8210 8 1

/-- The twin duty at a frame start of a channel: refreshes that follow an arbitration, resynchronisation, comparisons that resume. -/
def State.twinFrame (s : State) (c : Nat) : State :=
  if !s.twinned c then s else
  let s := if s.pair.twinBack && decide (s.lv 0x8210 8 = 5) && decide (s.lv 0x8210 7 = 1) then s.askTwinResync else s
  let flows := groupsOf s.comm c
  let refresh := fun (ns : List Nat) (s : State) => eachIn ns (fun n s => s.startRefresh n (s.frameNo c) 2 false false) s
  let s := (refresh (flows.filter (fun n => s.pair.twinBad.contains n)) s).updPairs (fun p =>
    { p with twinBad := p.twinBad.filter (fun n => !(flows.contains n)) })
  let due := s.pair.twinDue.contains c && (match s.pair.twinAsk with | some m => decide (m + tuUs 20 ≤ s.now) | none => false)
  let s := if due then
      let s := if s.twinMode = 2 then (refresh flows s).updPairs (fun p => { p with twinOff := (p.twinOff ++ flows).eraseDups }) else s
      s.updPairs (fun p => { p with twinDue := p.twinDue.filter (· ≠ c) })
    else s
  let s := if s.lv 0x8210 8 = 4 then s else s.updPairs (fun p =>
    { p with twinOff := p.twinOff.filter (fun n => !(flows.contains n && !(p.twinBad.contains n) && (s.flowSt n).refreshFrom.isNone)) })
  if s.lv 0x8210 8 = 2 ∧ s.pair.twinAsk.isSome ∧ due = false ∧ s.pair.twinDue = [] ∧ s.pair.twinOff = []
  then (s.updPairs (fun p => { p with twinAsk := none })).setN 0x8210 8 1 else s

/-- Jobs of the channels whose standby twin this is end. -/
def State.dropTwinJobs (s : State) : State := s.endJobs (fun b => s.twinned b.c && s.pair.muted.contains b.c)

/-- Supply sag on a standby twin, at a boundary of a twinned channel (R277). -/
def State.twinSag (s : State) (c : Nat) : State :=
  if !s.twinned c || decide (s.lv 0x8210 7 = 0) then s else
  let st := s.lv 0x8210 8
  let s := if 3 ≤ s.pwr.sag ∧ st ≠ 6 ∧ st ≠ 7 then s.dropTwinJobs.setN 0x8210 8 6
    else if s.pwr.sag < 3 ∧ st = 6 then s.askTwinResync
    else s
  if 1 ≤ s.pwr.sag ∧ s.pair.twinLean = false ∧ s.cm 0x8210 1 = 2 then
    (s.updPairs (fun p => { p with twinLean := true, twinOff := [] })).dropTwinJobs
  else if s.pwr.sag = 0 ∧ s.pair.twinLean then
    let s := s.updPairs (fun p => { p with twinLean := false })
    if s.lv 0x8210 8 = 1 ∨ s.lv 0x8210 8 = 2 then s.askTwinResync else s
  else s

/-- TWIN_HASH (R279) of a configuration: CRC-32C over the staged objects of the twinned channels in 0x3000 to 0x42FF, of
their flows and of their transport entries, the placement and port fields left out. -/
def twinHashOf (m : Tbl Val) : Nat :=
  let cs := (List.range 16).filter (fun c => (cfg m 0x8210 4).testBit c)
  let keep := fun (r : Row) => decide (r.acc = .rs) && decide (0x3000 ≤ r.idx) && decide (r.idx < 0x4300)
  let rows := dictRows.filter keep
  let idxs := cs.flatMap (fun c => (0x3000 + c) :: (List.range 16).map (fun l => layerIdx c l) ++ [0x3900 + c, 0x4000 + c, 0x4100 + c, 0x4200 + c])
  let flows := cs.flatMap (fun c => flowsOf m c)
  let one := fun (i : Nat) (rs : List Row) => (rs.filter (fun r => r.atIdx i)).flatMap (fun r =>
    (List.range (r.subHi + 1 - r.sub)).flatMap (fun d =>
      let sub := r.sub + d
      if (0x3000 ≤ i ∧ i < 0x3010 ∧ sub = 1) ∨ (0x4000 ≤ i ∧ i < 0x4010 ∧ sub = 0xB) then []
      else valBytes (objGet m (key i sub)) r.ty))
  let frows := dictRows.filter (fun r => decide (r.acc = .rs) && decide (r.idx = 0x5000) && decide (r.sub ≠ 0xD))
  let tx := fun n => let e := recAt (cfgB m 0x6100 1) 32 n; e.take 14 ++ (e.drop 16).take 2 ++ (e.drop 20).take 4
  crc32c ((idxs.mergeSort (· ≤ ·)).flatMap (fun i => one i rows) ++ (flows.mergeSort (· ≤ ·)).flatMap (fun n => one (0x5000 + n) frows) ++
    flows.flatMap tx)

/-- The send token of a canvas stripe (R281), while the mirror's reservation stands (R246). -/
def State.sendToken (s : State) (x : Stripe) (parts : List (Nat × Nat)) : State :=
  if s.twinned x.c && !(s.pair.muted.contains x.c) && s.running && !(s.inp.relay.get {} 8).suspended then
    let recs := parts.map (fun p => ({
      flow := p.1, j := p.2, stripe := 0, hash := if s.twinMode = 2 then s.stripeHash p.1 x.f p.2 else 0,
      nums := (s.flowMirror p.1 x.f x.rtp).nums } : TokenRec))
    s.flueTo { dest := s.cm 0x8210 2, src := s.myId, cls := 2, typ := 0x20,
               pay := [1, stripeTag x.f x.k, chan s.comm x.c 2] ++ recs.flatMap TokenRec.words }
  else s

/-! Commands. -/

/-- Fault parts of R270: Grate, rate agent, shared memory (Table 1-3). -/
def hearthFaultEv (h part : Nat) (dom : Nat) : Ev :=
  { source := src (9 + h / 4) (h % 4), dom := dom, init := hearthInit h part, access := if part = 15 then 1 else 8 }

/-- A hearth-level fault (R270, R278, R328): the hearth is fenced; an active hearth of a protected pair switches over, its
switch-over taking its slot first; a fault of the hearth that carries a pair under recovery falls in that recovery. -/
def State.hearthFault (s : State) (h part : Nat) : State :=
  let i := h % 4
  let s := s.fenceHearth h
  if !s.paired then s.raise (hearthFaultEv h part (domHearth h))
  else if s.activeOfPair i = h then
    if (s.recoveryOf (domPair i)).isSome then s.raise (hearthFaultEv h part (domPair i))
    else (s.switchPair i 1).raise (hearthFaultEv h part (domHearth h))
  else (s.setPairState i 5).raise (hearthFaultEv h part (domHearth h))

/-- HEARTH_LEVEL_FAULT (R270). -/
def execHearthLevelFault (t : Nat) (h : Fin 8) (part : Fin 16) (s : State) : Host.Outcome State Fault Refusal :=
  act t (fun s => if s.isUp then s.hearthFault h part else s) s

/-- ARBITRATION_RESULT (R269, R281): pair 0 to 3, or the twin. -/
def execArbitrationResult (t : Nat) (which : Fin 5) (faulty : List (Fin 288)) (twinFaulty : Bool) (s : State) : Host.Outcome State Fault Refusal :=
  act t (fun s =>
    let ws := faulty.map Fin.val
    if which.val < 4 then
      if s.pairState which = 4 ∧ (s.pairSt which).arbOutcome = none then
        let a := ws.any (fun w => decide (withyHearth w = s.activeOfPair which))
        let b := ws.any (fun w => decide (withyHearth w = s.standbyOfPair which))
        let s := s.updPair which (fun x => { x with arbOutcome := some ((if a then 1 else 0) + (if b then 2 else 0), ws) })
        if s.pairServes which then s else s.applyArb which
      else s
    else if s.lv 0x8210 8 = 4 ∨ s.pair.twinWids ≠ [] then
      (eachIn ws (fun w s => (s.fenceWithy w).boundaryIfIdle (withyHearth w)) s).twinOutcome (decide (ws ≠ [])) twinFaulty
    else s) s

/-- HEARTH_SELF_TEST_DONE (R274, R277). -/
def execHearthSelfTestDone (t : Nat) (h : Fin 8) (pass : Bool) (failed : List (Fin 288)) (s : State) : Host.Outcome State Fault Refusal :=
  act t (fun s =>
    if !(s.hearthSt h).testing then s else
    let i := h.val % 4
    let s := s.updHearth h (fun x => { x with testing := false })
    let ev : Ev := { source := src 16 (12 + i), dom := domPair i, init := hearthInit h 0xD }
    if pass then
      let s := (s.updHearth h (fun x => { x with fenced := false })).updPair i (fun x => { x with testing := false })
      let s := s.cond ev false
      if s.paired && decide (s.standbyOfPair i = h.val) then
        if s.pairState i = 3 then s.updPair i (fun x => { x with returning := true }) else s.startResync i
      else eachIn (s.flowsOnPair i) (fun n s => if s.activeHearth n = some h.val then s.askRefresh n false else s) s
    else
      let s := eachIn (failed.map Fin.val) (fun w s => (s.fenceWithy w).boundaryIfIdle (withyHearth w)) s
      (if s.paired && decide (s.pairState i ≠ 3) then s.setPairState i 5 else s).cond ev true) s

/-- PAIR_RESYNC_DONE (R275): in PAIRED-LEAN once every record has been copied, in PAIRED-SHADOW once every flow compares. -/
def execPairResyncDone (t : Nat) (pair : Fin 4) (s : State) : Host.Outcome State Fault Refusal :=
  act t (fun s =>
    let ready := (decide (s.pairMode pair ≠ 2) && s.mirrorOk pair) ||
      (decide (s.pairMode pair = 2) && !(s.pairSt pair).resync && (s.flowsOnPair pair).all (fun n => !(s.flowSt n).compareOff))
    if s.pairState pair = 2 ∧ ready then
      (s.updPair pair (fun x => { x with resync := false, resume := [], failed := none })).setPairState pair 1
    else s) s

/-- BIST_PERIOD_TIMER (R276): periodic self-test of the standby; none under sag level 1 (R336). -/
def execBistPeriodTimer (t : Nat) (pair : Fin 4) (failed : List (Fin 288)) (memoryOk : Bool) (s : State) : Host.Outcome State Fault Refusal :=
  act t (fun s =>
    if decide (s.cm 0x8200 1 = 1) && decide (s.pwr.sag = 0) && s.running && decide (s.pairState pair = 1 ∨ s.pairState pair = 2) &&
        (match (s.pairSt pair).bistAt with | some m => decide (m + tuSec (s.lv 0x8200 4) ≤ s.now) | none => true) then
      let s := (s.updPair pair (fun x => { x with bistAt := some s.now, quarter := (x.quarter + 1) % 4 })).inc (0x8201 + pair) 8
      let ws := (failed.map Fin.val).filter (fun w => decide (withyHearth w = s.standbyOfPair pair))
      let s := eachIn ws (fun w s => (s.fenceWithy w).boundaryIfIdle (withyHearth w)) s
      if ws ≠ [] ∨ memoryOk = false then
        let s := (s.inc (0x8201 + pair) 9).raise { source := src 16 (16 + pair), dom := domPair pair, init := hearthInit (s.standbyOfPair pair) 0xF }
        if memoryOk then s else s.setPairState pair 5
      else s
    else s) s

/-- TWIN_HASH_RX (R279). -/
def execTwinHashRx (t : Nat) (_port : Fin 3) (frame : FlueFrame) (s : State) : Host.Outcome State Fault Refusal :=
  act t (fun s =>
    if !s.isMine frame then s.passOn frame
    else if s.twinOn && decide (frame.src = s.cm 0x8210 2) then
      let h := frame.pay.getD 1 0
      let s := s.updPairs (fun p => { p with twinHash := some h })
      let bad := decide (h ≠ s.lv 0x8210 0xA)
      let s := s.cond { source := src 4 15, dom := domTwin, init := blockInit 0 46, access := 0xB } bad
      if bad then s.setN 0x8210 8 7
      else if s.lv 0x8210 8 = 7 ∨ s.lv 0x8210 8 = 0 then s.setN 0x8210 8 1
      else if s.lv 0x8210 8 = 5 ∧ s.lv 0x8210 7 = 1 then s.askTwinResync
      else s
    else s) s

/-- SEND_TOKEN_RX (R281): the records are held; in PAIRED-SHADOW the hashes are compared, and a mismatch is arbitrated on both modules. -/
def execSendTokenRx (t : Nat) (_port : Fin 3) (frame : FlueFrame) (s : State) : Host.Outcome State Fault Refusal :=
  act t (fun s =>
    if !s.isMine frame then s.passOn frame
    else if !(s.twinOn && decide (frame.src = s.cm 0x8210 2) && decide (s.lv 0x8210 7 = 1) && decide (s.lv 0x8210 8 ≠ 6)) then s
    else
      match (List.range 16).find? (fun c => s.twinned c && decide (chan s.comm c 2 = frame.pay.getD 2 0)) with
      | none => s
      | some c =>
        let tag := frame.pay.getD 1 0
        let recs := tokenRecs tag (frame.pay.length) (frame.pay.drop 3)
        let s := s.updPairs (fun p => { p with
          missed := p.missed.put 0 c 0, tokens := recs ++ p.tokens.filter (fun x => !(recs.any (fun r => decide (r.flow = x.flow)))) })
        if !s.twinShadows c then s else
        let s := eachIn recs (fun r s =>
          let m := FlowMirror.ofNums r.nums
          s.updFlow r.flow (fun x => { x with s := m.s, baseQp := m.baseQp, hints := m.hints })) s
        match s.frameOfTag c tag with
        | none => s
        | some f =>
          let bad := recs.filter (fun r => !(s.pair.twinOff.contains r.flow) && decide (s.stripeHash r.flow f r.j ≠ r.hash))
          if bad = [] ∨ s.lv 0x8210 8 ≠ 1 then s
          else
            let s := s.flueTo { dest := s.cm 0x8210 2, src := s.myId, cls := 2, typ := 0x21,
                                pay := [4, 2 ^ c, f % 2 ^ 20, ctrNs s.ctrNow] ++ bad.flatMap (fun r => [r.flow, r.j]) }
            s.twinMismatch f (bad.map (fun r => (r.flow, r.j)))) s

/-- GIVE_UP_FRAME_RX (R281, R283): a frame of TYPE 0x21 from the twin: it agrees a handoff, tells of a mismatch, or asks for
resynchronisation. -/
def execGiveUpFrameRx (t : Nat) (_port : Fin 3) (frame : FlueFrame) (s : State) : Host.Outcome State Fault Refusal :=
  act t (fun s =>
    if !s.isMine frame then s.passOn frame
    else if s.twinOn && decide (frame.src = s.cm 0x8210 2) then
      let w := fun (i : Nat) => frame.pay.getD i 0
      let sent := s.now - tuNs (ctrNs s.ctrNow - w 3)
      match w 0 with
      | 1 => s.agree (w 1) 6 sent
      | 2 => s.agree (w 1) (w 2) sent
      | 4 =>
        let bad := wordPairs (frame.pay.drop 4)
        let f := match s.pipe.stripes.find? (fun x => (w 1).testBit x.c && decide (x.f % 2 ^ 20 = w 2)) with | some x => x.f | none => w 2
        if s.lv 0x8210 8 = 1 ∨ s.lv 0x8210 8 = 4 then s.twinMismatch f bad else s
      | 5 => if [1, 2, 4, 5].contains (s.lv 0x8210 8) then s.twinResync sent else s
      | _ => s
    else s) s

/-- LAST_GASP_RX (R283, R339): flooded on; from the active twin it starts a handoff of every twinned channel. -/
def execLastGaspRx (t : Nat) (port : Fin 3) (frame : FlueFrame) (s : State) : Host.Outcome State Fault Refusal :=
  act t (fun s =>
    if (s.path frame.src).port ≠ port.val then s else
    let s := if frame.hops < 1023 then s.flood { frame with hops := frame.hops + 1 } port else s
    if s.twinOn && decide (frame.src = s.cm 0x8210 2) && decide (s.lv 0x8210 7 = 1)
    then s.agree (s.cm 0x8210 4) 7 s.now else s) s

/-- FENCE_FRAME_RX (R284): the active twin mutes the twinned channels at once. -/
def execFenceFrameRx (t : Nat) (_port : Fin 3) (frame : FlueFrame) (s : State) : Host.Outcome State Fault Refusal :=
  act t (fun s =>
    if !s.isMine frame then s.passOn frame
    else if s.twinOn && decide (frame.src = s.cm 0x8210 2) && decide (s.lv 0x8210 7 = 0) then
      let cs := (List.range 16).filter (fun c => s.twinned c)
      let s := s.updPairs (fun p => { p with muted := (p.muted ++ cs).eraseDups, hand := [], twinBack := false })
      (s.setN 0x8210 7 1).setN 0x8210 8 5
    else s) s

end Sys2Proof.Machine
end

