-- ==== Sys2Proof/Machine/Ready.lean ====
section
/-!
DEFINITION. The readiness deadline: which slice of a flow stripe is sent, stand-ins, fill stripes, filler, and what a
stand-in starts (R66, R68, R87 to R97, R105, R114, R116, R268, R321, R440).
-/
namespace Sys2Proof.Machine

/-- A slice of a hearth that is complete and unpoisoned in its output buffer (R87). -/
def State.readySlice (s : State) (h n f j seg : Nat) : Option Slice :=
  s.pipe.slices.find? (fun x => decide (x.h = h) && decide (x.flow = n) && decide (x.f = f) && decide (x.j = j) && decide (x.seg = seg) &&
    x.inBuf.isSome && !x.poisoned && !x.late)

/-- Whether a hearth's withies explain a miss with reason 0x09 (R114). -/
def State.withyTurn (s : State) (h : Nat) (ts : Nat) : Bool :=
  (hearthWithies h).any (fun w => decide (s.wState w = 3)) ||
  (match (s.hearthSt h).enteredAt with | some m => decide (s.mono ≤ m + ts) | none => false)

/-- Reason of a stand-in slice on a coded picture (R94, R114, R272). -/
def State.missReason (s : State) (n f j seg ts : Nat) : Nat :=
  match s.activeHearth n with
  | none => 2
  | some h =>
    let p := s.pairSt (h % 4)
    let mine := fun (x : Nat × Nat × Nat × Nat) => decide (x = (n, f, j, seg))
    if s.pipe.slices.any (fun x => decide (x.flow = n) && decide (x.f = f) && decide (x.j = j) && decide (x.seg = seg) && x.poisoned) ||
        (s.flowSt n).pics.any (fun e => decide (e.1 = f) && decide (e.2.kind = 9)) then 3
    else if p.lost.any mine || (s.hearthSt h).fenced ||
        s.pipe.jobs.any (fun b => decide (b.h = h) && decide (b.flow = n) && decide (b.f = f) && decide (b.j = j) && decide (b.seg = seg) && b.lost) ||
        (segCols s.comm n (s.segW n) seg).any (fun col => (s.doneOf h n f j col).any Done.lost) ||
        s.pipe.slices.any (fun x => decide (x.h = h) && decide (x.flow = n) && decide (x.f = f) && decide (x.j = j) && decide (x.seg = seg) && x.lost) then 2
    else if s.pairState (h % 4) = 3 || !s.mayCode h n f then 4
    else if s.withyTurn h ts then 9
    else 1

/-- The slice sent for a segment, or the reason of its stand-in; shadow copies are compared (R268). -/
def State.chooseSlice (s : State) (n f j seg ts : Nat) : (Option Slice × Nat) × State :=
  let a := (s.activeHearth n).bind (fun h => s.readySlice h n f j seg)
  let b := (s.shadowHearth n).bind (fun h => s.readySlice h n f j seg)
  let i := ((s.activeHearth n).getD 0) % 4
  let off := (s.flowSt n).compareOff
  match a, b with
  | some x, some y =>
    if off ∨ x.hash = y.hash then ((some x, 0), s) else ((none, 2), s.pairMismatch n (x.wids ++ y.wids))
  | some x, none =>
    ((some x, 0), if (s.shadowHearth n).isSome && !off then s.inc (0x8201 + i) 6 else s)
  | none, some y =>
    if off then ((none, s.missReason n f j seg ts), s) else ((some y, 0), s.inc (0x8201 + i) 6)
  | none, none => ((none, s.missReason n f j seg ts), s)

/-- Slack of a slice copy in ns: the deadline less the instant it lay in its output buffer (R116). -/
def slackNs (deadline : Nat) (x : Slice) : Int := ((deadline : Int) - (x.inBuf.getD deadline : Nat)) / 2 ^ 40

/-- A sent slice's slack enters its channel's observables, every timely copy's its hearth's (R116). -/
def State.noteSlack (s : State) (c deadline : Nat) (x : Slice) : State :=
  let ns := (slackNs deadline x).toNat
  let s := s.updPipe (fun p => { p with
    chSlack := p.chSlack.upd [] c (fun m => m.upd 0 (histBin (tuNs ns)) (· + 1)),
    chSlackMin := p.chSlackMin.upd none c (fun o => some (match o with | some v => min v ns | none => ns)) })
  s

def State.noteCopies (s : State) (n f j deadline : Nat) : State :=
  eachIn (s.pipe.slices.filter (fun x => decide (x.flow = n) && decide (x.f = f) && decide (x.j = j) && x.inBuf.isSome && !x.late)) (fun x s =>
    let ns := (slackNs deadline x).toNat
    s.updHearth x.h (fun y => { y with slackMin := some (match y.slackMin with | some v => min v ns | none => ns) })) s

/-- Filler in bytes (R68, R90, R95): stand-in and fill stripes to B, stripes of both kinds to the larger of B and their size, never above
C; then until the picture can no longer fall short, and after the last stripe until the debt is at least 0. -/
def fillerOf (m : Tbl Val) (x : FlowSt) (n f j size : Nat) (pad : Bool) : Nat :=
  let b := budgetB m n / 65536 / 8
  let capb := budgetC m n / 65536 / 8
  let fill := if pad then min b capb - size else 0
  let rem : Int := x.remaining m n f j false - (8 * (size + fill) * 65536 : Nat)
  let later : Int := ((gNf m n - 1 - j) * budgetC m n : Nat)
  let more := if later < rem then ceilDiv (rem - later).toNat (8 * 65536) else 0
  min (fill + more) (capb - size)

/-- The NAL unit of filler data, of any size the padding needs (assumption 96). -/
def fillerNal (hevc : Bool) (size : Nat) : List Nal :=
  if size = 0 then [] else [{ kind := .filler, type := NalKind.filler.nal hevc, size := size, token := Config.nalToken [NalKind.filler.code, size] }]

/-- The end-of-sequence NAL unit after a flow's last fill picture (R96): its header alone. -/
def eosNal (hevc : Bool) : Nal := { kind := .endOfSeq, type := NalKind.endOfSeq.nal hevc, size := 2 }

/-- A slice of an IDR_N_LP fill picture: I, in FILL_COLOUR (R95). -/
def fillNal (m : Tbl Val) (hevc : Bool) (n j seg most : Nat) : Nal :=
  templateNal hevc .fill (PicType.idr.nal hevc) seg most [2, flow m n 0xE, j]

/-- A stand-in slice as Table 3-4 has it: the NAL unit type of the picture's other slices; P; the base QP of the flow's last coded
stripe; SAO of luma and chroma off; in VVC ALF off; cu_skip_flag 1, and merge_idx of the first CU equal to the hint of the co-located
slice (R89); its CTU row; in VVC its subpicture. Every other CU has merge_idx 0. -/
def skipNal (m : Tbl Val) (x : FlowSt) (hevc : Bool) (kind : NalKind) (ty : PicType) (n j seg most : Nat) : Nal :=
  templateNal hevc kind (ty.nal hevc) seg most
    ([1, x.baseQp, 0, 0] ++ (if hevc then [] else [0]) ++ [1, ((x.hints.get 0 (32 * j + seg) : Nat) : Int), (j : Int)] ++ (if hevc then [] else [(subpicIndex m n : Int)]))

/-- The slice that stands in for one that is not ready: in an HEVC IDR picture the fill slice of the same position (R88, R96). -/
def standInNal (m : Tbl Val) (x : FlowSt) (hevc : Bool) (ty : PicType) (n j seg most : Nat) : Nal :=
  if hevc = true ∧ ty = .idr then { fillNal m hevc n j seg most with kind := .standIn } else skipNal m x hevc .standIn ty n j seg most

/-- A coded slice: its base QP and in VVC its subpicture are in its header (R71, R58). -/
def sliceNal (m : Tbl Val) (hevc : Bool) (ty : PicType) (n : Nat) (baseQp : Int) (y : Slice) : Nal :=
  { kind := .slice, type := ty.nal hevc, size := max 1 (ceilDiv y.bits 8), seg := y.seg,
    fields := [baseQp] ++ (if hevc then [] else [(subpicIndex m n : Int)]), token := Config.nalToken [NalKind.slice.code, y.hash] }

/-- Stand-in counters, the event of R94 and LATE_SLICES, for the stand-in slices of a flow stripe by their reasons. -/
def State.noteStandIns (s : State) (c n : Nat) (reasons : List Nat) : State :=
  match reasons.getLast? with
  | none => s
  | some last =>
    let fc := s.frameNo c % 2 ^ 32
    let due := match (s.flowSt n).eventAt with
      | some m => decide (m + tuSec 1 ≤ s.now)
      | none => true
    let s := s.updFlow n (fun x => { x with
      standins := satAdd 32 x.standins reasons.length, lastStand := fc, lastReason := last, eventAt := if due then some s.now else x.eventAt })
    let late := (reasons.filter (fun r => [1, 2, 9].contains r)).length
    let s := if late = 0 then s else s.addN (0xC020 + c) 5 late
    if due then s.raise { source := src 12 0, dom := domFlow n, init := blockInit (s.councilStove c) 50, access := 9 } else s

/-- What stand-ins of a picture start (R91, R94): a stand-in during a refresh restarts it; a picture that holds both kinds
begins one, once; whole-picture stand-ins of a shed or DAMPED channel are followed by one when it codes again. After a poisoned reference its
unrefreshed regions are skip CUs (R305). -/
def State.afterStandIns (s : State) (n f nsi nall : Nat) (whole : Option Nat) (badRef : Bool) : State :=
  let s := s.updFlow n (fun x => x.updPic f (fun p => { p with
    standAt := if nsi ≠ 0 ∧ p.standAt = none then some s.mono else p.standAt, coded := p.coded || decide (nsi < nall) }))
  let x := s.flowSt n
  let p := x.pic f
  let ask := fun (m : Nat) => (s.askRefreshAt n m true).updFlow n (fun y => { y.updPic f (fun q => { q with asked := true }) with
    askBlind := y.askBlind || badRef })
  if p.asked then s
  else if decide (nsi ≠ 0) && x.spans.any (fun q => q.holds f) then ask s.mono
  else match p.standAt with
    | none => s
    | some m =>
      if p.coded then ask m
      else if nsi ≠ 0 ∧ (whole = some 6 ∨ whole = some 8) then s.askRefreshAt n m false
      else s

/-- Whether a job of a flow stripe has left its reference poisoned (R305). -/
def State.badRef (s : State) (n f j : Nat) : Bool :=
  s.pipe.done.any (fun d => decide (d.flow = n) && decide (d.f = f) && decide (d.j = j) && d.refPoisoned) ||
  s.pipe.jobs.any (fun b => decide (b.flow = n) && decide (b.f = f) && decide (b.j = j) && b.refPoisoned)

/-- What a flow stripe sends is decided: its bytes are paid and its NAL units wait for the send window. -/
def State.putOut (s : State) (o : FlowOut) : State :=
  (s.updFlow o.flow (fun y => y.pay o.f o.j (nalBytes o.nals))).updPipe (fun p => { p with outs := p.outs ++ [o] })

/-- A fill stripe (R95, R96): the fill picture's slices, padded to B; after the last one before the first coded picture, the end of the
sequence. -/
def State.fillStripe (s : State) (out : FlowOut) : State :=
  let m := s.comm
  let (n, f, j) := (out.flow, out.f, out.j)
  let hevc := isHevc m out.c
  let y := s.flowSt n
  let ty := y.picType hevc f
  let segs := s.segsOf n
  let last := decide (j + 1 = gNf m n)
  let head := if j = 0 then headNals m y n f else []
  let tail := if last && hashEn m n then [hashNal m n [f, flow m n 0xE]] else []
  let eos := if last && decide (y.firstAt = some (f + 1)) then [eosNal hevc] else []
  let most := (budgetC m n / 65536 / 8 - nalBytes (head ++ tail ++ eos)) / max 1 segs
  let slices := (List.range segs).map (fun g =>
    if ty = .idr then fillNal m hevc n j g most else skipNal m y hevc .fill ty n j g most)
  let fill := fillerOf m y n f j (nalBytes (head ++ slices ++ tail ++ eos)) true
  (s.updFlow n (fun y => y.updPic f (fun p => { p with kind := 1 }))).putOut
    { out with kind := 3, nals := head ++ slices ++ tail ++ fillerNal hevc fill ++ eos }

/-- The slices chosen for a flow stripe, each a copy or the reason of its stand-in. -/
def State.chooseSlices (s : State) (n f j ts : Nat) (whole : Option Nat) : List (Option Slice × Nat) × State :=
  match whole with
  | some r => ((List.range (s.segsOf n)).map (fun _ => (none, r)), s)
  | none => (List.range (s.segsOf n)).foldl (fun a g =>
      let r := a.2.chooseSlice n f j g ts
      (a.1 ++ [r.1], r.2)) ([], s)

/-- A stripe of a coded picture (R68, R69, R87 to R92, R97). -/
def State.codedStripe (s : State) (x : Stripe) (whole : Option Nat) (out : FlowOut) : State :=
  let m := s.comm
  let (n, f, j) := (out.flow, out.f, out.j)
  let hevc := isHevc m out.c
  let r := s.chooseSlices n f j (x.per / max 1 (nStripes m out.c)) whole
  let s := r.2
  let y := s.flowSt n
  let ty := y.picType hevc f
  let qp := match y.rateOf f j with | some v => roundDivInt v.q 16 | none => y.baseQp
  let last := decide (j + 1 = gNf m n)
  let head := if j = 0 then headNals m y n f else []
  let hash := fun (ps : List (Option Slice × Nat)) =>
    if last && hashEn m n && (y.pic f).standAt.isNone && !(y.noHashIn f) && ps.all (fun p => p.1.isSome)
    then [hashNal m n (ps.filterMap (fun p => p.1.map Slice.hash))] else []
  let nals := fun (ps : List (Option Slice × Nat)) =>
    let ready := (ps.filterMap Prod.fst).map (sliceNal m hevc ty n qp)
    let most := (budgetC m n / 65536 / 8 - nalBytes (head ++ ready)) / max 1 (ps.length - ready.length)
    head ++ (List.range ps.length).map (fun g => match (ps.getD g (none, 0)).1 with
      | some sl => sliceNal m hevc ty n qp sl
      | none => standInNal m y hevc ty n j g most) ++ hash ps
  let above := capStandIn m n && whole.isNone && r.1.any (fun p => p.1.isSome) &&
    decide ((targetOf m y n f j).2 < (8 * nalBytes (nals r.1) * 65536 : Nat))
  let picked := if above then r.1.map (fun p => (none, if p.1.isSome then 5 else p.2)) else r.1
  let reasons := (picked.filter (fun p => p.1.isNone)).map Prod.snd
  let nsi := reasons.length
  let units := nals picked
  let fill := fillerOf m y n f j (nalBytes units) (decide (nsi ≠ 0))
  let s := s.noteStandIns out.c n reasons
  let s := eachIn (picked.filterMap Prod.fst) (fun sl s => s.noteSlack out.c (s.deadlineOf x) sl) s
  let hint := fun (g : Nat) => match (picked.getD g (none, 0)).1 with
    | some sl => if Config.standInHint [n, sl.hash] then 1 else 0
    | none => 0
  let s := s.updFlow n (fun y => { y with
    hints := (List.range picked.length).foldl (fun h g => h.put 0 (32 * j + g) (hint g)) y.hints,
    baseQp := if nsi < picked.length then qp else y.baseQp })
  (s.afterStandIns n f nsi picked.length whole (decide (3 ∈ reasons) && s.badRef n f j)).putOut { out with
    kind := if nsi = 0 then 0 else if nsi = picked.length then 1 else 2, nals := units ++ fillerNal hevc fill, reasons := reasons }

/-- A stripe that a PAIRED-SHADOW standby twin codes and does not send (R281): its rate state goes on as the active twin's. -/
def State.shadowStripe (s : State) (x : Stripe) (whole : Option Nat) (out : FlowOut) : State :=
  let fill := (s.flowSt out.flow).fills out.f
  let t := if fill then s.fillStripe out else s.codedStripe x whole out
  let y := t.flowSt out.flow
  let own := t.pipe.outs.filter (fun o => !(s.pipe.outs.contains o))
  (s.updFlow out.flow (fun z => { z with u := y.u, s := y.s, pics := y.pics, hints := y.hints, baseQp := y.baseQp })).updPipe (fun p =>
    { p with outs := p.outs ++ own.map (fun o => { o with kind := 4, would := some o.kind }) })

/-- One flow stripe at its readiness deadline. -/
def State.flowDeadline (s : State) (x : Stripe) (whole : Option Nat) (muted : Bool) (n j : Nat) : State :=
  let bp := budgetP s.comm n
  let out : FlowOut := { c := x.c, f := x.f, k := x.k, flow := n, j := j, kind := 4, nals := [], reasons := [] }
  if muted && s.twinShadows x.c then (s.updFlow n (fun y => y.count bp x.f)).shadowStripe x whole out
  else if muted then
    let s := s.updFlow n (fun y => y.mutePic bp x.f)
    let s := if (s.flowSt n).fills x.f then s else s.askRefresh n false
    s.putOut out
  else
    let s := s.updFlow n (fun y => y.count bp x.f)
    if (s.flowSt n).fills x.f then s.fillStripe out else s.codedStripe x whole out

/-- Jobs of a stripe that have not finished continue as late jobs (R105), a re-run among them as a late job (R111). -/
def State.lateJobs (s : State) (c f k : Nat) : State :=
  let late := s.pipe.jobs.filter (fun b => decide (b.c = c) && decide (b.f = f) && decide (b.k = k) && !b.late)
  let o := s.pipe.order
  let s := s.updJobs (fun b => decide (b.c = c) && decide (b.f = f) && decide (b.k = k) && !b.late) (fun b => { b with late := true, rerun := false, order := o })
  let s := s.updPipe (fun p => { p with order := o + 1 })
  eachIn late (fun b s => s.inc (0xC010 + b.h) 9) s

/-- References of flow stripes for which no job ran, at their readiness deadline (R440): a fill picture's is in place, a whole-picture
stand-in leaves the reference as it was, and where stripe-ready never came the dependence ends and the copy of R105 follows. -/
def State.keepRefs (s : State) (x : Stripe) (whole : Option Nat) (n j : Nat) : State :=
  eachIn (s.codersOf n) (fun h s =>
    if s.hasJobs h n x.f j || s.refFinal h n x.f j then s
    else if (s.flowSt n).fills x.f then s.refFill h n x.f j
    else if whole.isSome || x.inserted || x.ready.contains h then s.refKeep h n x.f j
    else s.refSatisfied h n x.f j) s

/-- Why every slice of a channel's stripe is a stand-in (R94, R216, R321, R338). -/
def State.stripeWhole (s : State) (x : Stripe) : Option Nat :=
  match s.wholeReason x.c with
  | some r => some r
  | none => if x.inserted then some 7 else x.whole

end Sys2Proof.Machine
end

