-- ==== Sys2Proof/Machine/Output.lean ====
section
/-!
DEFINITION. The output stage's shared operations (chapter "Output packets, shaping and gate lists"): packets and their
headers (R176 to R179), shapers (R185 to R188), class queues and tail slots (R182, R183, R191, R196), gate lists (R193,
R194), neighbours (R174), links (R175) and meters (R197).
-/
namespace Sys2Proof.Machine

def State.updOutp (s : State) (f : Output → Output) : State := { s with outp := f s.outp }
def State.ent (s : State) (e : Nat) : TxEnt := s.outp.ents.get {} e
def State.updEnt (s : State) (e : Nat) (f : TxEnt → TxEnt) : State :=
  s.updOutp (fun o => { o with ents := o.ents.upd {} e f })
def State.ethPort (s : State) (p : Nat) : Port := s.outp.ports.get {} p
def State.updPort (s : State) (p : Nat) (f : Port → Port) : State :=
  s.updOutp (fun o => { o with ports := o.ports.upd {} p f })

/-- Whether an Ethernet port runs: enabled and carrying traffic in the committed configuration, while the module serves. -/
def State.portRuns (s : State) (p : Nat) : Bool := s.running && portOn s.comm p && portCarries s.comm p

/-- Enabled entries with a leg on a port. -/
def entriesOn (m : Tbl Val) (p : Nat) : List Nat :=
  (flowsOn m ++ (List.range 32).map (· + 4096)).filter (fun e => entryOn m e && (txCfg m e).legs.contains p)

/-- Whether a channel has flows on a port. -/
def chanOnPort (m : Tbl Val) (c p : Nat) : Bool := (flowsOf m c).any (fun n => (txCfg m n).legs.contains p)

/-! Shapers (R185, R186, R188). -/

/-- Credit brought up to an instant: it rises at m × ρ / 8 bytes a second, up to β. -/
def TxEnt.topUp (x : TxEnt) (m : Nat) : TxEnt :=
  { x with
    credit := min (x.burst * 65536) (x.credit + x.rate * 125 * x.m * 65536 * (m - x.creditAt) / (2 ^ 40 * 1000000000)),
    creditAt := max m x.creditAt }

def State.topUp (s : State) (e : Nat) : State := s.updEnt e (fun x => x.topUp s.mono)

/-- The first instant at which the credit is at least `l` bytes; none where it never is. -/
def TxEnt.creditTime (x : TxEnt) (l : Nat) : Option Nat :=
  if l * 65536 ≤ x.credit then some x.creditAt
  else if x.burst < l ∨ x.rate * x.m = 0 then none
  else some (x.creditAt + ceilDiv ((l * 65536 - x.credit) * (2 ^ 40 * 1000000000)) (x.rate * 125 * x.m * 65536))

/-- Shaper values that fall due: the credit is set to β or to 0 (R188). -/
def State.shaperDue (s : State) (e : Nat) : State :=
  match (s.ent e).due with
  | none => s
  | some (r, b, cl) =>
    let full := (txCfg s.comm e).flags.testBit 1
    s.updEnt e (fun x => { x with
      rate := r, burst := b, cls := cl, due := none, credit := if full then b * 65536 else 0, creditAt := s.mono })

/-- An entry newly armed: its committed shaper, zero credit. -/
def State.armEntry (s : State) (e : Nat) : State :=
  (s.shaperDue e).updEnt e (fun x => { x with armed := true, credit := 0, creditAt := s.mono, m := 1, sentSeq := none, lateStripe := none })

/-! Packets (R177, R178). -/

/-- Payload header and FU header of a fragment (RFC 9328, RFC 7798): layer 0, TID 0. -/
def fuHead (hevc first last pic : Bool) (typ : Nat) : List Nat :=
  let s := if first then 128 else 0
  let e := if last then 64 else 0
  if hevc then [98, 1, s + e + typ % 64] else [0, 29 * 8 + 1, s + e + (if pic then 32 else 0) + typ % 32]

/-- Sizes of the fragments of `n` bytes, each at most `cap`. -/
def pieces (cap : Nat) : Nat → Nat → List Nat
  | 0, _ => []
  | fuel + 1, n => if n = 0 then [] else if n ≤ cap then [n] else cap :: pieces cap fuel (n - cap)

/-- What one packet carries of a NAL unit: fragmentation header bytes, the NAL unit's header bytes where it begins here, its bytes'
token, offset and size, and whether it is a tail packet. -/
structure Part where
  head : List Nat
  data : List Byte
  token : Nat
  off : Nat
  size : Nat
  tail : Bool

/-- A packet of `size` bytes of a NAL unit from `off` on; the first two bytes of the unit are its header. -/
def partOf (hevc : Bool) (u : Nal) (head : List Nat) (off size : Nat) (tail : Bool) : Part :=
  { head := head, data := ((if u.data = [] then nalHeader hevc u.type else u.data).drop off).take size, token := u.token, off := off,
    size := size, tail := tail }

/-- Fragments of a NAL unit; `endsNal` when they carry it to its end, `lastPic` for the last NAL unit of a picture (assumption 103). -/
def fragments (hevc lastPic : Bool) (u : Nal) (sizes : List Nat) (endsNal : Bool) : List Part :=
  (List.range sizes.length).map (fun i =>
    let last := endsNal && decide (i + 1 = sizes.length)
    partOf hevc u (fuHead hevc (decide (i = 0)) last (last && lastPic) u.type) (sumList (sizes.take i)) (sizes.getD i 0) false)

/-- One NAL unit cut into packets (R177); `tailed` when its last 4 bytes form the tail packet. -/
def cutNal (payMax : Nat) (hevc lastPic tailed : Bool) (u : Nal) : List Part :=
  if tailed then
    if u.size ≤ 4 then [partOf hevc u [] 0 u.size true]
    else fragments hevc lastPic u (pieces (max 1 (payMax - 3)) (u.size + 1) (u.size - 4)) false ++
      [partOf hevc u (fuHead hevc false true lastPic u.type) (u.size - 4) 4 true]
  else if u.size ≤ payMax then [partOf hevc u [] 0 u.size false]
  else fragments hevc lastPic u (pieces (max 1 (payMax - 3)) (u.size + 1) u.size) true

/-- NAL units cut into packets, in bitstream order; the last of them is `tailed`, and ends its picture where `lastPic` says so. -/
def cutNals (payMax : Nat) (hevc lastPic tailed : Bool) : List Nal → List Part
  | [] => []
  | [u] => cutNal payMax hevc lastPic tailed u
  | u :: us => cutNal payMax hevc false false u ++ cutNals payMax hevc lastPic tailed us

/-- The next sequence number of an entry, taken (Table 7-2). -/
def State.takeSeq (s : State) (e : Nat) : Nat × State :=
  let q := (s.ent e).nextSeq.getD (txCfg s.comm e).seqInit
  (q, s.updEnt e (fun x => { x with nextSeq := some ((q + 1) % 65536) }))

/-- A packet of an entry formed: a body packet joins the entry's queue, a tail packet the tail slots of its legs. -/
def State.formPacket (s : State) (p : Pkt) (close : Nat) : State :=
  let r := s.takeSeq p.entry
  let p := { p with seq := r.1 }
  if p.tail then eachIn (txCfg s.comm p.entry).legs (fun l s => s.updPort l (fun x => { x with tails := x.tails ++ [(close, p)] })) r.2
  else r.2.updEnt p.entry (fun x => { x with queue := x.queue ++ [p] })

/-- SSRC of an entry (Table 7-2); a twinned entry counts from the smaller of the two identities (R280). -/
def State.ssrcIn (s : State) (m : Tbl Val) (e : Nat) : Nat :=
  let twin := decide (e < 4096) && decide (cfg m 0x8210 1 ≠ 0) && (cfg m 0x8210 4).testBit (flow m e 2)
  let id := if twin then min s.myId (cfg m 0x8210 2) else s.myId
  if (txCfg m e).ssrc = 0 then (0x48000000 + id * 8192 + e) % 2 ^ 32 else (txCfg m e).ssrc
def State.ssrcOf (s : State) (e : Nat) : Nat := s.ssrcIn s.comm e

/-- RTP header and payload of a packet (Table 7-2). -/
def State.rtpBytes (s : State) (p : Pkt) : List Byte :=
  let c := txCfg s.comm p.entry
  let ssrc := s.ssrcOf p.entry
  leBytes 1 0x80 ++ leBytes 1 ((if p.marker then 128 else 0) + c.pt % 128) ++ beBytes 2 p.seq ++ beBytes 4 p.ts ++ beBytes 4 ssrc ++
    p.head.flatMap (leBytes 1) ++ p.data ++
    (List.range (p.size - p.data.length)).map (fun i => Config.codedByte p.token (p.off + p.data.length + i))

/-- Ones' complement sum of 16-bit words. -/
def inetSum (bs : List Byte) : Nat :=
  let v := sumList ((List.range (ceilDiv bs.length 2)).map (fun i => 256 * (bs.getD (2 * i) 0).toNat + (bs.getD (2 * i + 1) 0).toNat))
  let w := v % 65536 + v / 65536
  let w := w % 65536 + w / 65536
  65535 - (w % 65536 + w / 65536) % 65536

def udpChecksum (src dst sp dp : Nat) (pl : List Byte) : Nat :=
  let n := pl.length + 8
  let v := inetSum (beBytes 4 src ++ beBytes 4 dst ++ beBytes 2 17 ++ beBytes 2 n ++ beBytes 2 sp ++ beBytes 2 dp ++ beBytes 2 n ++ [0, 0] ++ pl)
  if v = 0 then 65535 else v

/-- Whether an address is multicast, and the MAC it maps to (R174). -/
def isMulticast (ip : Nat) : Bool := decide (ip / 2 ^ 28 = 14)
def multicastMac (ip : Nat) : Nat := 0x01005E000000 + ip % 2 ^ 23

/-- The address that a port resolves for a unicast destination: itself inside the prefix, else the gateway. -/
def arpTarget (m : Tbl Val) (p ip : Nat) : Nat :=
  let h := 32 - port m p 5
  if ip / 2 ^ h = port m p 4 / 2 ^ h then ip else port m p 6

/-- The destination MAC of a port for an address; none while it has never been resolved. -/
def State.macFor (s : State) (p ip : Nat) : Option Nat :=
  if isMulticast ip then some (multicastMac ip)
  else match (s.ethPort p).neigh.get 0 (arpTarget s.comm p ip) with
    | 0 => none
    | v => some v

def destOf (c : TxCfg) (p : Nat) : Nat := if p = c.portA then c.destA else c.destB
def udpOf (c : TxCfg) (p : Nat) : Nat := if p = c.portA then c.udpA else c.udpB

/-- The frame of a packet on a leg (Table 7-2). -/
def State.packetFrame (s : State) (p : Nat) (k : Pkt) (mac : Nat) : EthFrame :=
  let c := txCfg s.comm k.entry
  let sp := if c.udpSrc = 0 then 49152 + k.entry else c.udpSrc
  let pl := s.rtpBytes k
  let src := port s.comm p 4
  { dstMac := mac, srcMac := port s.comm p 3, vlan := port s.comm p 7, pcp := (s.ent k.entry).cls, srcIp := src, dstIp := destOf c p,
    ttl := port s.comm p 8, dscp := c.dscp, srcUdp := sp, dstUdp := udpOf c p,
    udpSum := if c.flags.testBit 0 then udpChecksum src (destOf c p) sp (udpOf c p) pl else 0, payload := pl }

/-- Bytes of a frame as it stands on the wire, FCS left out. -/
def frameBytes (f : EthFrame) : List Byte :=
  beBytes 6 f.dstMac ++ beBytes 6 f.srcMac ++ (if f.vlan = 0 then [] else beBytes 2 0x8100 ++ beBytes 2 (f.pcp * 8192 + f.vlan)) ++ beBytes 2 f.ety ++
    (if f.ety = 0x0800 then
      let l4 := if f.proto = 17 then beBytes 2 f.srcUdp ++ beBytes 2 f.dstUdp ++ beBytes 2 (f.payload.length + 8) ++ beBytes 2 f.udpSum ++ f.payload else f.payload
      let h := fun (c : Nat) => beBytes 1 0x45 ++ beBytes 1 (f.dscp * 4) ++ beBytes 2 (20 + l4.length) ++ beBytes 2 0 ++ beBytes 2 0x4000 ++
        beBytes 1 f.ttl ++ beBytes 1 f.proto ++ beBytes 2 c ++ beBytes 4 f.srcIp ++ beBytes 4 f.dstIp
      h (inetSum (h 0)) ++ l4
    else f.payload)

/-- Length from destination MAC to FCS. -/
def ethLen (f : EthFrame) : Nat := max 64 ((frameBytes f).length + 4)

/-! Class queues and the timing wheel (R182, R185, R189, R196). -/

/-- Longest open interval of a class in the operational list, in 2^-40 ns; none when it never closes (R196). -/
def State.openLimit (s : State) (p q : Nat) : Option Nat :=
  if s.lv (0x6200 + p) 1 = 0 then none
  else match (s.ethPort p).gate.oper with
    | none => none
    | some g => match g.longest q true with
      | none => none
      | some t => some (t * tickUnit)

/-- Whether an event that is raised at most once per second may be raised again. -/
def State.oncePerSecond (s : State) (last : Option Nat) : Bool :=
  match last with | some m => decide (m + tuSec 1 ≤ s.now) | none => true

/-- A frame too long for any open interval of its class (R196); frames of no entry are counted and reported per port. -/
def State.tooLong (s : State) (p e : Nat) : State :=
  let s := s.inc (0x6000 + p) 0x14
  let ev := fun (dom : Nat) => ({ source := src 12 2, dom := dom, init := blockInit (portSide p) 50, access := 7 } : Ev)
  if e = 0xFFFF then
    if s.oncePerSecond (s.ethPort p).tooLongAt then (s.updPort p (fun x => { x with tooLongAt := some s.now })).raise (ev (domEth p)) else s
  else
    let s := s.updEnt e (fun x => { x with tooLong := satAdd 16 x.tooLong 1 })
    if s.oncePerSecond (s.ent e).tooLongAt
    then (s.updEnt e (fun x => { x with tooLongAt := some s.now })).raise (ev (if e < 4096 then domFlow e else domModule))
    else s

/-- An eligible frame joins its class queue on a port: a port whose link is down discards it (R175), and so is one longer than any
open interval of its class (R196). -/
def State.enqueue (s : State) (p : Nat) (q : QFrame) : State :=
  if !(s.ethPort p).link then s.inc (0x6000 + p) 0x16
  else if (match s.openLimit p q.cls with | some t => decide (t < wireTime p q.len) | none => false) then s.tooLong p q.entry
  else s.updPort p (fun x => { x with queue := x.queue ++ [q] })

/-- A control frame (ARP, ICMP, IGMP) of a port. -/
def State.control (s : State) (p : Nat) (f : EthFrame) : State :=
  let f := { f with srcMac := port s.comm p 3, vlan := port s.comm p 7, pcp := s.cm 0x6102 3, ttl := port s.comm p 8 }
  s.enqueue p { cls := s.cm 0x6102 3, eligible := s.mono, entry := 0xFFFF, len := ethLen f, frame := some f }

/-- A destination never resolved: discarded, counted, raised at most once per second (R174). -/
def State.noNeighbour (s : State) (p : Nat) : State :=
  let s := s.inc (0x6000 + p) 0x13
  if s.oncePerSecond (s.ethPort p).noNeighAt then
    (s.updPort p (fun x => { x with noNeighAt := some s.now })).raise
      { source := src (portGroup p) 10, dom := domEth p, init := ethInit p, access := 7 }
  else s

/-- An eligible packet's copy on one leg. -/
def State.legPacket (s : State) (k : Pkt) (p : Nat) : State :=
  if (s.ethPort p).link && (s.macFor p (destOf (txCfg s.comm k.entry) p)).isNone then s.noNeighbour p
  else s.enqueue p
    { cls := (s.ent k.entry).cls, eligible := k.eligible.getD s.mono, entry := k.entry, len := frameLen s.comm p (k.head.length + k.size),
      pkt := some k }

/-- A slot of the timing wheel: 10 ns (R189). -/
def wheelSlot : Nat := 4 * tickUnit

/-- Where the wheel stands an eligible instant at `now`: how many slots ahead, none on the overflow list (R189). -/
def wheelPlace (now eligible : Nat) : Option Nat :=
  let d := eligible / wheelSlot - now / wheelSlot
  if d < 16384 then some d else none

/-- When the head packet of an entry becomes eligible: the first instant, at or after its release, at which the credit reaches its
counted length (R185). -/
def State.eligibleAt (s : State) (e : Nat) : Option Nat :=
  match (s.ent e).queue with
  | [] => none
  | k :: _ => ((s.ent e).creditTime (counted s.comm e (k.head.length + k.size))).map (max k.release)

/-- The head packet of an entry joins its class queues once the slot of the wheel that holds its eligible instant has begun, never before
its release (R185, R189); until then it stands further on the wheel, or on the overflow list. -/
def State.headEligible (s : State) (e : Nat) : State :=
  match (s.ent e).queue, s.eligibleAt e with
  | k :: rest, some m =>
    if wheelPlace s.mono m = some 0 ∧ s.due k.release = true then
      let l := counted s.comm e (k.head.length + k.size)
      let s := s.updEnt e (fun x => { x.topUp m with queue := rest, credit := (x.topUp m).credit - l * 65536 })
      eachIn (txCfg s.comm e).legs (fun p s => s.legPacket { k with eligible := some m } p) s
    else s
  | _, _ => s

/-- When a queued frame may start: from the beginning of the slot that holds its eligible instant, not before its release (R189). -/
def QFrame.startAt (x : QFrame) : Nat := max (x.eligible / wheelSlot * wheelSlot) ((x.pkt.map Pkt.release).getD x.eligible)

/-- A packet leaves on a leg: PKTS_SENT counts it at its first copy (assumption 102). -/
def State.countSent (s : State) (k : Pkt) : State :=
  s.updEnt k.entry (fun x =>
    let new := match x.sentSeq with
      | none => true
      | some q => decide (0 < (k.seq + 65536 - q) % 65536 ∧ (k.seq + 65536 - q) % 65536 < 32768)
    if new then { x with sent := (x.sent + 1) % 2 ^ 32, sentSeq := some k.seq } else x)

/-! Gates (R193, R194). -/

/-- Instant at which a class's gate closes: none while it is closed, `some none` when it never does. -/
def State.gateCloses (s : State) (p q : Nat) : Option (Option Nat) :=
  if s.lv (0x6200 + p) 1 = 0 then some none
  else match (s.ethPort p).gate.oper with
    | none => if (s.lv (0x6200 + p) 2).testBit q then some none else none
    | some g =>
      let x := (s.ethPort p).gate
      let xs := fitList g.list g.cycle
      let cur := ((xs.getD x.idx (0, 0)).1).testBit q
      if !cur then none
      else
        let rot := xs.drop (x.idx + 1) ++ xs.take x.idx
        let w := rot.foldl (fun (a : Nat × Bool) e => if a.2 then a else if e.1.testBit q then (a.1 + e.2 * tickUnit, false) else (a.1, true))
          (x.entryEnd, false)
        let own := if w.2 then some w.1 else none
        let change := match x.pend with
          | some (at_, g2) => if (((fitList g2.list g2.cycle).headD (255, 0)).1).testBit q then none else some at_
          | none => none
        match own, change with
        | some a, some b => some (some (min a b))
        | some a, none => some (some a)
        | none, some b => some (some b)
        | none, none => some none

/-- OPER_GATES follows the entry in force. -/
def State.showGates (s : State) (p : Nat) : State :=
  let x := (s.ethPort p).gate
  s.setN (0x6200 + p) 0xA (
    if s.lv (0x6200 + p) 1 = 0 then 0xFF
    else match x.oper with
      | none => s.lv (0x6200 + p) 2
      | some g => ((fitList g.list g.cycle).getD x.idx (0xFF, 0)).1)

/-- Entry 0 of a list in operation begins at an instant. -/
def Gate.enter (x : Gate) (g : GateList) (at_ : Nat) : Gate :=
  { x with cycleAt := at_, idx := 0, entryEnd := at_ + ((fitList g.list g.cycle).headD (0, g.cycle)).2 * tickUnit }

/-- Position of an amount of time in a cycle: index of the entry and the end of its interval. -/
def placeIn : List (Nat × Nat) → Nat → Nat → Nat → Nat × Nat
  | [], i, done, _ => (i, done)
  | (_, d) :: rest, i, done, at_ => if at_ < done + d * tickUnit ∨ rest = [] then (i, done + d * tickUnit) else placeIn rest (i + 1) (done + d * tickUnit) at_

/-- The list realigned to its base on the counter (R194). -/
def State.realign (s : State) (x : Gate) (g : GateList) : Gate :=
  let cyc := g.cycle * tickUnit
  let ph := (((s.ctrNow : Int) - g.base) % (max 1 cyc : Nat)).toNat
  let start := s.mono - ph
  let w := placeIn (fitList g.list g.cycle) 0 0 ph
  { x with cycleAt := start, idx := w.1, entryEnd := start + w.2, realign := false }

/-- The interval in force ends (R193, R194): the next entry, or the next cycle; a new cycle that would begin less than the
extension before a pending change does not begin, and the cycle runs on to the change. -/
def State.gateStep (s : State) (p : Nat) : State :=
  let x := (s.ethPort p).gate
  match x.oper with
  | none => s
  | some g =>
    if !s.due x.entryEnd then s else
    let xs := fitList g.list g.cycle
    let y := if x.realign then s.realign x g
      else if x.idx + 1 < xs.length then { x with idx := x.idx + 1, entryEnd := x.entryEnd + (xs.getD (x.idx + 1) (0, 0)).2 * tickUnit }
      else match x.pend with
        | some (at_, _) => if at_ < x.entryEnd + g.ext * tickUnit then { x with entryEnd := max at_ (x.entryEnd + tickUnit) } else x.enter g x.entryEnd
        | none => x.enter g x.entryEnd
    (s.updPort p (fun z => { z with gate := y })).showGates p

/-- CLASS_WINDOWS of a port (Table 7-12). -/
def State.showWindows (s : State) (p : Nat) : State :=
  s.setB (0x6200 + p) 0x13 ((List.range 8).flatMap (fun q =>
    match (s.ethPort p).gate.oper with
    | none => leBytes 4 0 ++ leBytes 4 0xFFFFFFFF
    | some g => leBytes 4 (g.closedNs q) ++ leBytes 4 (g.openNs q)))

/-- The admin copy of a port. -/
def State.adminList (s : State) (p : Nat) : GateList :=
  { list := readGates (s.lvb (0x6200 + p) 3), cycle := s.lv (0x6200 + p) 4, ext := s.lv (0x6200 + p) 5, base := timeCtr (s.lv (0x6200 + p) 6) }

/-- Gc of a class on a port: the stricter of the admin and operational copies; 0 with the gate list disabled (R187, R195). -/
def State.gcOf (s : State) (p q : Nat) : Nat :=
  if s.lv (0x6200 + p) 1 = 0 then 0
  else
    let o := match (s.ethPort p).gate.oper with
      | some g => g.closedNs q
      | none => if (s.lv (0x6200 + p) 2).testBit q then 0 else 0xFFFFFFFF
    if s.lvb (0x6200 + p) 3 = [] then o else max o ((s.adminList p).closedNs q)

/-! Tail slots (R183). -/

/-- Opening of the tail slot of a stripe: the tick at or before close − 1 µs. -/
def State.slotOpen (s : State) (x : Stripe) : Nat := (s.lastByteOf x - usCtr 1) / tickUnit * tickUnit

/-- The next slot of a port that has not closed: its opening. -/
def State.nextSlot (s : State) (p : Nat) : Option Nat :=
  ((s.pipe.stripes.filter (fun x => chanOnPort s.comm x.c p && decide (s.mono < s.lastByteOf x))).map s.slotOpen).foldl
    (fun (b : Option Nat) o => some (match b with | some v => min v o | none => o)) none

/-- A frame leaves a port: counters and what goes out. -/
def State.sendFrame (s : State) (p cls len : Nat) (f : EthFrame) : State :=
  let s := ((s.inc (0x6000 + p) 0xD).addN (0x6000 + p) 0xE len).addN (0x6110 + p) (0x21 + cls) len
  (s.invertSent 5 p (fun u => decide (u = p))).emit (.eth p f)

/-- Body packets of a stripe of one entry that have not started on a port when its tail slot opens there (R191). Packets not yet eligible
are late on every leg; the stripe is counted, reported and refreshed once. -/
def State.entryLate (s : State) (p f k e : Nat) (mine : Pkt → Bool) (here : Nat) : State :=
  let x := s.ent e
  let seen := match x.lateStripe with | some (f', k', w) => if f' = f ∧ k' = k then some w else none | none => none
  let waiting := (x.queue.filter mine).length
  let all := waiting + seen.getD 0
  let s := s.updEnt e (fun x => { x with queue := x.queue.filter (fun y => !(mine y)) })
  if all + here = 0 then s
  else
    let s := (s.addN (0x6000 + p) 0x15 (all + here)).updEnt e (fun x => { x with lateStripe := some (f, k, all) })
    if seen.isSome then s
    else
      let s := s.updEnt e (fun x => { x with bodyLate := satAdd 16 x.bodyLate 1 })
      let fs := if flow s.comm e 3 = 0 then [e] else groupsOf s.comm (flow s.comm e 2)
      let s := eachIn fs (fun n s => s.askRefresh n true) s
      s.raise { source := src 12 1, dom := domFlow e, init := blockInit (portSide p) 50, access := 7 }

def State.bodyLate (s : State) (p c f k : Nat) : State :=
  let mine := fun (x : Pkt) => decide (x.c = c) && decide (x.f = f) && decide (x.k = k)
  let here := (s.ethPort p).queue.filter (fun q => (q.pkt.map mine).getD false)
  let es := (flowsOf s.comm c).filter (fun n => (txCfg s.comm n).legs.contains p)
  let s := s.updPort p (fun x => { x with queue := x.queue.filter (fun q => !((q.pkt.map mine).getD false)) })
  eachIn es (fun e s => s.entryLate p f k e mine (here.filter (fun q => decide (q.entry = e))).length) s

/-! Send windows and the merged flow (R177, R186, R58, R59). -/

/-- The packet of a part of a flow's coded data. -/
def packetOf (x : Stripe) (e f k : Nat) (marker : Bool) (now : Nat) (p : Part) : Pkt :=
  { entry := e, seq := 0, ts := x.rtp, marker := marker, token := p.token, off := p.off, size := p.size, head := p.head, data := p.data,
    c := x.c, f := f, k := k, tail := p.tail, release := now }

/-- Body and tail packets of one flow's stripes of a canvas stripe, in order; only the last stripe has a tail (R177). -/
def State.sendFlow (s : State) (x : Stripe) (n : Nat) : State :=
  let m := s.comm
  let os := s.pipe.outs.filter (fun o => decide (o.c = x.c) && decide (o.f = x.f) && decide (o.k = x.k) && decide (o.flow = n) && decide (o.kind ≠ 4))
  let lastJ := (os.getLast?.map FlowOut.j).getD 0
  eachIn os (fun o s =>
    let pic := decide (o.j + 1 = gNf m n)
    let ps := cutNals (payloadMax m n) (isHevc m x.c) pic (decide (o.j = lastJ)) o.nals
    eachIn ps (fun p s => s.formPacket (packetOf x n x.f x.k (p.tail && pic) s.mono p) (s.lastByteOf x)) s) s

/-- What the merged flow carries before a picture's slices (R58): SPS and PPS of the canvas before its first picture, a GDR picture,
and every picture's SEI messages and header; all later pictures are trailing ones. -/
def mergedHead (m : Tbl Val) (x : FlowSt) (n f w : Nat) : List Nal :=
  if f = x.firstOf f then (paramsOf m n w).nals ++ headNals m x n f else headNals m { x with pics := [] } n f

/-- What the merged flow carries of a flow stripe (R58, R59): its slices, unchanged but for the NAL unit type, and filler for the rest of
its bytes, so that the rate is the sum of the flows' rates (assumption 58). -/
def mergedPart (first : Bool) (head : List Nal) (o : FlowOut) : List Nal :=
  let ty := PicType.nal false (if first then .gdr else .trail)
  let ss := (o.nals.filter (fun u => decide (u.kind = .slice ∨ u.kind = .standIn ∨ u.kind = .fill))).map (fun u => { u with type := ty })
  head ++ ss ++ fillerNal false (nalBytes o.nals - nalBytes (head ++ ss))

/-- The flow stripes of a merged picture in the order of its bitstream: by SUBPIC_INDEX, then by stripe. -/
def mergedOrder (m : Tbl Val) (c : Nat) : List (Nat × Nat) :=
  (List.range (groupsOf m c).length).flatMap (fun i => ((groupsOf m c).filter (fun g => decide (subpicIndex m g = i))).flatMap (fun g =>
    (List.range (gNf m g)).map (fun j => (g, j))))

/-- The merged flow's packets of the slices of frame f that are complete, as far as all before them in the bitstream are (R58, R59, R178,
R186); the picture's tail leaves in the tail slot of canvas stripe N − 1 of the following frame. -/
def State.sendMerged (s : State) (x : Stripe) (n : Nat) : State :=
  let m := s.comm
  let y := s.flowSt n
  if !y.sends x.f || y.fills x.f then s else
  let outOf := fun (p : Nat × Nat) => s.pipe.outs.find? (fun o => decide (o.c = x.c) && decide (o.f = x.f) && decide (o.flow = p.1) && decide (o.j = p.2))
  let ps := (mergedOrder m x.c).filter (fun p => (s.flowSt p.1).sends x.f)
  let go := (ps.takeWhile (fun p => (outOf p).isSome)).filterMap outOf
  let todo := go.filter (fun o => !o.merged)
  let s := eachIn todo (fun o s =>
    if o.kind = 4 then s else
    let first := decide (ps.head? = some (o.flow, o.j))
    let last := decide (ps.getLast? = some (o.flow, o.j))
    let head := if first then mergedHead m y n x.f (s.segW n) else []
    let units := mergedPart (decide (x.f = y.firstOf x.f)) head o
    eachIn (cutNals (payloadMax m n) false last last units) (fun p s =>
      s.formPacket (packetOf x n (x.f + 1) (nStripes m x.c - 1) (p.tail && last) s.mono p) (s.lastByteOf x + x.per)) s) s
  s.updPipe (fun p => { p with outs := p.outs.map (fun o => if todo.contains o then { o with merged := true } else o) })

/-! Links (R175). -/

/-- Whether every entry that uses a port has another leg whose port is up. -/
def State.otherLegsUp (s : State) (p : Nat) : Bool :=
  (entriesOn s.comm p).all (fun e => (txCfg s.comm e).legs.any (fun l => decide (l ≠ p) && (s.ethPort l).link))

/-- The link conditions of every port that runs (group 5 or 6, bits 0 to 9). -/
def State.linkConds (s : State) : State :=
  eachBelow 10 (fun p s =>
    let down := s.portRuns p && !(s.ethPort p).link
    let ev := fun b => ({ source := src (portGroup p) b, dom := domEth p, init := ethInit p, access := 6 } : Ev)
    let ok := s.otherLegsUp p
    (s.cond (ev (5 + portBit p)) (down && !ok)).cond (ev (portBit p)) (down && ok)) s

/-- LINK_STATE of a port: disabled, down or up. -/
def State.showLink (s : State) (p : Nat) : State :=
  s.setN (0x6000 + p) 0xC (if !(portOn s.comm p && portCarries s.comm p) then 0 else if (s.ethPort p).link then 2 else 1)

/-! Neighbours (R174). -/

def arpFrame (op sMac sIp tMac tIp : Nat) (dst : Nat) : EthFrame :=
  { dstMac := dst, ety := 0x0806,
    payload := beBytes 2 1 ++ beBytes 2 0x0800 ++ beBytes 1 6 ++ beBytes 1 4 ++ beBytes 2 op ++ beBytes 6 sMac ++ beBytes 4 sIp ++
      beBytes 6 tMac ++ beBytes 4 tIp }

/-- Addresses a port resolves for its entries. -/
def arpTargets (m : Tbl Val) (p : Nat) : List Nat :=
  ((entriesOn m p).map (fun e => destOf (txCfg m e) p)).filter (fun d => !(isMulticast d)) |>.map (arpTarget m p) |>.eraseDups

/-- The port that the instances of Net A or Net B run on (R207): the port itself, or its PTP_SUBPORT. -/
def State.ptpPort (s : State) (net : Nat) : Nat :=
  if s.cm (0x6000 + net) 2 = 0 then net else 2 + 4 * net + s.cm (0x7010 + net) 6

/-- PTP instances run by the module on a port. -/
def State.ptpRuns (s : State) (i : Nat) : Bool :=
  decide (s.cm (0x7010 + i % 2) 1 = 1) && (s.cm (0x7010 + i % 2) 2).testBit (i / 2) && s.portRuns (s.ptpPort (i % 2))

/-- Masters that a port sends its Delay_Req to by unicast (R207). -/
def State.masterTargets (s : State) (p : Nat) : List Nat :=
  (List.range 2).flatMap (fun n =>
    if s.ptpRuns n && decide (s.ptpPort n = p) && decide (s.cm (0x7010 + n) 4 = 1) then
      ((s.ptp n).masters.filter (fun m => decide (some m.port = (s.ptp n).master))).map (fun m => arpTarget s.comm p m.ip)
    else [])

/-- An ARP request for one address. -/
def State.arpAsk (s : State) (p d : Nat) : State :=
  s.control p (arpFrame 1 (port s.comm p 3) (port s.comm p 4) 0 d 0xFFFFFFFFFFFF)

/-- ARP requests for every destination of a port. -/
def State.arpAll (s : State) (p : Nat) : State :=
  let s := s.updPort p (fun x => { x with arpAt := s.now })
  eachIn ((arpTargets s.comm p ++ s.masterTargets p).eraseDups) (fun d s => s.arpAsk p d) s

/-- An address resolved; the unresolved condition ends once every destination is. -/
def State.resolved (s : State) (p ip mac : Nat) : State :=
  if !((arpTargets s.comm p ++ s.masterTargets p).contains ip) then s else
  let s := s.updPort p (fun x => { x with neigh := x.neigh.put 0 ip mac })
  if (arpTargets s.comm p).all (fun d => decide ((s.ethPort p).neigh.get 0 d ≠ 0))
  then s.cond { source := src (portGroup p) 10, dom := domEth p, init := ethInit p, access := 7 } false
  else s

/-! Meters (R197). -/

def State.meter (s : State) (m sub : Nat) : Nat := s.lv (0x6400 + m) sub

/-- Buckets full. -/
def State.fillMeter (s : State) (m : Nat) : State :=
  s.updOutp (fun o => { o with meters := o.meters.put {} m ⟨s.meter m 8 * 65536, s.meter m 0xA * 65536, s.mono⟩ })

/-- Colour a frame carries by its DSCP: 0 green, 1 yellow, 2 red. -/
def preColour (dscp : Nat) : Nat :=
  if (dscp / 8 = 1 ∨ dscp / 8 = 2 ∨ dscp / 8 = 3 ∨ dscp / 8 = 4) then (if dscp % 8 = 4 then 1 else if dscp % 8 = 6 then 2 else 0) else 0

/-- Buckets brought up to now: RFC 2697 lets C overflow into E; RFC 2698 fills both. -/
def State.meterNow (s : State) (m : Nat) : Meter :=
  let x := s.outp.meters.get {} m
  let dt := s.mono - x.at_
  let add := fun (rate : Nat) => rate * 8192 * dt / (2 ^ 40 * 1000000000)
  let cbs := s.meter m 8 * 65536
  let ebs := s.meter m 0xA * 65536
  if s.meter m 2 < 2 then
    let c := x.c + add (s.meter m 7)
    ⟨min cbs c, min ebs (x.e + (c - cbs)), s.mono⟩
  else ⟨min cbs (x.c + add (s.meter m 7)), min ebs (x.e + add (s.meter m 9)), s.mono⟩

/-- The colour of a frame of `n` bytes and the buckets after it. -/
def meterMark (mode pre n : Nat) (b : Meter) : Nat × Meter :=
  let v := n * 65536
  if mode < 2 then
    if pre = 0 ∧ v ≤ b.c then (0, { b with c := b.c - v })
    else if pre ≤ 1 ∧ v ≤ b.e then (1, { b with e := b.e - v })
    else (2, b)
  else if pre = 2 ∨ b.e < v then (2, b)
  else if pre = 1 ∨ b.c < v then (1, { b with e := b.e - v })
  else (0, { b with c := b.c - v, e := b.e - v })

/-- The meter that matches a frame: the lowest-numbered. -/
def State.meterOf (s : State) (p : Nat) (f : EthFrame) : Option Nat :=
  if f.ety ≠ 0x0800 then none
  else firstBelow 1024 (fun m =>
    let h := 32 - s.meter m 5
    decide (s.meter m 1 = 1) && (s.meter m 3).testBit p && decide (f.dstIp / 2 ^ h = s.meter m 4 / 2 ^ h) &&
      (decide (s.meter m 6 = 0) || decide (f.proto = 17 ∧ f.dstUdp = s.meter m 6)))

/-- A received frame metered; whether it passes. -/
def State.metered (s : State) (p : Nat) (f : EthFrame) : State × Bool :=
  match s.meterOf p f with
  | none => (s, true)
  | some m =>
    let aware := decide (s.meter m 2 % 2 = 1)
    let r := meterMark (s.meter m 2) (if aware then preColour f.dscp else 0) (ethLen f) (s.meterNow m)
    let s := s.updOutp (fun o => { o with meters := o.meters.put {} m r.2 })
    let s := s.inc (0x6400 + m) (0xC + r.1)
    let act_ := if r.1 = 1 then s.meter m 0xB % 4 else if r.1 = 2 then s.meter m 0xB / 4 % 4 else 0
    if act_ = 2 then (s.addN (0x6400 + m) 0xF (ethLen f), false) else (s, true)

end Sys2Proof.Machine
end

