-- ==== Sys2Proof/Machine/ReadyCmd.lean ====
section
/-!
DEFINITION. The commands of the readiness deadline (R87, R103, R268), at which the packet builder reads the slices (R179) and the merged
flow takes those that are complete (R186).
-/
namespace Sys2Proof.Machine

/-- READINESS_DEADLINE (R87), with what the check of the mirror records finds (R266). -/
def execReadinessDeadline (t : Nat) (c : Fin 16) (f : Nat) (k : DueStripe) (s : State) : Host.Outcome State Fault Refusal :=
  act t (fun s =>
    match s.stripe c f k.stripe with
    | none => s
    | some x =>
      if x.dead || !s.due (s.deadlineOf x) then s else
      let s := s.handoffAt c
      let whole := s.stripeWhole x
      let muted := s.chMuted c
      let parts := (s.partsOf c k.stripe).filter (fun p => (s.flowSt p.1).sends f)
      let s := eachIn parts (fun p s => s.noteCopies p.1 f p.2 (s.deadlineOf x)) s
      let s := eachIn parts (fun p s => s.flowDeadline x whole muted p.1 p.2) s
      let s := s.lateJobs c f k.stripe
      let s := eachIn parts (fun p s => s.keepRefs x whole p.1 p.2) s
      let s := (s.mirrorStripe x (parts.map Prod.fst).eraseDups (k.bad.map Fin.val) (k.again.map Fin.val)).sendToken x parts
      let s := (s.updStripe c f k.stripe (fun x => { x with dead := true, muted := muted, whole := whole })).freeOld
      let s := eachIn ((flowsOf s.comm c).filter (fun n => decide (flow s.comm n 3 ≠ 0))) (fun n s => s.sendMerged x n) s
      eachBelow 4 (fun i s =>
        if s.pairState i = 3 then
          let ns := (s.flowsOnPair i).filter (fun n => s.pipe.outs.any (fun o => decide (o.c = c.val) && decide (o.f = f) && decide (o.k = k.stripe) &&
            decide (o.flow = n) && decide (o.reasons ≠ [])))
          let s := s.updPair i (fun p => { p with gap := ns.foldl (fun g n => g.upd 0 n (· + 1)) p.gap })
          s.setN (0x8201 + i) 7 (maxList ((s.pairSt i).gap.map Prod.snd))
        else s) (eachBelow 8 (fun h s => s.dispatch h) s)) s

/-- SLICE_IN_OUTPUT_BUFFER (R103, R268): a late copy is compared with the copy that was sent. -/
def execSliceInOutputBuffer (t : Nat) (h : Fin 8) (flow : Fin 4096) (f j seg : Nat) (s : State) : Host.Outcome State Fault Refusal :=
  act t (fun s =>
    let mine := fun (x : Slice) => decide (x.h = h.val) && decide (x.flow = flow.val) && decide (x.f = f) && decide (x.j = j) && decide (x.seg = seg)
    match s.pipe.slices.find? (fun x => mine x && x.inBuf.isNone) with
    | none => s
    | some x =>
      let dead := (s.stripe x.c f x.k).elim true Stripe.dead
      let s := s.updPipe (fun p => { p with slices := p.slices.map (fun y => if mine y then { y with inBuf := some s.mono, late := y.late || dead } else y) })
      let other := s.pipe.slices.find? (fun y => decide (y.h = otherSide h) && decide (y.flow = flow.val) && decide (y.f = f) && decide (y.j = j) &&
        decide (y.seg = seg) && !y.late && y.inBuf.isSome)
      match other with
      | some y =>
        if dead && (s.shadowHearth flow).isSome && !(s.flowSt flow).compareOff && decide (y.hash ≠ x.hash)
        then s.pairMismatch flow (x.wids ++ y.wids) else s
      | none => s) s

/-- The stripe whose token is missed is sent by the side that takes its channel over (R284). -/
def State.sendMissed (s : State) (x : Stripe) : State :=
  let mine := fun (o : FlowOut) => decide (o.c = x.c) && decide (o.f = x.f) && decide (o.k = x.k)
  let lost := (s.pipe.outs.filter (fun o => mine o && decide (o.kind = 4) && o.would.isNone)).map (fun o => (o.flow, o.j))
  let s := s.updPipe (fun p => { p with outs := (p.outs.filter (fun o => !(mine o && lost.contains (o.flow, o.j)))).map (fun o =>
    if mine o then { o with kind := o.would.getD o.kind, would := none, merged := false } else o) })
  let s := s.updStripe x.c x.f x.k (fun y => { y with muted := false })
  let s := eachIn lost (fun p s => (s.updFlow p.1 (fun y => y.updPic x.f (fun q => { q with muted := false }))).flowDeadline x none false p.1 p.2) s
  eachIn ((flowsOf s.comm x.c).filter (fun n => decide (flow s.comm n 3 ≠ 0))) (fun n s => s.sendMerged x n) s

/-- SEND_TOKEN_MISSED (R284): 14 µs after a readiness deadline without its token. -/
def execSendTokenMissed (t : Nat) (c : Fin 16) (f k : Nat) (s : State) : Host.Outcome State Fault Refusal :=
  act t (fun s =>
    match s.stripe c f k with
    | some x =>
      if s.twinned c && decide (s.lv 0x8210 7 = 1) && s.pair.muted.contains c.val && s.due (s.deadlineOf x + usCtr 14) &&
          !(s.pair.tokens.any (fun r => decide (r.stripe = stripeTag f k) && decide (flow s.comm r.flow 2 = c.val))) then
        let n := s.pair.missed.get 0 c + 1
        let s := (s.updPairs (fun p => { p with missed := p.missed.put 0 c n })).inc 0x8210 0xD
        let reach_ := s.reaches (s.cm 0x8210 2)
        if n < s.lv 0x8210 6 ∨ s.lv 0x8210 8 ≠ 1 then s
        else if reach_ then ((s.flueTo { dest := s.cm 0x8210 2, src := s.myId, cls := 2, typ := 0x21, pay := [3, s.cm 0x8210 4] }).handOver c 8).sendMissed x
        else if s.lv 0x8210 5 = 1 then (s.handOver c 9).sendMissed x
        else s.twinReach
      else s
    | none => s) s

end Sys2Proof.Machine
end

