-- ==== Sys2Proof/Machine/OutCmd.lean ====
section
/-!
DEFINITION. The output stage's commands (chapter "Output packets, shaping and gate lists"): send windows and tail slots
(R177 to R191), transmission selection (R182, R196), received frames (R173, R174, R197), links (R175), gate lists
(R193 to R195) and queue observation (R198).
-/
namespace Sys2Proof.Machine

/-! Send windows (R177, R186). -/

/-- SEND_WINDOW_OPEN (R186): body packets are released, and each flow's bucket runs at m × ρ until its next window. What the merged flow
has yet to release stays. -/
def execSendWindowOpen (t : Nat) (c : Fin 16) (f k : Nat) (s : State) : Host.Outcome State Fault Refusal :=
  act t (fun s =>
    match s.stripe c f k with
    | none => s
    | some x =>
      if !x.dead || x.sent || !s.due (s.sendOpenOf x) then s else
      let m := s.comm
      let on := (groupsOf m c).filter (fun n => (s.flowSt n).sends f)
      let s := eachIn on (fun n s => (s.topUp n).updEnt n (fun e => { e with m := (stripesIn m n k).length, muted := x.muted })) s
      let s := eachIn on (fun n s => s.sendFlow x n) s
      let merging := (flowsOf m c).any (fun n => decide (flow m n 3 ≠ 0) && (s.flowSt n).sends f)
      let s := s.updPipe (fun p => { p with outs := p.outs.filter (fun o =>
        !(decide (o.c = c.val) && (if merging then decide (k + 1 = nStripes m c) && decide (o.f ≤ f) else decide (o.f = f) && decide (o.k = k)))) })
      s.updStripe c f k (fun x => { x with sent := true })) s

/-! Tail slots (R183, R191). -/

/-- Whether a tail leaves before another: by the close of its slot, then by entry. -/
def tailBefore (a b : Nat × Pkt) : Bool := decide (a.1 < b.1) || (decide (a.1 = b.1) && decide (a.2.entry ≤ b.2.entry))

def insertTail (a : Nat × Pkt) : List (Nat × Pkt) → List (Nat × Pkt)
  | [] => [a]
  | b :: bs => if tailBefore b a then b :: insertTail a bs else a :: b :: bs

/-- One tail packet's copy leaves on a port. -/
def State.sendTail (s : State) (p : Nat) (k : Pkt) : State :=
  if !(s.ethPort p).link then s.inc (0x6000 + p) 0x16
  else match s.macFor p (destOf (txCfg s.comm k.entry) p) with
    | none => s.noNeighbour p
    | some mac => (s.countSent k).sendFrame p (s.ent k.entry).cls (frameLen s.comm p (k.head.length + k.size)) (s.packetFrame p k mac)

/-- TAIL_SLOT_OPEN (R183): late body packets are discarded (R191), then the slot's tail packets leave whatever the gates. -/
def execTailSlotOpen (t : Nat) (port : Fin 10) (c : Fin 16) (f k : Nat) (s : State) : Host.Outcome State Fault Refusal :=
  act t (fun s =>
    let p := port.val
    let mine := fun (e : Nat × Pkt) => decide (e.2.c = c.val) && decide (e.2.f = f) && decide (e.2.k = k)
    let own := match s.stripe c f k with
      | some x => if chanOnPort s.comm c p && s.due (s.slotOpen x) && x.dead then some (s.lastByteOf x) else none
      | none => none
    let close := match own with
      | some m => some m
      | none => ((s.ethPort p).tails.find? mine).bind (fun e => if s.due (e.1 - usCtr 1) then some e.1 else none)
    if !s.portRuns p then s else
    match close with
    | none => s
    | some m =>
      let s := s.bodyLate p c f k
      let ts := ((s.ethPort p).tails.filter mine).foldr insertTail []
      let s := s.updPort p (fun x => { x with tails := x.tails.filter (fun e => !mine e), slotTill := max x.slotTill m })
      let s := eachIn ts (fun e s => s.sendTail p e.2) s
      s.updStripe c f k (fun x => { x with tail := true })) s

/-- PACKET_ELIGIBLE (R185). -/
def execPacketEligible (t : Nat) (e : Fin 4128) (s : State) : Host.Outcome State Fault Refusal :=
  act t (fun s => if s.running && (s.ent e).armed then s.headEligible e else s) s

/-! Transmission selection (R182, R196). -/

/-- Order within a class: eligible time, entry, sequence number. -/
def QFrame.before (a b : QFrame) : Bool :=
  if a.eligible ≠ b.eligible then decide (a.eligible < b.eligible)
  else if a.entry ≠ b.entry then decide (a.entry < b.entry)
  else decide ((a.pkt.map Pkt.seq).getD 0 < (b.pkt.map Pkt.seq).getD 0)

/-- Head of a class: the first of the frames that may start now. -/
def State.classHead (s : State) (p q : Nat) : Option QFrame :=
  ((s.ethPort p).queue.filter (fun x => decide (x.cls = q) && s.due x.startAt)).foldl
    (fun (b : Option QFrame) x => match b with
      | none => some x
      | some y => if x.before y then some x else some y) none

/-- What keeps a class's head frame: 0 nothing, 1 its gate is closed, 2 it cannot finish before its gate closes or a tail
slot opens. -/
def State.classStop (s : State) (p q len : Nat) : Nat :=
  match s.gateCloses p q with
  | none => 1
  | some g =>
    let fin := s.mono + wireTime p len
    let late := fun (o : Option Nat) => match o with | some m => decide (m < fin) | none => false
    if late g || late (s.nextSlot p) then 2 else 0

/-- A transmit timestamp enters its queue (R204 to R206), unless the queue is full. -/
def State.stampTx (s : State) (q ident msg : Nat) : State :=
  let l := s.servo.tsq.get [] q
  if 64 ≤ l.length then
    let s := s.inc (0x6800 + q) 3
    let due := match s.servo.tsOver.get none q with | some m => decide (m + tuSec 1 ≤ s.now) | none => true
    if due then (s.updServo (fun v => { v with tsOver := v.tsOver.put none q (some s.now) })).raise (timeEv (10 + q) 8) else s
  else s.updServo (fun v => { v with tsq := v.tsq.put [] q (l ++ [⟨s.now, (s.ctrAt s.now / 2 ^ 40).toNat % 2 ^ 32, ident, msg⟩]) })

/-- The module's engine reads the timestamps of a queue that it owns (R206): those of one message, or all (assumption 119). -/
def State.takeStamps (s : State) (q : Nat) (mine : TsEnt → Bool) : State :=
  s.updServo (fun v => { v with tsq := v.tsq.upd [] q (fun l => l.filter (fun e => !mine e)) })

/-- A chosen frame starts: it leaves its queue, its sojourn is counted (R198), and a PTP event message is timestamped
(R204). -/
def State.startFrame (s : State) (p : Nat) (x : QFrame) : State :=
  let ns := (s.mono - x.eligible) / 2 ^ 40
  let s := s.updPort p (fun y => { y with
    queue := y.queue.erase x, busyTill := s.mono + wireTime p x.len,
    sojourn := y.sojourn.upd 0 (16 * x.cls + histBin (tuNs ns)) (· + 1) })
  let s := match x.stamp with
    | none => s
    | some (i, seq, msg) =>
      let full := decide (64 ≤ (s.servo.tsq.get [] (portSide p)).length)
      let s := s.stampTx (portSide p) seq msg
      if i = 0 ∨ full then s
      else s.updPtp (i - 1) (fun y => { y with req := y.req.map (fun r => if r.1 = seq then (r.1, some (to16 (s.ctrAt s.now))) else r) })
  match x.pkt, x.frame with
  | some k, _ =>
    match s.macFor p (destOf (txCfg s.comm k.entry) p) with
    | some mac => (s.countSent k).sendFrame p x.cls x.len (s.packetFrame p k mac)
    | none => s.noNeighbour p
  | none, some f => s.sendFrame p x.cls x.len f
  | none, none => s

/-- Classes from 7 down: the first whose head frame may start does; frames that cannot finish are held, counted once. -/
def State.selectGo (s : State) (p : Nat) : List Nat → State
  | [] => s
  | q :: qs =>
    match s.classHead p q with
    | none => s.selectGo p qs
    | some x =>
      match s.classStop p q x.len with
      | 0 => s.startFrame p x
      | 1 => s.selectGo p qs
      | _ =>
        let s := if x.held then s
          else (s.updPort p (fun y => { y with queue := y.queue.map (fun z => if z = x then { z with held := true } else z) })).inc (0x6110 + p) (0x31 + q)
        s.selectGo p qs

/-- PORT_TX_SELECT (R182, R189, R196). -/
def execPortTxSelect (t : Nat) (port : Fin 10) (s : State) : Host.Outcome State Fault Refusal :=
  act t (fun s =>
    let x := s.ethPort port
    if s.portRuns port && x.link && s.due x.busyTill && s.due x.slotTill then s.selectGo port [7, 6, 5, 4, 3, 2, 1, 0] else s) s

/-! Received frames (R173, R174). -/

/-- The number that bytes spell most significant first. -/
def beAt (b : List Byte) (o n : Nat) : Nat := leNat ((b.drop o).take n).reverse

/-- Ingest streams with a leg on a port: stream, its destination, UDP port and source filter (R157). -/
def ingestOn (m : Tbl Val) (p : Nat) : List (Nat × Nat × Nat × Nat) :=
  (List.range 16).flatMap (fun i =>
    let o := fun (sub : Nat) => cfg m (0x2100 + i) sub
    if o 1 = 1 then
      (if o 2 = p then [(i, o 4, o 6, o 8 % 2 ^ 32)] else []) ++ (if o 3 = p then [(i, o 5, o 7, o 8 / 2 ^ 32)] else [])
    else [])

/-- Whether a destination MAC passes: the port's own, broadcast, an ingest group, or PTP's multicast addresses. -/
def State.macOk (s : State) (p mac : Nat) : Bool :=
  [port s.comm p 3, 0xFFFFFFFFFFFF, 0x011B19000000, 0x0180C200000E, multicastMac 0xE0000181, multicastMac 0xE000006B, multicastMac 0xE0000001].contains mac ||
    (ingestOn s.comm p).any (fun e => isMulticast e.2.1 && decide (multicastMac e.2.1 = mac))

def isPtp (f : EthFrame) : Bool :=
  decide (f.ety = 0x88F7) || (decide (f.ety = 0x0800) && decide (f.proto = 17) && decide (f.dstUdp = 319 ∨ f.dstUdp = 320))

/-- IGMPv3 membership of a port's ingest groups (R171). -/
def State.igmpReport (s : State) (p : Nat) : State :=
  let ip := port s.comm p 4
  let gs := ((ingestOn s.comm p).filter (fun e => isMulticast e.2.1)).map (fun e => (e.2.1, e.2.2.2)) |>.eraseDups
  let recs := gs.flatMap (fun g =>
    if g.2 = 0 then beBytes 1 2 ++ beBytes 1 0 ++ beBytes 2 0 ++ beBytes 4 g.1
    else beBytes 1 1 ++ beBytes 1 0 ++ beBytes 2 1 ++ beBytes 4 g.1 ++ beBytes 4 g.2)
  let body := fun (c : Nat) => beBytes 1 0x22 ++ beBytes 1 0 ++ beBytes 2 c ++ beBytes 2 0 ++ beBytes 2 gs.length ++ recs
  if gs = [] then s
  else s.control p { dstMac := multicastMac 0xE0000016, srcIp := ip, dstIp := 0xE0000016, proto := 2, payload := body (inetSum (body 0)) }

/-- The port's control responder: ARP requests and replies, ICMP echo requests, IGMP queries. None: not for it. -/
def State.respond (s : State) (p : Nat) (f : EthFrame) : Option State :=
  let ip := port s.comm p 4
  let mac := port s.comm p 3
  if f.ety = 0x0806 then
    let b := f.payload
    let (op, sMac, sIp, tIp) := (beAt b 6 2, beAt b 8 6, beAt b 14 4, beAt b 24 4)
    let s := if op = 2 ∨ op = 1 then s.resolved p sIp sMac else s
    some (if op = 1 ∧ tIp = ip then s.control p (arpFrame 2 mac ip sMac sIp sMac) else s)
  else if f.ety = 0x0800 ∧ f.proto = 1 ∧ beAt f.payload 0 1 = 8 ∧ f.dstIp = ip then
    let body := fun (c : Nat) => leBytes 2 0 ++ beBytes 2 c ++ f.payload.drop 4
    some (s.control p { dstMac := f.srcMac, srcIp := ip, dstIp := f.srcIp, proto := 1, payload := body (inetSum (body 0)) })
  else if f.ety = 0x0800 ∧ f.proto = 2 ∧ beAt f.payload 0 1 = 0x11 then
    some (s.igmpReport p)
  else none

/-- A PTP frame that host software reads: at most 32 wait (R209). -/
def State.hostPtp (s : State) (p : Nat) (f : EthFrame) : State :=
  let q := portSide p
  let l := s.servo.rx.get [] q
  if 32 ≤ l.length then s.inc (0x6808 + q) 3
  else
    let b := frameBytes f
    s.updServo (fun v => { v with rx := v.rx.put [] q (l ++ [leBytes 12 (ctrTime (s.ctrAt s.now).toNat) ++ leBytes 2 b.length ++ b]) })

/-- Whether a datagram belongs to management or to an ingest stream, whose own commands carry what it does. -/
def State.takenUp (s : State) (p : Nat) (f : EthFrame) : Bool :=
  decide (f.ety = 0x0800) && decide (f.proto = 17) &&
    ((decide (s.cm 0x1120 1 = 1) && (s.cm 0x1120 3).testBit p && decide (f.dstUdp = s.cm 0x1120 2) && decide (f.dstIp = port s.comm p 4)) ||
      (ingestOn s.comm p).any (fun e => decide (f.dstIp = e.2.1) && decide (f.dstUdp = e.2.2.1) && decide (e.2.2.2 = 0 ∨ e.2.2.2 = f.srcIp)))

/-- Whether a frame is one that the port takes (Table 7-1): 64 to MTU + 22 bytes, one 802.1Q tag at most, no IPv4 options. -/
def frameTaken (m : Tbl Val) (p : Nat) (f : EthFrame) : Bool :=
  !f.runt && !f.options && decide (ethLen f ≤ port m p 9 + 22) && decide (f.ety ≠ 0x8100 ∧ f.ety ≠ 0x88A8 ∧ f.ety ≠ 0x9100)

/-- ETH_FRAME_RX (R171, R173, R174, R197, R209). -/
def execEthFrameRx (t : Nat) (port : Fin 10) (frame : EthFrame) (s : State) : Host.Outcome State Fault Refusal :=
  act t (fun s =>
    let p := port.val
    let drop := fun (s : State) => s.inc (0x6000 + p) 0x10
    if !(s.portRuns p && (s.ethPort p).link) then s else
    let s := s.inc (0x6000 + p) 0xF
    if frame.ety = 0x8808 then (drop s).raise { source := src (portGroup p) 14, dom := domEth p, init := ethInit p, access := 6 }
    else if !s.macOk p frame.dstMac then drop s
    else if frame.frag || !frameTaken s.comm p frame then drop s
    else
      let r := s.metered p frame
      let s := r.1
      if !r.2 then s
      else if isPtp frame then (if s.cm (0x7010 + portSide p) 1 = 2 then s.hostPtp p frame else s)
      else match s.respond p frame with
        | some s => s
        | none => if s.takenUp p frame then s else drop s) s

/-! Links (R174, R175). -/

/-- PORT_STATE or AS_STATE of an instance. -/
def State.setPtpState (s : State) (i v : Nat) : State := s.setN (0x7010 + i % 2) (7 + i / 2) v

/-- Group 5 or 6 source 13: an instance of the port is lost (R208). -/
def State.ptpLostCond (s : State) (net : Nat) (lost : Bool) : State :=
  s.cond { source := src (5 + net) 13, dom := domEth net, init := ethInit net, access := 8 } lost

/-- An instance is lost: it is no longer qualified and starts listening again, faulty while its link is down. -/
def State.losePtp (s : State) (i v : Nat) : State :=
  let s := s.updPtp i (fun x => { x with
    masters := [], master := none, annAt := none, syncAt := none, sync := none, lastMs := none, req := none, resp := none, delays := [], good := 0 })
  let s := s.setPtpState i v
  let s := if i < 2 then s.setN (0x7010 + i) 9 0 else s
  (s.ptpLostCond (i % 2) true).reselect

/-- ETH_LINK_UP (R174). -/
def execEthLinkUp (t : Nat) (port : Fin 10) (s : State) : Host.Outcome State Fault Refusal :=
  act t (fun s =>
    let p := port.val
    if !s.portRuns p || (s.ethPort p).link then s else
    let s := (s.updPort p (fun x => { x with link := true, busyTill := s.mono })).showLink p
    let s := s.linkConds
    let s := eachBelow 4 (fun i s => if s.ptpRuns i && decide (s.ptpPort (i % 2) = p) then s.setPtpState i 1 else s) s
    let ip := Sys2Proof.Machine.port s.comm p 4
    let s := s.control p (arpFrame 1 (Sys2Proof.Machine.port s.comm p 3) ip 0 ip 0xFFFFFFFFFFFF)
    (s.igmpReport p).arpAll p) s

/-- ETH_LINK_DOWN (R175). -/
def execEthLinkDown (t : Nat) (port : Fin 10) (s : State) : Host.Outcome State Fault Refusal :=
  act t (fun s =>
    let p := port.val
    if !(s.ethPort p).link then s else
    let s := (s.updPort p (fun x => { x with link := false })).showLink p
    let s := s.linkConds
    eachBelow 4 (fun i s => if s.ptpRuns i && decide (s.ptpPort (i % 2) = p) then s.losePtp i 4 else s) s) s

/-- NEIGHBOUR_REFRESH (R174): every 60 s. -/
def execNeighbourRefresh (t : Nat) (port : Fin 10) (s : State) : Host.Outcome State Fault Refusal :=
  act t (fun s =>
    if s.portRuns port && (s.ethPort port).link && decide ((s.ethPort port).arpAt + tuSec 60 ≤ s.now) then s.arpAll port else s) s

/-! Gate lists (R193 to R195). -/

/-- GATE_INTERVAL_END (R193). -/
def execGateIntervalEnd (t : Nat) (port : Fin 10) (s : State) : Host.Outcome State Fault Refusal :=
  act t (fun s => s.gateStep port) s

/-- GATE_CHANGE_TIME (R194): the admin copy becomes operational and its first cycle begins with entry 0. -/
def execGateChangeTime (t : Nat) (port : Fin 10) (s : State) : Host.Outcome State Fault Refusal :=
  act t (fun s =>
    let p := port.val
    match (s.ethPort p).gate.pend with
    | none => s
    | some (at_, g) =>
      if !s.due at_ then s else
      let s := s.updPort p (fun x => { x with gate := { ({ x.gate with oper := some g, pend := none, realign := false }).enter g at_ with } })
      let i := 0x6200 + p
      let s := s.setB i 0xB (g.list.flatMap (fun e => leBytes 4 e.2 ++ leBytes 2 0 ++ leBytes 1 e.1 ++ leBytes 1 0))
      let s := (((s.setN i 0xC g.cycle).setN i 0xD g.ext).setN i 0xE (ctrTime g.base)).setN i 8 0
      (s.showGates p).showWindows p) s

/-- Open part of the cycle of a class, as a fraction. -/
def openOf (g : GateList) (q : Nat) : Nat × Nat :=
  (sumList (((fitList g.list g.cycle).filter (fun e => e.1.testBit q)).map Prod.snd), g.cycle)

/-- Reff of a port in kbit/s (R192), for the channels with flows there. -/
def reff (m : Tbl Val) (p : Nat) : Nat :=
  let r := portGbit p * 1000000
  let cs := (chanOn m).filter (fun c => chanOnPort m c p)
  let tail := sumList (cs.map (fun c => ceilDiv (r * 1000 * 65536) (max 1 (ts16 m c))))
  r - tail - (if p < 2 then 1000000 else 250000)

/-- Peak of a canvas on a port over its stripes in kbit/s, of the entries `sel` picks (R51, R192): m × ρ of each group flow, ρ of a
merged one. -/
def canvasPeak (m : Tbl Val) (c p : Nat) (gc : Nat → Nat) (sel : Nat → Bool) : Nat :=
  let fs := (flowsOf m c).filter (fun n => (txCfg m n).legs.contains p && sel n)
  if fs = [] then 0 else
  let rho := fs.map (fun n => (n, (shaperOf m n (gc n)).1))
  maxList ((List.range (nStripes m c)).map (fun k => sumList (rho.map (fun e =>
    if flow m e.1 3 = 0 then (stripesIn m e.1 k).length * e.2 else e.2))))

/-- Load of a port in kbit/s (R51, R192): the worst stripe of each canvas, and every audio entry. -/
def portPeak (m : Tbl Val) (p : Nat) (gc : Nat → Nat) (sel : Nat → Bool) : Nat :=
  sumList ((chanOn m).map (fun c => canvasPeak m c p gc sel)) +
    sumList (((entriesOn m p).filter (fun e => decide (4096 ≤ e) && sel e)).map (fun e => (shaperOf m e (gc e)).1))

/-- The largest Gc of an entry's class on its legs (R187). -/
def State.gcEntry (s : State) (m : Tbl Val) (e : Nat) : Nat :=
  maxList ((txCfg m e).legs.map (fun p => s.gcOf p (txCfg m e).cls))

/-- The open-fraction check of R192 with a list: Σ L(q) / OF(q) at most Reff. -/
def openFits (m : Tbl Val) (p : Nat) (gc : Nat → Nat) (g : Option GateList) : Bool :=
  let l := fun (q : Nat) => portPeak m p gc (fun e => decide ((txCfg m e).cls = q))
  let need := (List.range 8).foldl (fun (a : Option Nat) q =>
    match a with
    | none => none
    | some v =>
      if l q = 0 then some v
      else match g with
        | none => some (v + l q)
        | some g => let o := openOf g q; if o.1 = 0 then none else some (v + ceilDiv (l q * o.2) o.1)) (some 0)
  match need with
  | some v => decide (v ≤ reff m p)
  | none => false

/-- Table 7-4 and the ranges of the admin copy. -/
def gatesOk (b : List Byte) : Bool :=
  decide (b.length % 8 = 0) && decide (b.length ≠ 0) && decide (b.length ≤ 8192) &&
    (List.range (b.length / 8)).all (fun i =>
      decide (fieldAt b (8 * i + 7) (8 * i + 7) = 0) && decide (fieldAt b (8 * i + 5) (8 * i + 4) = 0) &&
      decide (1 ≤ fieldAt b (8 * i + 3) (8 * i)) && decide (fieldAt b (8 * i + 3) (8 * i) ≤ 400000000))

/-- CONFIG_CHANGE (R194, R195): the state after it and the abort code, 0 when it is accepted. -/
def State.configChange (s : State) (p : Nat) : State × Nat :=
  let i := 0x6200 + p
  let g := s.adminList p
  if !(gatesOk (s.lvb i 3) && decide (400 ≤ g.cycle) && decide (g.cycle ≤ 400000000) && decide (g.ext ≤ g.cycle)) then (s.inc i 0x10, 5)
  else
    let worse := (List.range 8).any (fun q => decide (s.outp.gcUsed.get 0 (8 * p + q) < g.closedNs q))
    if (decide (s.sys.mode = .laid) || decide (s.sys.mode = .lit)) && (worse || !openFits s.comm p (s.gcEntry s.comm) (some g)) then (s, 0xC)
    else
      let now := s.ctrNow
      let least := now + usCtr 1
      let cyc := max 1 (g.cycle * tickUnit)
      let passed := decide (g.base < least)
      let at_ := if passed then g.base + ceilDiv (least - g.base) cyc * cyc else g.base
      let s := s.updPort p (fun x => { x with gate := { x.gate with pend := some (((at_ : Int) - s.clk.off).toNat, g) } })
      let s := if passed then s.inc i 0xF else s
      ((s.setN i 8 1).setN i 9 (ctrTime at_), 0)

/-! Meters and queue observation (R197, R198). -/

/-- Depth bin of a number of bytes (R198). -/
def depthBin (d : Nat) : Nat := if d = 0 then 0 else if d < 128 then 1 else min 15 (2 + log2Go 64 (d / 128))

/-- QUEUE_DEPTH_SAMPLE (R198). -/
def execQueueDepthSample (t : Nat) (port : Fin 10) (s : State) : Host.Outcome State Fault Refusal :=
  act t (fun s =>
    if !s.portRuns port then s else
    let q := (s.ethPort port).queue
    let depth := fun (c : Nat) => sumList ((q.filter (fun x => decide (x.cls = c) && decide (x.eligible ≤ s.mono))).map QFrame.len)
    s.updPort port (fun x => { x with
      depth := (List.range 8).foldl (fun (d : Tbl Nat) c => d.upd 0 (16 * c + depthBin (depth c)) (· + 1)) x.depth })) s

/-- HIST_WINDOW_END (R198): both histograms of every class are copied at once, and the next window begins with the
HIST_WINDOW then in force. -/
def execHistWindowEnd (t : Nat) (port : Fin 10) (s : State) : Host.Outcome State Fault Refusal :=
  act t (fun s =>
    let x := s.ethPort port
    if !s.isUp || decide (s.now < x.histAt + tuMs x.histLen) then s else
    let block := fun (d : Tbl Nat) (q : Nat) => (List.range 16).flatMap (fun b => leBytes 4 (d.get 0 (16 * q + b)))
    let s := eachBelow 8 (fun q s => (s.setB (0x6110 + port) (1 + q) (block x.depth q)).setB (0x6110 + port) (0x11 + q) (block x.sojourn q)) s
    s.updPort port (fun x => { x with depth := [], sojourn := [], histAt := s.now, histLen := s.lv (0x6000 + port) 0xB })) s

end Sys2Proof.Machine
end

