-- ==== Sys2Proof/Machine/TimeCmd.lean ====
section
/-!
DEFINITION. PTP (R204 to R209), transmit timestamps (R205, R206) and time over Flue (R254 to R256): operations and
commands.
-/
namespace Sys2Proof.Machine

/-- 2^n seconds as an amount of instants. -/
def logSec (n : Int) : Nat := if n < 0 then tuSec 1 / 2 ^ (-n).toNat else tuSec (2 ^ n.toNat)

/-- The mean after the largest and the smallest have been dropped, of at least three values; else of all (R208, R254). -/
def trimMean (xs : List Int) : Int :=
  let sum := xs.foldl (· + ·) 0
  if xs.length < 3 then (if xs = [] then 0 else roundDivInt sum xs.length)
  else
    let hi := xs.foldl max (xs.headD 0)
    let lo := xs.foldl min (xs.headD 0)
    roundDivInt (sum - hi - lo) (xs.length - 2)

/-- Whether a rank comes before another in the best master clock algorithm's order. -/
def rankBefore (a b : List Nat) : Bool :=
  match (List.zip a b).find? (fun q => q.1 ≠ q.2) with
  | some q => decide (q.1 < q.2)
  | none => false

/-- The best of the masters heard. -/
def bestMaster (ms : List Master) : Option Master :=
  ms.foldl (fun (b : Option Master) m => match b with
    | none => some m
    | some x => if rankBefore m.rank x.rank then some m else b) none

/-- An Announce (R207): the master's data set, and the choice of master anew. -/
def State.announce (s : State) (i : Nat) (m : PtpMsg) : State :=
  if i < 2 ∧ ¬(-3 ≤ m.logInt ∧ m.logInt ≤ 1) then s else
  let new : Master := { port := m.port, ip := m.ip, rank := m.rank, flags := m.flags, utc := m.utc, gm := m.gm }
  let ms := (s.ptp i).masters.filter (fun x => x.port ≠ m.port) ++ [new]
  let best := bestMaster ms
  let old := (s.ptp i).master
  let s := s.updPtp i (fun x => { x with masters := ms, master := best.map Master.port })
  let s := if (best.map Master.port) = some m.port then s.updPtp i (fun x => { x with annInt := logSec m.logInt, annAt := some s.now }) else s
  let s := if (best.map Master.port) = old then s
    else
      let s := s.updPtp i (fun x => { x with
        annInt := logSec m.logInt, annAt := some s.now, syncAt := none, sync := none, lastMs := none, req := none, resp := none,
        delays := if i < 2 then [] else x.delays, good := 0, reqInt := tuSec 1 })
      s.setPtpState i 2
  let s := if i < 2 then s.setN (0x7010 + i) 9 ((best.map Master.gm).getD 0) else s
  s.reselect

/-- One offset sample of an instance (R208). -/
def State.offsetSample (s : State) (i : Nat) (t2 t1 corr : Int) : State :=
  let x := s.ptp i
  let s := s.updPtp i (fun y => { y with lastMs := some (t2 - t1 - corr) })
  if x.delays = [] then s else
  let asym := signed 32 (s.lv (0x7010 + i % 2) 5) * 65536
  let theta := t2 - t1 - trimMean x.delays - corr - asym
  let s := (s.updPtp i (fun y => { y with good := y.good + 1 })).setPtpState i 3
  let s := if 4 ≤ (s.ptp i).good ∧ (s.ptp (i % 2)).good + (s.ptp (i % 2 + 2)).good ≠ 0 then s.ptpLostCond (i % 2) false else s
  let s := s.sample (i + 1) theta (x.syncInt * 2 ^ 40 / 36)
  if s.sourceNow = i + 1 then s.setN 0x7001 0xF (unsigned 64 (trimMean x.delays)) else s

/-- MSG of the event message that an instance sends (Table 8-1): Delay_Req; Pdelay_Req of 802.1AS. -/
def reqMsg (i : Nat) : Nat := if i < 2 then 1 else 0x12

/-- A path delay measured; the engine takes the request's timestamp out of its queue. -/
def State.pathDelay (s : State) (i : Nat) (d : Int) : State :=
  let ident := ((s.ptp i).req.map Prod.fst).getD 0x10000
  let s := s.takeStamps (i % 2) (fun e => decide (e.ident = ident) && decide (e.msg = reqMsg i))
  let s := s.updPtp i (fun x => { x with delays := (d :: x.delays).take 8, req := none, resp := none })
  if i < 2 then s else s.setN (0x7010 + i % 2) 0xA (unsigned 32 (trimMean (s.ptp i).delays / 65536))

/-- A Sync message (R207, R208): every one received counts in SYNC_RX. -/
def State.syncMsg (s : State) (i : Nat) (m : PtpMsg) : State :=
  let lo : Int := if i < 2 then -7 else -5
  let s := s.inc (0x7010 + i % 2) 0xB
  if (s.ptp i).master ≠ some m.port ∨ m.logInt < lo ∨ 0 < m.logInt ∨ (2 ≤ i ∧ m.twoStep = false) then s else
  let s := s.updPtp i (fun x => { x with syncInt := logSec m.logInt, syncAt := some s.now })
  if m.twoStep then s.updPtp i (fun x => { x with sync := some (m.seq, m.rx, m.correction) })
  else s.offsetSample i m.rx m.stamp m.correction

/-- Pdelay_Resp_Follow_Up: the neighbour's rate ratio and the propagation delay (IEEE 802.1AS). -/
def State.pdelayDone (s : State) (i : Nat) (t1 t2 t3 t4 corr : Int) : State :=
  let ratio := match (s.ptp i).prev with
    | some (a, b) => if b < t4 then some (t3 - a, t4 - b) else (s.ptp i).ratio
    | none => (s.ptp i).ratio
  let s := s.updPtp i (fun x => { x with prev := some (t3, t4), ratio := ratio })
  let turn := match ratio with
    | some (a, b) => roundDivInt ((t4 - t1) * a) b.toNat
    | none => t4 - t1
  s.pathDelay i (roundDivInt (turn - (t3 - t2) - corr) 2)

/-- The domain of an instance (Table 8-2): DOMAIN, and 0 of 802.1AS. -/
def State.ptpDomain (s : State) (i : Nat) : Nat := if i < 2 then s.cm (0x7010 + i) 3 else 0

/-- PTP_EVENT_RX (R207, R208): a message of the instance's own domain. -/
def execPtpEventRx (t : Nat) (inst : Fin 4) (msg : PtpMsg) (s : State) : Host.Outcome State Fault Refusal :=
  act t (fun s =>
    let i := inst.val
    let x := s.ptp i
    if !s.ptpRuns i || !(s.ethPort (s.ptpPort (i % 2))).link || decide (msg.domain ≠ s.ptpDomain i) then s else
    match msg.kind with
    | .announce => s.announce i msg
    | .sync => s.syncMsg i msg
    | .followUp =>
      match x.sync with
      | some (q, t2, c) =>
        if q = msg.seq ∧ x.master = some msg.port then
          (s.updPtp i (fun y => { y with sync := none })).offsetSample i t2 msg.stamp (c + msg.correction)
        else s
      | none => s
    | .delayResp =>
      match x.req, x.lastMs with
      | some (q, some t3), some ms =>
        if i < 2 && msg.mine && decide (q = msg.seq) && decide (x.master = some msg.port) then
          let s := s.updPtp i (fun y => { y with reqInt := logSec msg.logInt })
          s.pathDelay i (roundDivInt (ms + (msg.stamp - t3 - msg.correction)) 2)
        else s
      | _, _ => s
    | .pdelayResp =>
      match x.req with
      | some (q, some _) =>
        if decide (2 ≤ i) && msg.mine && decide (q = msg.seq) then s.updPtp i (fun y => { y with resp := some (msg.stamp, msg.rx, msg.correction) }) else s
      | _ => s
    | .pdelayRespFollowUp =>
      match x.req, x.resp with
      | some (q, some t1), some (t2, t4, c) =>
        if decide (2 ≤ i) && msg.mine && decide (q = msg.seq) then s.pdelayDone i t1 t2 msg.stamp t4 (c + msg.correction) else s
      | _, _ => s) s

/-- PTP_ANNOUNCE_TIMEOUT (R208): no Announce of the master for three intervals. -/
def execPtpAnnounceTimeout (t : Nat) (inst : Fin 4) (s : State) : Host.Outcome State Fault Refusal :=
  act t (fun s =>
    match (s.ptp inst).annAt with
    | some m =>
      if m + 3 * (s.ptp inst).annInt ≤ s.now then (s.losePtp inst 1).inc (0x7010 + inst.val % 2) 0xC else s
    | none => s) s

/-- PTP_SYNC_TIMEOUT (R208): no Sync for four intervals. -/
def execPtpSyncTimeout (t : Nat) (inst : Fin 4) (s : State) : Host.Outcome State Fault Refusal :=
  act t (fun s =>
    match (s.ptp inst).syncAt with
    | some m => if m + 4 * (s.ptp inst).syncInt ≤ s.now then s.losePtp inst 1 else s
    | none => s) s

/-- A PTP message of this module: the common header of IEEE 1588 and a body of `body` bytes. -/
def ptpBytes (typ sdo domain ident seq body logInt : Nat) : List Byte :=
  leBytes 1 (typ + 16 * sdo) ++ leBytes 1 2 ++ beBytes 2 (34 + body) ++ leBytes 1 domain ++ leBytes 1 0 ++ beBytes 2 0 ++ beBytes 8 0 ++
    beBytes 4 0 ++ beBytes 8 ident ++ beBytes 2 1 ++ beBytes 2 seq ++ leBytes 1 (if typ = 1 then 1 else 5) ++ leBytes 1 logInt ++
    List.replicate body 0

/-- A clock identity made from a port's MAC address. -/
def clockIdent (mac : Nat) : Nat := mac / 2 ^ 24 * 2 ^ 40 + 0xFFFE * 2 ^ 24 + mac % 2 ^ 24

/-- PTP_DELAY_REQ_SEND (R204, R205, R207): Delay_Req, or Pdelay_Req, queued in PTP_CLASS. A unicast one to a master not yet resolved is
discarded (R174) and asks for its address (assumption 120). -/
def execPtpDelayReqSend (t : Nat) (inst : Fin 4) (s : State) : Host.Outcome State Fault Refusal :=
  act t (fun s =>
    let i := inst.val
    let p := s.ptpPort (i % 2)
    let x := s.ptp i
    let gap := if i < 2 then x.reqInt else tuSec 1
    if !s.ptpRuns i || !(s.ethPort p).link || decide (s.now < x.reqAt + gap) || (decide (i < 2) && x.lastMs.isNone) then s else
    let m := s.comm
    let mac := port m p 3
    let q := x.nextSeq
    let cls := s.cm 0x6102 1
    let uni := decide (i < 2) && decide (s.cm (0x7010 + i % 2) 4 = 1)
    let ip := if uni then (x.chosen.map Master.ip).getD 0 else 0xE0000181
    let dst := if i < 2 then (if uni then s.macFor p ip else some (multicastMac ip)) else some 0x0180C200000E
    let s := s.updPtp i (fun x => { x with reqAt := s.now, nextSeq := (q + 1) % 65536, req := some (q, none), resp := none })
    match dst with
    | none => (s.noNeighbour p).arpAsk p (arpTarget m p ip)
    | some d =>
      let f : EthFrame :=
        if i < 2 then
          { dstMac := d, srcMac := mac, vlan := port m p 7, pcp := cls, srcIp := port m p 4, dstIp := ip, ttl := port m p 8,
            srcUdp := 319, dstUdp := 319, payload := ptpBytes 1 0 (s.cm (0x7010 + i % 2) 3) (clockIdent mac) q 10 0x7F }
        else { dstMac := d, srcMac := mac, ety := 0x88F7, payload := ptpBytes 2 1 0 (clockIdent mac) q 20 0 }
      s.enqueue p { cls := cls, eligible := s.mono, entry := 0xFFFF, len := ethLen f, frame := some f,
                    stamp := some (i + 1, q, reqMsg i) }) s

/-- A PTP frame that host software wrote (R209): sent in PTP_CLASS; false where it is no PTP frame. -/
def State.ptpTxFrame (s : State) (q : Nat) (b : List Byte) : State × Bool :=
  let o := if beAt b 12 2 = 0x8100 then 16 else 12
  let ety := beAt b o 2
  let l4 := o + 2 + 20
  let l2 := decide (ety = 0x88F7)
  let udp := decide (ety = 0x0800) && decide (beAt b (o + 2 + 9) 1 = 17) && decide (beAt b (l4 + 2) 2 = 319 ∨ beAt b (l4 + 2) 2 = 320)
  if !(l2 || udp) then (s, false)
  else
    let msg := if l2 then o + 2 else l4 + 8
    let cls := s.cm 0x6102 1
    let typ := beAt b msg 1
    let f : EthFrame :=
      if l2 then { dstMac := beAt b 0 6, srcMac := beAt b 6 6, vlan := if o = 16 then beAt b 14 2 % 4096 else 0, pcp := cls, ety := ety, payload := b.drop (o + 2) }
      else { dstMac := beAt b 0 6, srcMac := beAt b 6 6, vlan := if o = 16 then beAt b 14 2 % 4096 else 0, pcp := cls, dscp := beAt b (o + 3) 1 / 4,
             ttl := beAt b (o + 10) 1, srcIp := beAt b (o + 14) 4, dstIp := beAt b (o + 18) 4, srcUdp := beAt b l4 2, dstUdp := beAt b (l4 + 2) 2,
             udpSum := beAt b (l4 + 6) 2, payload := b.drop (l4 + 8) }
    (s.enqueue (s.ptpPort q) {
      cls := cls, eligible := s.mono, entry := 0xFFFF, len := b.length, frame := some f,
      stamp := if typ % 16 < 4 then some (0, beAt b (msg + 30) 2, typ) else none }, true)

/-- Whether a transmit timestamp queue is the module's own (R206). -/
def State.ownsQueue (s : State) (q : Nat) : Bool := decide (2 ≤ q) || decide (s.cm (0x7010 + q) 1 ≠ 2)

/-- The bytes of a timestamp entry (Table 8-1). -/
def TsEnt.bytes (e : TsEnt) : List Byte := leBytes 1 1 ++ leBytes 1 e.msg ++ leBytes 2 e.ident ++ leBytes 4 e.ns

/-- TS_ENTRY_STALE (R206): entries unread for 2 s are discarded, and with them what the module's engine would have read. -/
def execTsEntryStale (t : Nat) (q : Fin 5) (s : State) : Host.Outcome State Fault Refusal :=
  act t (fun s =>
    let l := s.servo.tsq.get [] q
    let keep := l.filter (fun e => decide (s.now < e.at_ + tuSec 2))
    let gone := l.filter (fun e => !(decide (s.now < e.at_ + tuSec 2)))
    if keep.length = l.length then s
    else
      let s := eachBelow 4 (fun i s => if i % 2 = q.val then s.updPtp i (fun x => { x with
          req := x.req.map (fun r => if gone.any (fun e => decide (e.ident = r.1) && decide (e.msg = reqMsg i)) then (r.1, none) else r) }) else s) s
      (s.updServo (fun v => { v with tsq := v.tsq.put [] q keep })).addN (0x6800 + q) 4 (l.length - keep.length)) s

/-! Time over Flue (R254 to R256). -/

/-- The module's offer (R255): a flag, origin, servo state, hops, sequence, grandmaster, TIME_FLAGS, UTC offset. -/
def State.ownOffer (s : State) : List Nat :=
  let f := s.sourceFlags s.sourceNow
  let none_ := [0, 0xFFFF, 0, 0, 0, 0, 0, 0]
  if s.cm 0x8100 0xD = 0 then none_
  else if s.lv 0x7001 0xC = 2 ∧ s.sourceNow ≠ 5 then [1, s.myId, 2, 0, s.flue.timeSeq, f.2.2, f.1, f.2.1]
  else if s.sourceNow = 5 then
    match s.upstreamPort.bind (fun p => (s.link p).offer) with
    | some o => [1, o.origin, o.servo, o.hops + 1, o.seq, o.gm, o.flags, o.utc]
    | none => none_
  else none_

/-- TIME_UPSTREAM, TIME_ORIGIN and TIME_HOPS. -/
def State.showFlueTime (s : State) : State :=
  let up := if s.sourceNow = 5 then s.upstreamPort else none
  let o := s.ownOffer
  let origin := match up.bind (fun p => (s.link p).offer) with
    | some f => (f.origin, f.hops + 1)
    | none => if o.headD 0 = 1 then (s.myId, 0) else (0xFFFF, 0)
  ((s.setN 0x8100 0xE (up.getD 0xFF)).setN 0x8100 0xF origin.1).setN 0x8100 0x10 origin.2

/-- FLUE_TIME_EXCHANGE (R204, R254, R255): every 15.625 ms on a link that is up. The engine has read the port's queue by then. -/
def execFlueTimeExchange (t : Nat) (port : Fin 3) (s : State) : Host.Outcome State Fault Refusal :=
  act t (fun s =>
    let p := port.val
    let x := s.link p
    let now16 := (to16 (s.ctrAt s.now)).toNat
    let due := match x.sentAt with | some m => decide (m + tuUs 15625 ≤ s.now) | none => true
    if !s.linkUp p || !due then s else
    let s := s.updFlue (fun v => { v with timeSeq := v.timeSeq + 1 })
    let up := (s.upstreamPort.bind s.peerId).getD 0xFFFF
    let s := s.flueOn p { dest := 0xFFFE, src := s.myId, cls := 0, typ := 2, pay := [now16, x.gotTx, x.gotRx] ++ s.ownOffer ++ [up] }
    let s := (s.takeStamps (2 + p) (fun _ => true)).stampTx (2 + p) (s.flue.timeSeq % 65536) 0
    let s := s.updLink p (fun v => { v with sentAt := some s.now, stale := v.stale + 1 })
    s.reselect.showFlueTime) s

/-- FLUE_TIME_FRAME_RX (R254, R256). `lineAt` is the receive instant at the contact. -/
def execFlueTimeFrameRx (t : Nat) (port : Fin 3) (frame : FlueFrame) (lineAt : Nat) (s : State) : Host.Outcome State Fault Refusal :=
  act t (fun s =>
    let p := port.val
    let w := fun (i : Nat) => frame.pay.getD i 0
    if !s.linkUp p || decide (frame.typ ≠ 2) then s else
    let t4 := to16 (s.ctrAt lineAt)
    let (t3, t1, t2) := ((w 0 : Int), (w 1 : Int), (w 2 : Int))
    let measuring := decide (s.now < (s.link p).remeasure)
    let s := s.updLink p (fun v => { v with gotTx := w 0, gotRx := t4.toNat })
    let s := if t1 = 0 then s
      else
        let d := roundDivInt ((t4 - t1) - (t3 - t2)) 2
        let s := s.updLink p (fun v => { v with delays := (d :: v.delays).take 8 })
        s.setN (0x8110 + p) 6 (unsigned 32 (trimMean (s.link p).delays * 1000 / 65536))
    let offer : Option Offer := if w 3 = 1 then
        some { origin := w 4, servo := w 5, hops := w 6, seq := w 7, gm := w 8, flags := w 9, utc := w 10, upstream := w 11 }
      else none
    let old := (s.link p).offer
    let fresh := match offer, old with
      | some a, some b => decide (a.origin ≠ b.origin ∨ a.seq ≠ b.seq)
      | some _, none => true
      | none, _ => false
    let s := s.updLink p (fun v => { v with
      offer := offer, stale := if fresh then 0 else v.stale, good := if offer.isNone || measuring then 0 else v.good + 1 })
    let s := s.reselect
    let s := if !measuring && decide (s.upstreamPort = some p) then
        let d := trimMean (s.link p).delays
        let s := s.sample 5 (t4 - t3 - d) (nsCtr 15625000)
        if s.sourceNow = 5 then s.setN 0x7001 0xF (unsigned 64 d) else s
      else s
    s.showFlueTime) s

end Sys2Proof.Machine
end

