-- ==== Sys2Proof/Machine/Audio.lean ====
section
/-!
DEFINITION. Audio (chapter "Audio"): commands of the source ports (R223 to R230), and ST 2110-30 flows (R231, R232).
-/
namespace Sys2Proof.Machine

/-- The number that WORD_BITS sampled bits spell, most significant first, two's complement; absent bits are 0. -/
def wordOf (bits : List Bool) (n : Nat) : Int :=
  signed n (((bits ++ List.replicate n false).take n).foldl (fun (v : Nat) b => 2 * v + (if b then 1 else 0)) 0)

/-- The word of a slot (R223): in I2S format its MSB follows the WS edge by one BCLK, in left-justified format it is on the edge. -/
def State.slotWord (s : State) (p : Nat) (bits : List Bool) (slot : Nat) : Int :=
  let o := fun (sub : Nat) => s.cm (0x7100 + p) sub
  wordOf (bits.drop (slot * o 4 + (if o 3 = 0 then 1 else 0))) (o 5) * (2 ^ (32 - o 5) : Nat)

/-- I2S_FRAME_RX (R223, R224): `left` and `right` are the levels of SD at the rising edges of BCLK while WS is low and while it is high,
the bit after the period with them. A controller port's frame starts where the module lets WS fall. -/
def execI2sFrameRx (t : Nat) (p : Fin 8) (lineAt : Nat) (left right : List Bool) (s : State) : Host.Outcome State Fault Refusal :=
  act t (fun s =>
    let p := p.val
    let bits := left ++ right
    if !s.aPortOn p then s else
    let ctrl := decide (s.cm (0x7100 + p) 2 = 1)
    let hz := audioRateHz (s.cm (0x7100 + p) 6)
    let s := s.audioClock
    let at_ := if ctrl then s.wsFall p (s.monoAt lineAt) else s.monoAt lineAt
    let s := if ctrl then (s.updAPort p (fun x => { x with ws := some at_ })).emit (.ws p at_ (2 * s.cm (0x7100 + p) 4 * hz)) else s
    let s := s.takeSample p { at_ := at_, l := s.slotWord p bits 0, r := s.slotWord p bits 1 }
    if ctrl then s.showRate p (1000 * hz)
    else match s.measured p with
      | some r => s.showRate p r
      | none => s) s

/-- HDMI_AUDIO_PACKET_RX (R226): the sample words are the packet's 24-bit fields; unsupported audio shows on all four virtual ports. -/
def execHdmiAudioPacketRx (t : Nat) (p : Fin 2) (packet : HdmiAudio) (s : State) : Host.Outcome State Fault Refusal :=
  act t (fun s =>
    if !(s.running && (s.hdmi p).locked) then s else
    let n := (packet.pairs.headD []).length
    eachBelow 4 (fun i s =>
      let q := 8 + 4 * p.val + i
      if !packet.supported then (if s.aPortOn q then s.stretch q .silent else s).setN (0x7100 + q) 0xB 4
      else if !s.aPortOn q then (if s.asrc q = 4 then s.setN (0x7100 + q) 0xB 0 else s)
      else
        let s := s.updAPort q (fun x => { x with unused := (packet.pairs[i]?).isNone })
        let xs := (packet.pairs[i]?).getD (List.replicate n (0, 0))
        let at_ := s.monoAt packet.lineAt
        let s := eachIn xs (fun x s => s.takeSample q { at_ := at_, l := x.1 * 256, r := x.2 * 256 }) s
        s.showRate q (1000 * packet.rate)) s) s

/-- ASRC_LOCKED (R227): the FIFO starts at its centre. -/
def execAsrcLocked (t : Nat) (p : Fin 16) (s : State) : Host.Outcome State Fault Refusal :=
  act t (fun s =>
    if s.aPortOn p && decide (s.asrc p = 1) && (s.aPort p).since.isSome then (((s.centre p).stretch p .live).setN (0x7100 + p) 0xB 2).showLeads else s) s

/-- AUDIO_UNDERRUN (R226, R229): the FIFO is empty 0.5 ms after the input stops, or at once on HDMI lock loss; channels that the stream's
layout does not carry do not underrun. -/
def execAudioUnderrun (t : Nat) (p : Fin 16) (s : State) : Host.Outcome State Fault Refusal :=
  act t (fun s =>
    let empty := (s.aPort p).smps.all (fun a => decide (a.at_ ≤ s.fifoAt + tickUnit))
    let lost := decide (8 ≤ p.val) && !(s.hdmi ((p.val - 8) / 4)).locked
    if s.aLive p && !(s.aPort p).unused && (empty || lost) then s.hold p true else s) s

/-- AUDIO_OVERRUN (R229, R230): the FIFO passes 1 ms, or departs from the lead's by more than 32 samples. -/
def execAudioOverrun (t : Nat) (p : Fin 16) (s : State) : Host.Outcome State Fault Refusal :=
  act t (fun s =>
    if !s.aLive p then s else
    let slip := match s.audio.lead.get none (s.groupOf p) with
      | some l => decide (l ≠ p.val) && decide (32 * 65536 < Int.natAbs (s.fill p - s.fill l))
      | none => false
    let full := decide ((usCtr 1000 * 65536 : Nat) < s.fill p * s.inputPeriod p)
    if slip || full then (if slip then s.inc (0x7100 + p) 0x10 else s).hold p false else s) s

/-- UNDERRUN_HOLD_END (R229): the held output ramps to 0. -/
def execUnderrunHoldEnd (t : Nat) (p : Fin 16) (s : State) : Host.Outcome State Fault Refusal :=
  act t (fun s =>
    match (s.aPort p).runs.head? with
    | some r =>
      if s.aPortOn p && (s.aPort p).hold && decide (r.mode = .held) && decide (r.from_ + usCtr (1000 * s.lv (0x7100 + p) 9) ≤ s.fifoAt + tickUnit) then
        s.stretch p .fade
      else s
    | none => s) s

/-- AUDIO_RESUME (R229, R230): the FIFO is at its centre again, or where the group reads, and the output ramps to the live signal; an overrun holds for
1 ms first. -/
def execAudioResume (t : Nat) (p : Fin 16) (s : State) : Host.Outcome State Fault Refusal :=
  act t (fun s =>
    match (s.aPort p).runs.head? with
    | some r =>
      let full := (s.aPort p).smps.any (fun a => decide (s.fifoAt + tickUnit < a.at_))
      let held := (s.aPort p).hold || decide (r.from_ + usCtr 1000 ≤ s.fifoAt + tickUnit)
      if s.aPortOn p && s.aHeld p && full && held then ((s.centre p).stretch p .rise).updAPort p (fun x => { x with hold := false }) else s
    | none => s) s

/-! Flows (R231, R232). -/

/-- Count of the first packet of a flow whose release comes at or after an instant of `Clock.mono`. -/
def State.firstPacket (s : State) (a at_ : Nat) : Int :=
  let np := packetSamples s.comm a
  let v := (at_ : Int) + s.clk.off - s.audio.err - (usCtr 20 : Nat)
  let up := fun (x : Int) (d : Nat) => (x + d - 1) / (d : Int)
  up (up (v * 48000) (1000000000 * 2 ^ 40) - np) np * np

/-- An audio flow armed to send from an instant on. -/
def State.armAudio (s : State) (a at_ : Nat) : State :=
  let s := s.audioClock
  (s.armEntry (4096 + a)).updAudio (fun x => { x with next := x.next.put none a (some (s.firstPacket a at_)) })

/-- Channels of a flow in CHANNEL_MAP order. -/
def channelMap (m : Tbl Val) (a : Nat) : List Nat := (cfgB m (0x7120 + a) 5).map BitVec.toNat

/-- One sample word of a flow: L16 or L24, big endian, rounded to the nearest. -/
def audioWord (enc : Nat) (v : Int) : List Byte :=
  let w := if enc = 0 then 16 else 24
  let x := clampInt (roundDivInt v (2 ^ (32 - w))) (-(2 ^ (w - 1) : Nat)) ((2 ^ (w - 1) : Nat) - 1)
  beBytes (w / 8) (unsigned w x)

/-- The value of a module channel in sample m (R228). -/
def State.channelAt (s : State) (ch : Nat) (m : Int) : Int :=
  if 32 ≤ ch then 0
  else
    let p := ch / 2
    if s.aPortOn p then outAt (s.aPort p) (s.sampleMono m - nsCtr (s.cm (0x7100 + p) 8)) (decide (ch % 2 = 1)) else 0

/-- AUDIO_PACKET_RELEASE (R188, R232). -/
def execAudioPacketRelease (t : Nat) (a : Fin 32) (s : State) : Host.Outcome State Fault Refusal :=
  act t (fun s =>
    let a := a.val
    let e := 4096 + a
    let s := s.audioClock
    let runs := decide (s.sys.mode = .lit) || (decide (s.sys.mode = .damped) && decide (s.sys.dampedFrom = .lit))
    match s.audio.next.get none a with
    | none => s
    | some m =>
      let np := packetSamples s.comm a
      if !runs || !entryOn s.comm e || decide ((s.mono + tickUnit : Int) < s.sampleMono (m + np) + usCtr 20) then s else
      let s := s.shaperDue e
      let s := s.updAudio (fun x => { x with next := x.next.put none a (some (m + np)) })
      let muted := s.dampedActs && s.sys.dampedMute
      let silent := s.dampedActs || decide (s.lv (0x7120 + a) 6 = 1)
      let map := channelMap s.comm a
      let held := map.any (fun ch => decide (ch < 32) && s.aHeld (ch / 2))
      let s := (s.updEnt e (fun x => { x with muted := muted })).setN (0x7120 + a) 8 (if muted ∨ silent then 3 else if held then 2 else 1)
      if muted then s else
      let data := (List.range np).flatMap (fun (i : Nat) => map.flatMap (fun ch => audioWord (audio s.comm a 3) (if silent then 0 else s.channelAt ch (m + (i : Nat)))))
      (s.topUp e).formPacket {
        entry := e, seq := 0, ts := unsigned 32 m, marker := false, token := 0, off := 0, size := data.length, head := [], data := data,
        c := 16, f := 0, k := 0, tail := false, release := s.mono } 0) s

end Sys2Proof.Machine
end

