-- ==== Sys2Proof/Machine/FrameOps.lean ====
section
/-!
DEFINITION. The shared operations of frame and stripe boundaries: phase corrections (R213 to R216), the order of R31,
staged changes (R63, R64) and live writes (R131), latching (R129, R130, R135), what layers draw (R125 to R128, R145,
R146), complexity (R70), signature regions (R144, R145), supply sag (R337, R338), and observation windows (R116).
-/
namespace Sys2Proof.Machine

def State.compOf (s : State) (c : Nat) : Comp := s.comp.get {} c
def State.updComp (s : State) (c : Nat) (f : Comp → Comp) : State := { s with comp := s.comp.upd {} c f }

/-- Initiator of a composition pipe (Table 1-6), and a class 2 event of a channel in group 8. -/
def pipeInit (p : Nat) : Nat := blockInit (p / 4) (24 + p % 4)
def State.compEvent (s : State) (c : Nat) : State :=
  let p := ((pipesOfMask (s.lv (0x3000 + c) 0xA)).head?).getD 0
  s.raise { source := src 8 (16 + c), dom := domChannel c, init := pipeInit p }

/-! Target instants and corrections (R213 to R218). -/

/-- Target instant T_n on the counter, in 2^-40 ns, rounded to the tick (R213). -/
def targetCtr (m : Tbl Val) (c : Nat) (n : Int) : Int :=
  let p := periodOf (chan m c 5)
  roundDivInt (n * (p.1 * 1000000000 * 2 ^ 40 : Nat) + signed 32 (chan m c 0xA) * (2 ^ 40 * p.2 : Nat)) (p.2 * tickUnit) * tickUnit

/-- The label of the first target instant at or after a counter value. -/
def firstLabel (m : Tbl Val) (c : Nat) (v : Int) : Int :=
  let p := periodOf (chan m c 5)
  let est := (v - signed 32 (chan m c 0xA) * (2 ^ 40 : Nat)) * (p.2 : Nat) / (p.1 * 1000000000 * 2 ^ 40 : Nat)
  if v ≤ targetCtr m c (est - 1) then est - 1
  else if v ≤ targetCtr m c est then est
  else if v ≤ targetCtr m c (est + 1) then est + 1 else est + 2

/-- A frame as corrections fix it: label, phase error, period, whether it is inserted, and the next frame's label and
counter value. -/
structure FramePlan where
  label : Int
  err : Int
  period : Nat
  inserted : Bool
  nextLabel : Int
  nextCtr : Int
  relabelled : Bool

/-- Corrections at a frame start at counter value `a` (R214 to R216): `pending` when an error is to be measured. -/
def planFrame (m : Tbl Val) (c : Nat) (a label err : Int) (pending rephase : Bool) (slew : Nat) : FramePlan :=
  let p : Int := period40 (chan m c 5)
  let e0 := if pending then a - targetCtr m c label else err
  let big := pending && decide (p < e0.natAbs)
  let lab := if big then label + roundDivInt e0 p.toNat else label
  let e := if big then a - targetCtr m c lab else e0
  if big && rephase && decide (e ≠ 0) then
    let n := firstLabel m c (a + p)
    { label := n - 1, err := e, period := p.toNat, inserted := true, nextLabel := n, nextCtr := targetCtr m c n, relabelled := true }
  else
    let lim := (slew : Int) * p / 1000000000
    let per := p - clampInt e (-lim) lim
    { label := lab, err := e, period := per.toNat, inserted := false, nextLabel := lab + 1,
      nextCtr := targetCtr m c (lab + 1) + (e + per - p), relabelled := big }

/-- A channel's frame start at instant `at_` taken up: its plan enters Chan and Table 8-10. -/
def State.takePlan (s : State) (c at_ : Nat) (x : FramePlan) : State :=
  let s := s.updChan c (fun y => { y with
    label := x.label, frameAt := at_, period := x.period, err := x.err, errPending := false, inserted := x.inserted,
    resumeAt := some (x.nextCtr - s.clk.off).toNat, resumeLabel := x.nextLabel, next := 1 })
  let s := (s.setN (0x7040 + c) 1 (unsigned 64 (roundDivInt x.err (2 ^ 24)))).setN (0x7040 + c) 2
    (if x.inserted then 2 else if x.err = 0 then 0 else 1)
  let s := if x.relabelled then (s.inc (0x7040 + c) 3).raise (timeEv 7 8) else s
  if x.inserted then s.inc (0x7040 + c) 4 else s

/-! Steps 1 to 3 of R31. -/

/-- Channels shed by level 4 (R338): their jobs end, their stripes become whole-picture stand-ins. -/
def State.shedChannel (s : State) (c : Nat) : State :=
  let s := s.updChan c (fun x => { x with shed := true, unshedAt := none, whole := some 6 })
  let s := (s.endJobs (fun b => decide (b.c = c))).updPipe (fun p => { p with
    stripes := p.stripes.map (fun x => if x.c = c ∧ x.dead = false then { x with whole := some 6 } else x) })
  s.giveUp (2 ^ c) 6

/-- Supply sag at a channel's boundary (R337, R338): a hearth left with shed channels alone is gated, and ungated when one is restored. -/
def State.sagBoundary (s : State) (c : Nat) : State :=
  let s := s.updChan c (fun x => { x with sagNow := s.pwr.sag })
  let want := decide (4 ≤ s.pwr.sag) && decide (s.pwr.prioNow.get 0 c < s.pwr.lineNow.get 0 c)
  let x := s.chanOf c
  if want && !x.shed then (s.shedChannel c).gateHearths
  else if !want && x.shed then (s.updChan c (fun y => { y with shed := false, unshedAt := some (s.mono + usCtr 20) })).gateHearths
  else s

/-- Steps 1 and 2 of R31 at a boundary of a channel: withies, hearths and pairs it uses, then sag. -/
def State.boundary (s : State) (c : Nat) (frame : Bool) : State :=
  let hs := s.hearthsOf c
  let pairs := (List.range 4).filter (fun i => hs.any (fun h => decide (h % 4 = i)))
  let s := eachIn hs (fun h s => s.hearthBoundary h) s
  let s := eachIn pairs (fun i s => s.pairBoundary i) s
  let s := if frame then (eachIn pairs (fun i s => s.pairFrame c i) s).twinFrame c else s
  (s.twinSag c).sagBoundary c

/-! Staged changes (R63, R64). -/

/-- Records of a BLOCK taken from another copy where `keep` says so. -/
def mergeRecs (w : Nat) (keep : Nat → Bool) (old new : List Byte) : List Byte :=
  (List.range (ceilDiv old.length w)).flatMap (fun i => recAt (if keep i then new else old) w i)

/-- Objects of a channel, its layers and some flows. -/
def chanKey (c : Nat) (flows : List Nat) (k : Nat) : Bool :=
  let i := keyIdx k
  [0x3000 + c, 0x3900 + c, 0x4000 + c, 0x4100 + c, 0x4200 + c, 0xC020 + c].contains i ||
  (decide (layerIdx c 0 ≤ i) && decide (i ≤ layerIdx c 15)) ||
  (decide (0x5000 ≤ i) && decide (i < 0x6000) && flows.contains (i - 0x5000))

/-- A channel's part of a new configuration put into the old one. -/
def mergeChan (old new : Tbl Val) (c : Nat) (flows : List Nat) : Tbl Val :=
  let ks := ((old.map Prod.fst ++ new.map Prod.fst).filter (chanKey c flows)).eraseDups
  let m := ks.foldl (fun m k => objPut m k (objGet new k)) old
  let put := fun (m : Tbl Val) (k w : Nat) => objPut m k (.b (mergeRecs w flows.contains (objGet m k).blk (objGet new k).blk))
  put (put m (key 0x4210 1) 4) (key 0x6100 1) 32

/-- A flow's state when it is armed or stops: only its stand-in counters stay. -/
def FlowSt.fresh (x : FlowSt) (armed : Option Nat) : FlowSt :=
  { armedAt := armed, standins := x.standins, refreshes := x.refreshes, lastStand := x.lastStand, lastReason := x.lastReason, shown := x.shown }

/-- A flow armed at its channel's frame start f (R63, R96, R413), its parameter sets fixed (R53). -/
def State.armFlow (s : State) (f n : Nat) : State :=
  let params := paramsOf s.comm n (s.segW n)
  ((s.updFlow n (fun x => { x.fresh (some f) with params := some params })).setFlowState n 1).armEntry n

/-- A flow that no longer sends: disabled (0) or armed for the next START (1). -/
def State.endFlow (s : State) (n v : Nat) : State :=
  let s := (s.updFlow n (fun x => x.fresh none)).setFlowState n v
  let s := s.updEnt n (fun x => { x with armed := false, queue := [] })
  let s := (s.endJobs (fun b => decide (b.flow = n))).updPipe (fun p => { p with
    done := p.done.filter (fun d => decide (d.flow ≠ n)),
    slices := p.slices.filter (fun x => decide (x.flow ≠ n)), refs := p.refs.filter (fun r => decide (r.flow ≠ n)),
    outs := p.outs.filter (fun o => decide (o.flow ≠ n)) })
  if v = 0 then s.updPipe (fun p => { p with placed := p.placed.filter (fun e => decide (e.1 ≠ n)) }) else s

/-- Whether a flow that stops still has stripes to send (R63). -/
def State.draining (s : State) (c n : Nat) : Bool :=
  match (s.flowSt n).lastFrame with
  | some l => s.pipe.stripes.any (fun x => decide (x.c = c) && decide (x.f ≤ l) && decide (s.mono < s.lastByteOf x))
  | none => false

/-- Staged changes of a channel that fall due (R63, R64); a flow that still sends keeps its objects until it has
stopped. -/
def State.applyStaged (s : State) (c f : Nat) (all : Bool) : State :=
  match (s.chanOf c).staged with
  | none => s
  | some new =>
    let was := flowsOf s.comm c
    let will := flowsOf new c
    let gone := was.filter (fun n => !(will.contains n))
    let drains := if all then [] else gone.filter (fun n => s.draining c n)
    let ended := gone.filter (fun n => !(drains.contains n))
    let s := (eachIn ended (fun n s => s.endFlow n 0) s).gateHearths
    let m := mergeChan s.comm new c ((was ++ will).eraseDups.filter (fun n => !(drains.contains n)))
    let s := ({ s with comm := m }.updChan c (fun x => { x with staged := if drains = [] then none else some new })).setN (0x4100 + c) 0xF (defHash m c)
    if all then s else
    let fresh := will.filter (fun n => !(was.contains n) || (s.flowSt n).lastFrame.isSome)
    let s := eachIn fresh (fun n s => s.armFlow f n) s
    eachIn will (fun n s => s.shaperDue n) s

/-! Live writes (R31 step 4, R131). -/

/-- Whether a written object waits for a boundary of a channel: every boundary (R98), or a frame start (R131). -/
def waitsFor (c k : Nat) (frame : Bool) : Bool :=
  let i := keyIdx k
  let sub := keySub k
  (decide (i = 0x4100 + c) && decide (sub = 4 ∨ sub = 5)) || (decide (i = 0x4200 + c) && decide (sub = 1)) ||
  (frame && ([0x3000 + c, 0x3800 + c, 0x3810 + c, 0x3900 + c].contains i || (decide (layerIdx c 0 ≤ i) && decide (i ≤ layerIdx c 15))))

/-- RUN of every region 0 (R145). -/
def State.resetRuns (s : State) (c : Nat) : State :=
  s.updComp c (fun x => { x with regions := x.regions.map (fun e => (e.1, { e.2 with run := 0, fired := false })) })

/-- Values that wait for a boundary at an instant taken, if they were written before it. -/
def State.applyWaits (s : State) (c boundary : Nat) (frame : Bool) : State :=
  let isDue := fun (e : Nat × Val × Nat) => waitsFor c e.1 frame && wroteBefore e.2.2 boundary
  let due := s.wait.filter isDue
  let s := { s with live := due.foldl (fun m e => objPut m e.1 e.2.1) s.live, wait := s.wait.filter (fun e => !isDue e) }
  if due.any (fun e => decide (e.1 = key (0x3900 + c) 2)) then s.resetRuns c else s

/-- COMP_RELEASE (R146), at a frame start if it was written before it; at once where none comes. -/
def State.applyRelease (s : State) (c : Nat) (boundary : Option Nat) : State :=
  let due := match (s.compOf c).release, boundary with
    | some m, some b => wroteBefore m b
    | some _, none => true
    | none, _ => false
  if due then
    s.updComp c (fun x => { x with
      action := 0, release := none,
      regions := x.regions.map (fun e => (e.1, { e.2 with run := 0, fired := false, due := false, inForce := false })) })
  else s

/-- Signature actions that are due run from this frame start (R145, R146): HOLD takes precedence. -/
def State.applySignature (s : State) (c : Nat) : State :=
  let due := ((s.compOf c).regions.filter (fun e => e.2.due)).map Prod.fst
  let act_ := fun r => (regionDef s.comm c r).action
  let s := s.updComp c (fun x => { x with
    action := if due.any (fun r => decide (act_ r = 2)) ∨ x.action = 3 then 3
      else if due.any (fun r => decide (act_ r = 1)) then 2 else x.action,
    regions := x.regions.map (fun e => (e.1, if e.2.due then { e.2 with due := false, inForce := decide (act_ e.1 ≠ 0) } else e.2)) })
  s.setN (0x3000 + c) 9 (match (s.compOf c).action with | 2 => 2 | 3 => 3 | _ => 1)

/-! Latching (R129, R130, R135, R165). -/

def State.layer (s : State) (c l : Nat) : Layer := (s.compOf c).layers.get {} l
def State.updLayer (s : State) (c l : Nat) (f : Layer → Layer) : State :=
  s.updComp c (fun x => { x with layers := x.layers.upd {} l f })

/-- Capture input of a layer source code, with LAYER_ITEM for a relay slot (Table 5-1). -/
def sourceInput (code item : Nat) : Option Nat :=
  if 0x10 ≤ code ∧ code < 0x22 then some (code - 0x10) else if code = 0x40 then some (18 + item) else none

/-- Source frame period in 2^-40 ns: configured, measured, or for a relayed picture the distance of its frame times. -/
def State.sourcePeriod (s : State) (i : Nat) : Nat :=
  if i < 16 then period40 (s.cm (0x2100 + i) 0xE)
  else if i < 18 then nsCtr (s.input i).periodNs
  else
    let ts := ((s.input i).ring.map SrcFrame.tsrc).mergeSort (fun a b => decide (b ≤ a))
    match ts with
    | a :: b :: _ => (a - b).toNat
    | _ => 0

/-- The newest source frame released by T(f) − 2 µs (R129, R154). -/
def State.newestFrame (s : State) (i at_ : Nat) : Option SrcFrame :=
  ((s.input i).ring.filter (fun f => f.released && decide (f.releaseAt + usCtr 2 ≤ at_))).foldl
    (fun (b : Option SrcFrame) f => match b with | some g => if g.id < f.id then some f else b | none => some f) none

/-- Frame of a library item at a frame start whose counter value is `t`, at the item's ITEM_RATE as it stands (R165). -/
def State.itemFrame (s : State) (n : Nat) (t : Int) : Option SrcFrame :=
  let x := s.item n
  match x.cur with
  | none => none
  | some c =>
    if !x.curDone then none else
    let ep := s.itemObj n 0xB
    let epoch : Int := if ep = 0 then (match x.firstLatch with | some v => (v : Int) | none => t) else timeCtr ep
    some { id := c.ver, pic := c.pic (clipIndex t epoch (s.itemObj n 9) c.frames (decide (s.itemObj n 0xA = 1))), tsrc := t, doneAt := 0,
           releaseAt := 0, released := true, poisoned := c.poisoned }

/-- The crop of a picture (R127): a size of 0 reaches to the source's edge. -/
def State.cropOf (s : State) (c l : Nat) (pic : Pic) : Rect :=
  let i := layerIdx c l
  let x := s.lv i 5
  let y := s.lv i 6
  let w := layerCfg s.comm c l 7
  let h := layerCfg s.comm c l 8
  ⟨x, y, if w = 0 then pic.w - x else w, if h = 0 then pic.h - y else h⟩

/-- The check of R135. -/
def State.oversizeNow (s : State) (c l : Nat) (pic : Pic) : Bool :=
  let r := s.cropOf c l pic
  let m := s.comm
  let w := layerCfg m c l 0xB
  let h := layerCfg m c l 0xC
  if layerCfg m c l 4 = 1 then decide (w < r.w) || decide (h < r.h)
  else (decide (layerCfg m c l 7 = 0) && decide (4 * w < r.w)) || (decide (layerCfg m c l 8 = 0) && decide (4 * h < r.h))

/-- LAYER_STATE (Table 5-8). -/
def State.layerState (s : State) (c l : Nat) : Nat :=
  let x := s.layer c l
  let fillHide := if s.lv (layerIdx c l) 0x14 = 1 then 4 else 3
  if layerCfg s.comm c l 1 = 0 then 0
  else if s.lv (layerIdx c l) 0xD = 0 then 6
  else if layerCfg s.comm c l 2 = 1 then 1
  else if x.acting then fillHide
  else if x.oversize then 5
  else if x.notReady = 0 then 1 else 2

/-- A layer at a frame start at instant `at_` and counter value `t`. -/
def State.latchLayer (s : State) (c l at_ : Nat) (t : Int) : State :=
  let m := s.comm
  let i := layerIdx c l
  let code := layerCfg m c l 2
  let item := layerCfg m c l 3
  if layerCfg m c l 1 = 0 then (s.updLayer c l (fun _ => {})).setN i 0x16 0
  else if code = 1 then (s.updLayer c l (fun _ => {})).setN i 0x16 (s.layerState c l)
  else
    let old := s.layer c l
    let from_ := match sourceInput code item with | some k => k | none => 32 + item
    let old : Layer := if old.from_ = from_ then old else { from_ := from_ }
    let new := match sourceInput code item with
      | some k => s.newestFrame k at_
      | none => s.itemFrame item t
    let newer := match new, old.latched with
      | some a, some b => decide (a.id ≠ b.id) || decide (32 ≤ from_)
      | some _, none => true
      | none, _ => false
    let waits := match sourceInput code item, old.latched with
      | some k, some b => decide (at_ * 4 < b.doneAt * 4 + 5 * s.sourcePeriod k)
      | _, _ => false
    let nr := if newer || waits then 0 else old.notReady + 1
    let x : Layer := { old with
      latched := if newer then new else old.latched, notReady := nr,
      acting := decide (nr ≠ 0) && (old.acting || old.latched.isNone),
      raised := old.raised && decide (nr ≠ 0) }
    let big := match x.latched with | some f => s.oversizeNow c l f.pic | none => false
    let s := s.updLayer c l (fun _ => { x with oversize := big })
    let s := if nr ≠ 0 ∧ x.latched.isSome then s.inc i 0x17 else s
    let s := if 32 ≤ from_ ∧ newer ∧ (s.item item).firstLatch = none then s.updItem item (fun y => { y with firstLatch := some t.toNat }) else s
    let s := match x.latched with
      | some f => s.setN i 0x19 (f.pic.w * 65536 + f.pic.h)
      | none => s
    let s := if big then s.compEvent c else s
    s.setN i 0x16 (s.layerState c l)

/-! What a channel draws. -/

def State.canvasColour (s : State) (c : Nat) : CanvasColour :=
  let m := s.comm
  { colour := cfg m (0x3000 + c) 2, range := cfg m (0x3000 + c) 3, peak := cfg m (0x3000 + c) 4, white := cfg m (0x3000 + c) 0x12,
    user := cfg m (0x3000 + c) 6, postMat := s.lvb (0x3810 + c) 0x21, postTab := s.lvb (0x3800 + c) 0x11, outMat := s.lvb (0x3810 + c) 0x22,
    bg := s.lv (0x3000 + c) 5 }

/-- A layer that shows a picture in its output rectangle. -/
def State.drawPic (s : State) (c l : Nat) (f : SrcFrame) (crop : Rect) (native bypass : Bool) (alpha : Nat) : Draw :=
  let m := s.comm
  let i := layerIdx c l
  let bank := s.lv i 0x10
  let bankOf := fun b => (s.compOf c).coef.get [] b
  { x := signed 16 (s.lv i 9), y := signed 16 (s.lv i 0xA), w := if native then crop.w else layerCfg m c l 0xB,
    h := if native then crop.h else layerCfg m c l 0xC, alpha := alpha, fill := none, pic := some f.pic, crop := crop, bypass := bypass,
    srcAlpha := decide (layerCfg m c l 0xF = 1), bankH := bankOf (bank % 4), bankV := bankOf (bank / 4 % 4),
    user := layerCfg m c l 0x12, inMat := s.lvb (0x3810 + c) (1 + l), preLut := s.lvb (0x3800 + c) (1 + l),
    gamut := s.lvb (0x3810 + c) (0x11 + l), colour := layerCfg m c l 0x11, src := ((s.layer c l).from_, f.id), poisoned := f.poisoned }

/-- What a layer contributes to a frame (R125 to R130, R135). -/
def State.layerDraw (s : State) (c l : Nat) : Option Draw :=
  let m := s.comm
  let i := layerIdx c l
  let x := s.layer c l
  let native := decide (layerCfg m c l 4 = 1)
  let alpha := s.lv i 0xE
  let fill := fun (w h : Nat) => some ({ x := signed 16 (s.lv i 9), y := signed 16 (s.lv i 0xA), w := w, h := h, alpha := alpha, fill := some (s.lv i 0x15) } : Draw)
  let w := layerCfg m c l 0xB
  let h := layerCfg m c l 0xC
  if layerCfg m c l 1 = 0 ∨ s.lv i 0xD = 0 then none
  else if layerCfg m c l 2 = 1 then fill w h
  else if x.acting then
    if s.lv i 0x14 = 1 then none
    else match x.latched with
      | some f => if native then fill (min w (s.cropOf c l f.pic).w) (min h (s.cropOf c l f.pic).h) else fill w h
      | none => fill w h
  else if x.oversize then fill w h
  else match x.latched with
    | none => none
    | some f =>
      let bypass := !native && decide (layerCfg m c l 7 ≠ 0) && decide (layerCfg m c l 7 = w) && decide (layerCfg m c l 8 ≠ 0) && decide (layerCfg m c l 8 = h)
      some (s.drawPic c l f (s.cropOf c l f.pic) native bypass alpha)

/-- Layer 0 under SAFETY (Table 5-6): the still as its whole crop. -/
def State.safetyDraw (s : State) (c : Nat) : List Draw :=
  match s.itemFrame (cfg s.comm (0x3000 + c) 7) s.ctrNow with
  | some f => [{ s.drawPic c 0 f ⟨0, 0, f.pic.w, f.pic.h⟩ (decide (layerCfg s.comm c 0 4 = 1)) false 1024 with
      src := (32 + cfg s.comm (0x3000 + c) 7, f.id) }]
  | none => []

/-- What a frame draws, as of its frame start. -/
def State.lookNow (s : State) (c : Nat) : List Draw × CanvasColour :=
  (if (s.compOf c).action = 2 then s.safetyDraw c else (List.range 16).filterMap (fun l => s.layerDraw c l), s.canvasColour c)

/-! Complexity (R70). -/

/-- Walsh–Hadamard transform of 2^n values. -/
def hadamard : Nat → List Int → List Int
  | 0, xs => xs
  | n + 1, xs =>
    let a := xs.take (2 ^ n)
    let b := xs.drop (2 ^ n)
    hadamard n (List.zipWith (· + ·) a b) ++ hadamard n (List.zipWith (· - ·) a b)

/-- Sum of the absolute coefficients of an 8 × 8 block of differences. -/
def satd (xs : List Int) : Nat := sumList ((hadamard 6 xs).map Int.natAbs)

/-- SATD of a block against its mean: every coefficient but the first. -/
def satdMean (xs : List Int) : Nat := sumList (((hadamard 6 xs).drop 1).map Int.natAbs)

/-- Luma of an 8 × 8 block whose corner is (x, y), positions beyond the group's last column and line repeating it. -/
def lumaBlock (lines : Nat → Option CLine) (x0 x y xEnd yEnd : Nat) : List Int :=
  (List.range 8).flatMap (fun i => (List.range 8).map (fun j =>
    ((match lines (min (y + i) (yEnd - 1)) with
      | some l => l.y.getD (min (x + j) (xEnd - 1) - x0) 0
      | none => 0 : Nat) : Int)))

/-- Sum of the smaller costs of the blocks of flow stripe j in columns [xa, xb): `lines` of its frame, `prev` of the previous composed
frame; none while a line of the stripe has not been composed. -/
def complexityOf (m : Tbl Val) (n j x0 xa xb : Nat) (lines prev : Nat → Option CLine) : Option Nat :=
  let gx := flow m n 5
  let gy := flow m n 6 + j * gS m n
  let xEnd := gx + flow m n 7
  let yEnd := gy + ctuH m n j
  if !((List.range (ctuH m n j)).all (fun i => (lines (gy + i)).isSome)) then none else
  some (sumList ((List.range (ceilDiv (ctuH m n j) 8)).flatMap (fun r => (List.range (ceilDiv (xb - xa) 8)).map (fun q =>
    let x := xa + 8 * q
    let y := gy + 8 * r
    let b := lumaBlock lines x0 x y xEnd yEnd
    let first := satdMean b
    if (List.range 8).all (fun i => (prev (min (y + i) (yEnd - 1))).isSome) then
      min first (satd (List.zipWith (· - ·) b (lumaBlock prev x0 x y xEnd yEnd)))
    else first))))

/-- The frame set of a frame number, and the lines of the frame composed before it. -/
def Comp.setOf (x : Comp) (f : Nat) : Option (FrameSet × Tbl (Option CLine)) :=
  match x.frames.dropWhile (fun g => decide (g.f ≠ f)) with
  | [] => none
  | g :: rest => some (g, (rest.head?.map FrameSet.lines).getD [])

def Comp.updSet (x : Comp) (f : Nat) (g : FrameSet → FrameSet) : Comp :=
  { x with frames := x.frames.map (fun y => if y.f = f then g y else y) }

/-- First-pass complexity taken from the same stripe of the previous picture (R147). -/
def State.keepComplexity (s : State) (f n j : Nat) : State :=
  s.updFlow n (fun y => { y with
    comp := y.comp.put 0 (128 * f + j) (y.complexity (f - 1) j),
    segComp := y.segComp.put [] (128 * f + j) (y.segments (f - 1) j (s.segsOf n)) })

/-- Complexities of the flow stripes that belong to canvas stripe k of frame f, and of their row segments (R69, R70, R147). -/
def State.deliverComplexity (s : State) (c f k : Nat) : State :=
  match (s.compOf c).setOf f with
  | none => s
  | some (fs, prev) =>
    let m := s.comm
    let x0 := (window m c).x
    eachIn (s.partsOf c k) (fun p s =>
      let gx := flow m p.1 5
      let cost := fun (g : Nat) =>
        let cols := segCols m p.1 (s.segW p.1) g
        let xa := gx + cols.headD 0 * gS m p.1
        complexityOf m p.1 p.2 x0 xa (xa + sumList (cols.map (ctuW m p.1))) (fun y => fs.lines.get none y) (fun y => prev.get none y)
      let costs := (List.range (s.segsOf p.1)).map cost
      if costs.any Option.isNone then s.keepComplexity f p.1 p.2
      else
        let vs := costs.map (·.getD 0)
        s.updFlow p.1 (fun y => { y with
          comp := y.comp.put 0 (128 * f + p.2) (min 0xFFFFFFFF (sumList vs)), segComp := y.segComp.put [] (128 * f + p.2) vs })) s

/-! Signature regions (R144 to R146). -/

/-- HOLD's frame (R146): the newest composed frame in which every HOLD region has been compared and matched. Lines of it that were never
composed stay the background (assumption 104). -/
def State.adoptHeld (s : State) (c : Nat) : State :=
  let need := (regionsOn s.comm c).filter (fun r => decide ((regionDef s.comm c r).action = 2))
  match (s.compOf c).frames.find? (fun g => !g.held && need.all (fun r => g.holds.contains (r, true))) with
  | some g => if need = [] then s else s.updComp c (fun x => { x with heldFrame := g.lines })
  | none => s

/-- One region of frame f compared once its last stripe has been composed. -/
def State.compareRegion (s : State) (c f r : Nat) (fs : FrameSet) : State :=
  let d := regionDef s.comm c r
  let x0 := (window s.comm c).x
  let blank : CLine := { y := [], cb := [], cr := [] }
  let rows := (List.range d.h).map (fun i => fs.lines.get none (d.y + i))
  let bad := rows.any (fun o => match o with | some l => l.poisonIn d.x d.w | none => true)
  let crc := crc32c (regionBytes d x0 (fun y => (fs.lines.get none y).getD blank))
  let ok := !bad && decide (crc = fieldAt (s.lvb (0x3900 + c) 2) (4 * r + 3) (4 * r))
  let s := s.updComp c (fun x => { x with regions := x.regions.upd {} r (fun y => { y with
    lastFrame := f % 2 ^ 32, crc := crc, matched := ok, run := if ok then 0 else min 255 (y.run + 1),
    mismatches := if ok then y.mismatches else satAdd 32 y.mismatches 1, fired := y.fired && !ok }) })
  if d.action = 2 then s.updComp c (fun x => x.updSet f (fun g => { g with holds := g.holds ++ [(r, ok)] })) else s

/-- The regions whose last line lies in stripe k. -/
def State.compareRegions (s : State) (c f k : Nat) : State :=
  match (s.compOf c).setOf f with
  | none => s
  | some (fs, _) =>
    let mine := (regionsOn s.comm c).filter (fun r => let d := regionDef s.comm c r; decide ((d.y + d.h - 1) / ctu s.comm c = k))
    (eachIn mine (fun r s => s.compareRegion c f r fs) s).adoptHeld c

/-- The lines of a stripe inside the window, composed or repeated by HOLD (R145). -/
def State.composeStripe (s : State) (c f k : Nat) : State :=
  let m := s.comm
  let x := s.compOf c
  match x.setOf f with
  | none => s
  | some (fs, _) =>
    let win := window m c
    let b := stripeLines m c k
    let f420 := decide (chan m c 6 = 0)
    let ys := (List.range (b.2 - b.1)).map (· + b.1) |>.filter (fun y => decide (win.y ≤ y) && decide (y < win.y + win.h))
    let line := fun y =>
      if fs.held then
        match x.heldFrame.get none y with
        | some l => l
        | none => composeLine [] fs.look.2 win f420 y
      else composeLine fs.look.1 fs.look.2 win f420 y
    s.updComp c (fun z => z.updSet f (fun g => { g with lines := ys.foldl (fun t y => t.put none y (some (line y))) g.lines }))

/-! Observation (R116). -/

/-- Fresh accumulators of a window that starts now; OBS_CLEAR takes effect (Table 4-4). -/
def State.startWindow (s : State) (c : Option Nat) : State :=
  let s := if s.pipe.obsClear then
      eachBelow 16 (fun i s => s.setN (0xC020 + i) 5 0) (eachBelow 8 (fun h s =>
        ((s.setN (0xC010 + h) 8 0).setN (0xC010 + h) 9 0).setN (0xC010 + h) 0xA 0) s)
    else s
  let s := s.updPipe (fun p => { p with
    obsChan := c, obsFrames := 0, obsAt := s.now, obsLen := s.lv 0xC000 2, obsClear := false, chSlack := [], chSlackMin := [],
    withies := p.withies.map (fun (e : Nat × Withy) => (e.1, { e.2 with busy := 0 })) })
  eachBelow 8 (fun h s => s.updHearth h (fun x => { x with readyMax := 0, waits := [], slackMin := none, avail := 0, availAt := s.now })) s

/-- A frame start counted: the window of the lowest-numbered running channel. -/
def State.countFrame (s : State) (c : Nat) : State :=
  if s.runningChans.head? ≠ some c then s
  else if s.pipe.obsChan = some c then s.updPipe (fun p => { p with obsFrames := p.obsFrames + 1 })
  else s.startWindow (some c)

/-- A histogram of 16 bins as U32. -/
def histBytes (m : Tbl Nat) : List Byte := (List.range 16).flatMap (fun i => leBytes 4 (m.get 0 i % 2 ^ 32))

/-- WITHY_TABLE (Table 4-7). -/
def State.withyTable (s : State) : List Byte :=
  (List.range 288).flatMap (fun w =>
    let x := s.withySt w
    leBytes 1 (s.wState w) ++ leBytes 1 0 ++ leBytes 2 (withyInit w) ++ leBytes 4 0 ++ leBytes 2 x.busyShown ++ leBytes 2 x.faults ++
      leBytes 4 (x.jobs % 2 ^ 32))

/-- A completed window copied into the RO objects, unless frozen (R116, Tables 4-4 to 4-7). -/
def State.showWindow (s : State) : State :=
  if s.lv 0xC000 1 = 0 then s else
  let len := max 1 (s.now - s.pipe.obsAt)
  let s := eachIn s.pipe.jobs (fun b s => s.creditBusy b) (eachBelow 8 (fun h s => s.accrue h) s)
  let s := s.updPipe (fun p => { p with withies := p.withies.map (fun (e : Nat × Withy) =>
    (e.1, { e.2 with busyShown := min 1024 (e.2.busy * 1024 / len) })) })
  let minOf := fun (o : Option Nat) => match o with | some v => v | none => 0x7FFFFFFF
  let s := eachBelow 8 (fun h s =>
    let x := s.hearthSt h
    let busy := sumList ((hearthWithies h).map (fun w => (s.withySt w).busy))
    let load := min 1024 (busy * 1024 / max 1 x.avail)
    (((s.setN (0xC010 + h) 4 load).setN (0xC010 + h) 5 x.readyMax).setB (0xC010 + h) 6 (histBytes x.waits)).setN (0xC010 + h) 7 (minOf x.slackMin)) s
  let s := eachBelow 16 (fun c s =>
    (s.setN (0xC020 + c) 2 (minOf (s.pipe.chSlackMin.get none c))).setB (0xC020 + c) 3 (histBytes (s.pipe.chSlack.get [] c))) s
  s.setB 0xC040 1 s.withyTable

/-! Stand-in counters (R99), starting and stopping (R413, R414). -/

/-- All stand-in counters to zero at one instant. -/
def State.clearStandIns (s : State) : State :=
  s.updPipe (fun p => { p with
    standinsClear := false,
    flows := p.flows.map (fun (e : Nat × FlowSt) => (e.1, { e.2 with standins := 0, refreshes := 0, lastStand := 0, lastReason := 0, shown := (0, 0, 0, 0) })) })

/-- A channel set to start at its first target instant at least `wait` from now (R63, R413). -/
def State.startChannel (s : State) (c wait : Nat) : State :=
  let v : Int := (s.ctrNow + wait : Nat)
  let n := firstLabel s.comm c v
  (s.updChan c (fun _ => { startAt := some (n, (targetCtr s.comm c n - s.clk.off).toNat) })).setN (0x4000 + c) 0x15 1

/-- START taking effect (R413): every enabled channel, and audio entries 1 ms on. -/
def State.startAll (s : State) : State :=
  let s := { s with sys := { s.sys with startFrom := some (some s.now), modeReq := .lit } }
  let s := eachIn (chanOn s.comm) (fun c s => s.startChannel c (usCtr 1000)) s
  eachBelow 32 (fun a s => if entryOn s.comm (4096 + a) then s.armAudio a (s.mono + usCtr 1000) else s) s

/-- Audio entries stop with the last channel (R414). -/
def State.stopAudio (s : State) : State :=
  let s := s.updAudio (fun x => { x with next := [] })
  eachBelow 32 (fun a s => (s.updEnt (4096 + a) (fun x => { x with armed := false, queue := [] })).setN (0x7120 + a) 8 0) s

/-- COMMIT_STATUS once the last change of a commit has fallen due, or the last channel has stopped (R411, R417). -/
def State.settleCommit (s : State) : State :=
  if s.lv 0x1F00 2 = 4 && !((List.range 16).any (fun c => (s.chanOf c).changeDue)) && (!s.sys.stopping || decide (s.runningChans = []))
  then s.setN 0x1F00 2 2 else s

/-- A channel that has stopped: flows armed for the next START or disabled, nothing of it in flight (R414); a window of observation that
ran on it is discarded (R116), and what waited for its boundaries is made (R439). -/
def State.dropChannel (s : State) (c : Nat) : State :=
  let s := s.applyStaged c 0 true
  let on := (chanOn s.comm).contains c
  let s := eachIn (flowsOf s.comm c) (fun n s => s.endFlow n (if on then 1 else 0)) s
  let s := (s.endJobs (fun b => decide (b.c = c))).updPipe (fun p => { p with
    stripes := p.stripes.filter (fun x => decide (x.c ≠ c)), chans := p.chans.put {} c {},
    obsChan := if p.obsChan = some c then none else p.obsChan })
  let s := { s with comp := s.comp.put {} c {} }
  let s := { s with outp := { s.outp with ports := s.outp.ports.map (fun (e : Nat × Port) =>
    (e.1, { e.2 with tails := e.2.tails.filter (fun t => decide (t.2.c ≠ c)) })) } }
  let s := eachBelow 16 (fun l s => s.setN (layerIdx c l) 0x16 0) s
  let s := (s.setN (0x4000 + c) 0x15 (if on then 1 else 0)).setN (0x3000 + c) 9 0
  s.freeOld.settleIdle.settleCommit

/-- The module once every channel has stopped (R349, R414, R415): LAID, or BANKED next. -/
def State.allStopped (s : State) : State :=
  let s := s.stopAudio
  let again := s.sys.holdStop && decide (s.lv 0x1F00 7 = 1)
  let s := { s with sys := { s.sys with stopping := false, holdStop := false } }.settleCommit
  if s.sys.banking then s
  else if s.sys.mode = .lit then
    let s := s.setMode .laid
    if !again then s
    else if s.sys.holdN then { s with sys := { s.sys with startFrom := some none, modeReq := .lit } }
    else s.startAll
  else if s.sys.mode = .damped then { s with sys := { s.sys with dampedFrom := .laid } }
  else s

/-- Every channel to stop after its frame (R349, R414); a START not yet taken up is cancelled. -/
def State.stopChannels (s : State) : State :=
  let s := s.giveUp 0xFFFF 6
  let s := { s with sys := { s.sys with stopping := true, startFrom := none } }
  let s := eachBelow 16 (fun c s =>
    if s.chRunning c then s.updChan c (fun x => { x with stopping := true })
    else if (s.chanOf c).startAt.isSome then s.dropChannel c
    else s) s
  if s.runningChans = [] then s.allStopped else s

end Sys2Proof.Machine
end

