-- ==== Sys2Proof/Machine/Frames.lean ====
section
/-!
DEFINITION. Frame and stripe boundaries, composition, signature actions, stops and observation windows: their commands
(R31, R36, R63, R116, R123, R129 to R131, R145 to R147, R213 to R216, R413, R414).
-/
namespace Sys2Proof.Machine

/-- Whether a channel's frame start has come: its instant, label and phase error, and whether it is the channel's
first. -/
def State.frameDue (s : State) (c : Nat) : Option (Nat × Int × Int × Bool) :=
  let x := s.chanOf c
  match x.startAt with
  | some (n, m) => if s.due m then some (m, n, 0, true) else none
  | none =>
    match x.resumeAt with
    | some m =>
      let e : Int := if x.inserted then 0 else x.err + x.period - (period40 (chan s.comm c 5) : Nat)
      if s.chRunning c && !x.stopping && s.due m then some (m, x.resumeLabel, e, false) else none
    | none => none

/-- A channel starts running at f0 (R413): the first of the module makes it LIT. -/
def State.beginChannel (s : State) (c : Nat) : State :=
  let x := s.chanOf c
  let s := if s.sys.mode = .laid then
      let s := (s.setMode .lit).updPipe (fun p => { p with withies := p.withies.map (fun (e : Nat × Withy) => (e.1, { e.2 with jobs := 0 })) })
      { s with sys := { s.sys with startFrom := none } }
    else if s.sys.mode = .damped then { s with sys := { s.sys with dampedFrom := .lit, startFrom := none } }
    else s
  let s := s.updChan c (fun _ => { errPending := x.errPending, staged := x.staged, changeDue := x.changeDue })
  let s := { s with comp := s.comp.put {} c {} }
  let s := ((s.setN (0x4000 + c) 0x15 2).setN (0x4000 + c) 0x16 1).setN (0x4200 + c) 7 0
  eachIn (flowsOf s.comm c) (fun n s => s.armFlow 1 n) s

/-- A stripe starts: it enters the pipeline with its frame's timestamp and period, and the council's tree in force (R78). -/
def State.addStripe (s : State) (c f k : Nat) : State :=
  let x := s.chanOf c
  let y : Stripe := {
    c := c, f := f, k := k, rtp := rtpOf s.comm c x.label, at_ := s.stripeAt c k, per := x.period, inserted := x.inserted, whole := x.whole,
    root := s.rootNow c, treeH := s.councilH c, treeD := s.councilD c, kids := s.childrenOf c }
  s.updPipe (fun p => { p with stripes := p.stripes ++ [y] })

/-- What no stripe still in flight can ask for is let go. -/
def State.pruneFrames (s : State) (c f : Nat) : State :=
  let old := f - (66 / max 1 (nStripes s.comm c) + 3)
  let mine := fun n => decide (flow s.comm n 2 = c)
  (s.updPipe (fun p => { p with
    stripes := p.stripes.filter (fun x => !(decide (x.c = c) && decide (x.f < old))),
    done := p.done.filter (fun d => !(mine d.flow && decide (d.f < old))),
    slices := p.slices.filter (fun x => !(decide (x.c = c) && decide (x.f < old))),
    outs := p.outs.filter (fun o => !(decide (o.c = c) && decide (o.f < old))),
    refs := p.refs.filter (fun r => !mine r.flow || decide (old ≤ r.f) ||
      !(p.refs.any (fun q => decide (q.h = r.h) && decide (q.flow = r.flow) && decide (q.j = r.j) && decide (r.f < q.f) && decide (q.f < old)))),
    flows := p.flows.map (fun (e : Nat × FlowSt) => if mine e.1 then (e.1, { e.2 with
      pics := e.2.pics.filter (fun q => decide (old ≤ q.1)), comp := e.2.comp.filter (fun q => decide (128 * old ≤ q.1)),
      segComp := e.2.segComp.filter (fun q => decide (128 * old ≤ q.1)), rates := e.2.rates.filter (fun r => decide (old ≤ r.f)),
      past := e.2.past.filter (fun q => decide (old ≤ q.2) || decide (some q = e.2.past.head?)),
      spans := e.2.spans.filter (fun q => decide (old ≤ q.last)) }) else e) })).updCouncil c
    (fun x => { x with rounds := x.rounds.filter (fun r => decide (old ≤ r.f)) }) |>.updComp c (fun x => { x with
      frames := x.frames.take 2 ++ (x.frames.drop 2).filter (fun g => decide (old ≤ g.f)) })

/-- Latching and the frame to compose, when the channel composes (R129, R146); DAMPED lets the latched frames go, so that
every layer latches afresh after it (R321). -/
def State.latchFrame (s : State) (c f : Nat) : State :=
  let x := s.chanOf c
  if s.sys.mode = .damped then s.updComp c (fun y => { y with layers := [] })
  else if x.inserted || !s.codes c then s
  else
    let t := targetCtr s.comm c x.label
    let s := s.applySignature c
    let s := s.updComp c (fun y => { y with
      coef := (List.range 4).foldl (fun m i => m.put [] i (s.lvb 0x3820 (1 + i))) y.coef })
    let s := eachBelow 16 (fun l s => s.latchLayer c l x.frameAt t) s
    let look := s.lookNow c
    let uses := (s.compOf c).layers.filterMap (fun (e : Nat × Layer) => e.2.latched.map (fun g => (e.2.from_, g.id)))
    (s.updComp c (fun y => { y with
      frames := { f := f, look := look, uses := uses ++ (look.1.filter (fun d => d.pic.isSome)).map Draw.src, held := decide (y.action = 3) } :: y.frames })).freeOld

/-- FRAME_OUT (R220). -/
def State.frameOut (s : State) (c : Nat) : State :=
  if s.cm 0x7030 3 = c then
    { s.emit (.edge 1 true) with servo := { s.servo with frameHigh := some (s.now + tuUs 1) } }
  else s

/-- FLOW_STATE of merged flows (R57, R58) at a frame start. -/
def State.mergedFrame (s : State) (c f : Nat) : State :=
  eachIn ((flowsOf s.comm c).filter (fun n => decide (flow s.comm n 3 ≠ 0))) (fun n s =>
    if (s.flowSt n).sends f && decide ((s.flowSt n).armedAt ≠ some f) && s.codes c then s.setFlowState n 3 else s) s

/-- A frame of a channel taken up (R27, R213 to R216): its number, the correction, and what it latches of supply and priority. Stove
B's counter is reloaded at the first frame start of a channel if no LIT canvas stands at a frame boundary of its own then (assumption
107). -/
def State.openPlan (s : State) (c : Nat) (at_ : Nat) (label err : Int) (first : Bool) : State :=
  let alone := first && !(s.runningChans.any (fun d => match s.frameDue d with | some _ => decide (d ≠ c) | none => false))
  let s := if first then s.beginChannel c else s.inc (0x4000 + c) 0x16
  let x := s.chanOf c
  let s := s.takePlan c at_ (planFrame (x.staged.getD s.comm) c (at_ + s.clk.off) label err x.errPending (decide (s.lv 0x7020 1 = 1)) (s.lv 0x7020 2))
  let s := { s with
    clk := if s.clk.reloadB && alone then { s.clk with reloadB := false, diffB := 0 } else s.clk,
    pwr := { s.pwr with prioNow := s.pwr.prioNow.put 0 c ((s.lvb 0xA030 1).getD c 0).toNat,
                        lineNow := s.pwr.lineNow.put 0 c (s.lv 0xA000 4) } }
  s.updChan c (fun y => { y with unshedAt := match y.unshedAt with
    | some m => if m ≤ at_ then none else some m
    | none => none })

/-- The order of R31 at a frame start, staged changes between its steps 3 and 4 (R64, R85, R131). -/
def State.frameSteps (s : State) (c at_ : Nat) : State :=
  let f := s.frameNo c
  let s := s.boundary c true
  let rest := s.draughts c
  let s := if s.sys.mode = .damped then s else ((s.applyStaged c f false).updChan c (fun y => { y with changeDue := false })).settleCommit
  let s := s.updChan c (fun y => { y with whole := if s.codes c then none else some ((s.wholeReason c).getD 6) })
  let s := ((s.applyActions c at_ (s.chanOf c).label).applyWaits c at_ true).applyRelease c (some at_)
  s.applyDraught c rest

/-- What a frame does after them: its council, its flows, latching, observation, its first stripe. -/
def State.frameFlows (s : State) (c : Nat) : State :=
  let f := s.frameNo c
  let s := s.councilFrame c
  let s := eachIn (groupsOf s.comm c) (fun n s => s.flowFrame c f n) s
  let s := ((s.mergedFrame c f).latchFrame c f).countFrame c
  let s := if s.pipe.standinsClear ∧ s.runningChans.head? = some c then s.clearStandIns else s
  ((s.frameOut c).addStripe c f 0).pruneFrames c f

/-- FRAME_START (R27, R36, R64, R129, R131, R213 to R216, R413, R415): the correction first, then the order of R31, then latching and
stripe 0; while HOLD_N is asserted the first one of the module stops its channels again (R415). -/
def execFrameStart (t : Nat) (c : Fin 16) (s : State) : Host.Outcome State Fault Refusal :=
  act t (fun s =>
    match s.frameDue c with
    | none => s
    | some (at_, label, err, first) =>
      if !s.running then s else
      let was := s.sys.mode
      let s := ((s.openPlan c at_ label err first).frameSteps c at_).frameFlows c
      if s.sys.mode = .lit ∧ was = .laid ∧ s.sys.holdN then { s with sys := { s.sys with holdStop := true, modeReq := .laid } }.stopChannels else s) s

/-- STRIPE_START (R31, R36, R337) of stripes after the first: the order of R31, then the stripe. -/
def execStripeStart (t : Nat) (c : Fin 16) (s : State) : Host.Outcome State Fault Refusal :=
  act t (fun s =>
    let c := c.val
    let x := s.chanOf c
    let n := nStripes s.comm c
    if s.running && s.chRunning c && decide (0 < x.next) && decide (x.next < n) && s.due (s.stripeAt c x.next) then
      let s := s.boundary c false
      let rest := s.draughts c
      let s := (s.applyWaits c (s.stripeAt c x.next) false).applyDraught c rest
      let gone := (flowsOf s.comm c).filter (fun n => (s.flowSt n).lastFrame.isSome && !s.draining c n)
      let s := eachIn gone (fun n s => s.endFlow n 0) s
      (s.updChan c (fun y => { y with next := x.next + 1 })).addStripe c (s.frameNo c) x.next
    else s) s

/-- COMPOSITION_COMPLETE (R123, R70, R144, R145): `late` are the pipes whose bands completed after their deadline, the start of stripe
k + 1 taken at its nearest 2.5 ns tick (assumption 108). -/
def execCompositionComplete (t : Nat) (c : Fin 16) (f k : Nat) (late : List (Fin 8)) (s : State) : Host.Outcome State Fault Refusal :=
  act t (fun s =>
    let c := c.val
    match s.stripe c f k with
    | none => s
    | some x =>
      if x.composed || x.abandoned || x.inserted || x.whole.isSome || !s.codes c then s else
      let past := decide (s.stripeAfter x 1 + tickUnit / 2 < s.mono)
      let pipes := (pipesOfMask (s.lv (0x3000 + c) 0xA)).filter (fun p => late.any (fun q => decide (q.val = p)))
      let s := if past then s.inc (0x3000 + c) 0x11 else s
      let s := if past then eachIn pipes (fun p s =>
          (s.inc (0x3830 + p) 4).raise { source := src 8 p, dom := domChannel c, init := pipeInit p, access := 9 }) s
        else s
      let s := (s.composeStripe c f k).updStripe c f k (fun y => { y with composed := true })
      let s := (s.deliverComplexity c f k).compareRegions c f k
      (s.updChan c (fun y => { y with composed := y.composed + (if k = 0 then 1 else 0) })).freeOld) s

/-- SIGNATURE_ACTION_TRIGGER (R145): RUN has reached K. -/
def execSignatureActionTrigger (t : Nat) (c : Fin 16) (region : Fin 64) (s : State) : Host.Outcome State Fault Refusal :=
  act t (fun s =>
    let d := regionDef s.comm c region
    let y := (s.compOf c).regions.get {} region
    if s.chRunning c && d.on && decide (d.k ≤ y.run) && decide (0 < y.run) && !y.fired then
      (s.updComp c (fun x => { x with regions := x.regions.upd {} region (fun z => { z with fired := true, due := true }) })).compEvent c
    else s) s

/-- LAYER_NR_ACTION (R130): more than REPEAT_MAX frames in a row not ready. -/
def execLayerNrAction (t : Nat) (c : Fin 16) (layer : Fin 16) (s : State) : Host.Outcome State Fault Refusal :=
  act t (fun s =>
    let x := s.layer c layer
    if s.chRunning c && decide (layerCfg s.comm c layer 1 = 1) && decide (s.lv (layerIdx c layer) 0x13 < x.notReady) && !x.raised then
      let s := (s.updLayer c layer (fun y => { y with acting := true, raised := true })).compEvent c
      s.setN (layerIdx c layer) 0x16 (s.layerState c layer)
    else s) s

/-- A checker event in a pipe (R147): the stripes that the pipe is composing are abandoned; its one event carries the domain of the first
of their channels (assumption 86). -/
def State.pipeChecker (s : State) (p : Nat) : State :=
  let cs := s.runningChans.filter (fun c => (pipesOfMask (s.lv (0x3000 + c) 0xA)).contains p)
  let ev := fun c => ({ source := src 8 (8 + p), dom := domChannel c, init := pipeInit p } : Ev)
  let hit := s.pipe.stripes.filter (fun x => cs.contains x.c && !x.composed && !x.abandoned && !x.inserted && x.whole.isNone && !x.dead)
  let s := eachIn hit (fun x s =>
    let s := s.updStripe x.c x.f x.k (fun y => { y with abandoned := true })
    eachIn (s.partsOf x.c x.k) (fun q s => s.keepComplexity x.f q.1 q.2) s) s
  s.freeOld.raise (ev (((hit.map Stripe.c) ++ cs).headD 0))

/-- PIPE_CHECKER_FAULT (R147). -/
def execPipeCheckerFault (t : Nat) (p : Fin 8) (s : State) : Host.Outcome State Fault Refusal :=
  act t (fun s => if s.running then s.pipeChecker p else s) s

/-- CHANNEL_STOP_COMPLETE (R349, R414): the last byte of the last stripe of a stopping channel's frame. -/
def execChannelStopComplete (t : Nat) (c : Fin 16) (s : State) : Host.Outcome State Fault Refusal :=
  act t (fun s =>
    let c := c.val
    let x := s.chanOf c
    let f := s.frameNo c
    match s.stripe c f (nStripes s.comm c - 1) with
    | none => s
    | some y =>
      if s.chRunning c && x.stopping && s.due (s.lastByteOf y) then
        let s := s.dropChannel c
        if s.runningChans = [] ∧ s.sys.stopping then s.allStopped else s
      else s) s

/-- OBS_WINDOW_END (R116). -/
def execObsWindowEnd (t : Nat) (s : State) : Host.Outcome State Fault Refusal :=
  act t (fun s =>
    if s.pipe.obsChan.isSome && decide (s.pipe.obsChan = s.runningChans.head?) && decide (s.pipe.obsLen ≤ s.pipe.obsFrames) && decide (s.pipe.obsFrames ≠ 0)
    then s.showWindow.startWindow s.pipe.obsChan else s) s

end Sys2Proof.Machine
end

