-- ==== Sys2Proof/Machine/Withies.lean ====
section
/-!
DEFINITION. Withy faults, self-tests and retirements (R111 to R115, R118, R326), and requested switch-overs (R270): the
operations and their commands.
-/
namespace Sys2Proof.Machine

/-- A withy fault (R111, R326): fenced and its spare tested; a second one in its skein's withy recovery fences the whole
skein under a recovery of class 3. -/
def State.withyFault (s : State) (w access : Nat) (addr : Option Nat) : State :=
  let h := withyHearth w
  let sk := withySkein w
  let r := if addr.isSome then s.takeInj 3 (fun u => decide (u % 4096 = withyInit w)) (fun _ => true) else (s, false)
  let ev : Ev := { source := src 11 h, dom := domSkein sk, init := withyInit w, access := access, addr := addr, inj := r.2 }
  let s := r.1.updWithy w (fun x => { x with faults := satAdd 16 x.faults 1, injected := x.injected || r.2 })
  let s := s.raise ev
  let s := if s.flt.withyRec.get false sk then
      let s := eachIn ((skeinWithies sk).filter (fun v => decide (s.wState v < 3))) (fun v s =>
        ((s.returnJobs v).accrue h).updWithy v (fun x => { x with st := 3, testEnd := none, passed := false })) s
      let s := (s.cond { ev with source := src 11 (24 + h) } true).cond { ev with source := src 11 (24 + h) } false
      let s := { s with flt := { s.flt with withyRec := s.flt.withyRec.put false sk false } }
      s.countWithies h false
    else
      let s := { s with flt := { s.flt with withyRec := s.flt.withyRec.put false sk true } }
      ((s.updWithy w (fun x => { x with ownFault := true })).fenceWithy w).boundaryIfIdle h
  (s.shortHearth h).dispatch h

/-- A skein's recovery ends (R326): each of its withies runs its self-test; one marked or fenced by a fault of its own is
retired whatever that gives. -/
def State.skeinReturn (s : State) (sk : Nat) : State :=
  let s := eachIn (skeinWithies sk) (fun w s =>
    let x := s.withySt w
    if s.wState w = 3 ∧ x.ownFault = false ∧ x.marked = false
    then s.updWithy w (fun y => { y with st := 2, testEnd := some (s.now + tuUs 20), passed := false }) else s) s
  s.boundaryIfIdle (sk / 4)

/-- A spare or withy under self-test passes or fails (R113, R326). -/
def State.testEnds (s : State) (w : Nat) (pass : Bool) : State :=
  let h := withyHearth w
  let s := if pass then s.updWithy w (fun x => { x with passed := true, testEnd := none }) else s.retireWithy w
  ((s.countWithies h (!pass)).boundaryIfIdle h).shortHearth h

/-- Active withies that a skein will have once the withies marked or fenced in it, and withy `w`, have been retired and its spare has
entered (R112, R113, R118). -/
def State.skeinAfter (s : State) (sk w : Nat) : Nat :=
  let stay := (skeinWithies sk).filter (fun v => decide (v ≠ w) && decide (s.wState v = 0) && !(s.withySt v).marked)
  let spare := (skeinWithies sk).any (fun v => decide (s.wState v = 1 ∨ s.wState v = 2) && !(s.withySt v).marked)
  min 8 (stay.length + (if spare then 1 else 0))

/-- RETIRE_REQ (R118): the withy an encode-form identity names is marked; 0 or an abort code. -/
def State.retireAsk (s : State) (v : Nat) : State × Nat :=
  match (List.range 288).find? (fun w => decide (withyInit w = v) && decide (s.wState w = 0)) with
  | none => (s, 0x05)
  | some w =>
    let h := withyHearth w
    if sumList ((List.range 4).map (fun i => s.skeinAfter (4 * h + i) w)) < 28 then (s, 0x0C)
    else (s.updWithy w (fun x => { x with marked := true }), 0)

/-- SWITCH_REQ and TWIN_SWITCH_REQ (R270, cause 0x04): 0 or an abort code. -/
def State.switchAsk (s : State) (pair : Nat) : State × Nat :=
  if s.pairState pair = 1 then (s.switchPair pair 4, 0) else (s, 0x07)
def State.twinSwitchAsk (s : State) : State × Nat :=
  if s.lv 0x8210 8 = 1 then (s.askHandoff 4, 0) else (s, 0x07)

/-! Commands. -/

/-- WITHY_CHECKER_FAULT (R111): `addr` is the byte offset of a local-memory fault (R291). -/
def execWithyCheckerFault (t : Nat) (wid : Fin 288) (addr : Option Nat) (s : State) : Host.Outcome State Fault Refusal :=
  act t (fun s => if s.isUp && decide (s.wState wid < 3) then s.withyFault wid 8 addr else s) s

/-- JOB_OVERRUN (R111). -/
def execJobOverrun (t : Nat) (wid : Fin 288) (s : State) : Host.Outcome State Fault Refusal :=
  act t (fun s =>
    match s.current wid with
    | some b => if b.ends + tuUs 1 ≤ s.now then s.withyFault wid 9 none else s
    | none => s) s

/-- SPARE_SELF_TEST_DONE (R113, R326). -/
def execSpareSelfTestDone (t : Nat) (wid : Fin 288) (pass : Bool) (s : State) : Host.Outcome State Fault Refusal :=
  act t (fun s =>
    match (s.withySt wid).testEnd with
    | some m => if decide (s.wState wid = 2) && decide (m ≤ s.now) then s.testEnds wid pass else s
    | none => s) s

/-- RETIREMENT_DRAIN_DONE (R112): a marked withy with no job left is fenced. -/
def execRetirementDrainDone (t : Nat) (wid : Fin 288) (s : State) : Host.Outcome State Fault Refusal :=
  act t (fun s =>
    if (s.withySt wid).marked && decide (s.wState wid < 2) && (s.current wid).isNone && (s.prefetch wid).isNone then
      let h := withyHearth wid
      if s.wState wid = 1 then (s.retireWithy wid).countWithies h true
      else (((s.fenceWithy wid).boundaryIfIdle h).shortHearth h).dispatch h
    else s) s

end Sys2Proof.Machine
end

