-- ==== Sys2Proof/Machine/Dram.lean ====
section
/-!
DEFINITION. DRAM as its controllers see it (R288 to R309): the address map, queues, the choice of a command in each slot,
refresh, retry, migration and self-refresh.
-/
namespace Sys2Proof.Machine

/-- Source +k of a channel in groups 13 and 14, and the initiator of its controller (Table 1-6). -/
def dramSrc (ch k : Nat) : Nat := src (13 + ch / 4) (8 * (ch % 4) + k)
def dramInit (ch : Nat) : Nat := blockInit (ch / 4) (32 + ch % 4)
def dramIdx (ch : Nat) : Nat := 0x8010 + ch

def State.updMem (s : State) (f : Mem → Mem) : State := { s with mem := f s.mem }
def State.dramSub (s : State) (ch sub : Nat) : DramSub := s.mem.subs.get {} (2 * ch + sub)
def State.updSub (s : State) (ch sub : Nat) (f : DramSub → DramSub) : State :=
  s.updMem (fun m => { m with subs := m.subs.upd {} (2 * ch + sub) f })
def State.dramCh (s : State) (ch : Nat) : DramCh := s.mem.chans.get {} ch
def State.updDram (s : State) (ch : Nat) (f : DramCh → DramCh) : State :=
  s.updMem (fun m => { m with chans := m.chans.upd {} ch f })

/-! Bytes of memory. The list is canonical: addresses rise and no listed byte is 0 (assumption 12). -/

/-- The canonical form of the bytes. -/
def Mem.wf (m : Mem) : Bool := Tbl.wf (0 : Byte) m.cells

def Mem.readByte (m : Mem) (a : Nat) : Byte := Tbl.get (0 : Byte) m.cells a
def Mem.writeByte (m : Mem) (a : Nat) (v : Byte) : Mem := { m with cells := Tbl.put (0 : Byte) m.cells a v }
def Mem.readBytes (m : Mem) (a n : Nat) : List Byte := (List.range n).map (fun i => m.readByte (a + i))

def Mem.writeBytes (m : Mem) (a : Nat) : List Byte → Mem
  | [] => m
  | v :: vs => (m.writeByte a v).writeBytes (a + 1) vs

/-! Address map (R291, R293, R294). -/

/-- Bits that a mask names. -/
def maskBits (m : Nat) : List Nat := ((List.range 8).map (fun i => m / 256 ^ i % 256)).filter (fun b => decide (b ≠ 0xFF))

/-- Exclusive-or of some bits of an address. -/
def xorBits (bits : List Nat) (a : Nat) : Nat := (bits.filter (fun b => a.testBit b)).length % 2

/-- Where a line lies: channel, subchannel, bank (4 × group + bank address), row and column line. -/
structure Spot where
  ch : Nat
  sub : Nat
  bank : Nat
  row : Nat
  col : Nat
deriving DecidableEq, Repr

/-- Field `i` of R293 by its mask 8001:0i. -/
def dramField (m : Tbl Val) (i a : Nat) : Nat := xorBits (maskBits (cfg m 0x8001 i)) a

def spotOf (m : Tbl Val) (a : Nat) : Spot :=
  { ch := 4 * bitsOf a 35 35 + dramField m 2 a + 2 * dramField m 3 a, sub := dramField m 1 a,
    bank := dramField m 4 a + 2 * dramField m 5 a + 4 * dramField m 6 a + 8 * dramField m 7 a,
    row := bitsOf a 34 19, col := bitsOf a 11 6 }

/-- Number of a line of a subchannel in address order: row, own bank bits, column. -/
def lineIndex (a : Nat) : Nat := bitsOf a 34 19 * 1024 + bitsOf a 18 15 * 64 + bitsOf a 11 6

/-- The address of a subchannel's line by that number: its own bits of channel and subchannel follow from the masks. -/
def lineAddr (m : Tbl Val) (ch sub n : Nat) : Nat :=
  let a := ch / 4 * 2 ^ 35 + n / 1024 * 2 ^ 19 + n / 64 % 16 * 2 ^ 15 + n % 64 * 2 ^ 6
  a + (sub + dramField m 1 a) % 2 * 2 ^ 12 + (ch + dramField m 2 a) % 2 * 2 ^ 13 + (ch / 2 + dramField m 3 a) % 2 * 2 ^ 14

def lineBase (a : Nat) : Nat := a / 64 * 64

/-- Lines of a subchannel in one rank. -/
def rankLines : Nat := 2 ^ 26

/-! Channels. -/

/-- A channel that training found usable and whose domain runs. -/
def State.dramAlive (s : State) (ch : Nat) : Bool :=
  s.isUp && decide (s.sys.mode ≠ .banked ∧ s.sys.mode ≠ .cold) && s.sys.dramUsable.testBit ch && !(s.dramCh ch).selfRef

/-- A channel that issues commands: none while it is retrained or out of service (R301, R302). -/
def State.dramIssues (s : State) (ch : Nat) : Bool := s.dramAlive ch && !(s.dramCh ch).retraining && !(s.dramCh ch).out

def State.rankState (s : State) (ch : Nat) : Nat := s.lv (dramIdx ch) 7

/-- Ranks that are refreshed: the spare too where it was trained (R289). -/
def State.ranksOf (s : State) (ch : Nat) : List Nat := if s.sys.dramSpare.testBit ch then [0, 1] else [0]

/-- Rank that a line of the address space is served from (R303). -/
def State.rankOf (s : State) (ch sub a : Nat) : Nat :=
  match s.rankState ch with
  | 3 => 1
  | 2 => if lineIndex a < (s.dramSub ch sub).copied then 1 else 0
  | _ => 0

/-- Rank, bank, row and column line of a request. -/
def State.placeOf (s : State) (ch sub : Nat) (r : DReq) : Nat × Nat × Nat × Nat :=
  match r.scrub with
  | some p => p
  | none => let p := spotOf s.comm r.req.addr
    (s.rankOf ch sub r.req.addr, p.bank, p.row, p.col)

/-- Bank key and row of a request. -/
def State.bankOf (s : State) (ch sub : Nat) (r : DReq) : Nat := let p := s.placeOf ch sub r
  16 * p.1 + p.2.1
def State.rowAt (s : State) (ch sub : Nat) (r : DReq) : Nat := (s.placeOf ch sub r).2.2.1

/-- A command goes out and enters the retry buffer (R301). -/
def State.dramSend (s : State) (ch sub : Nat) (c : DramCmd) (r : Option DReq) : State :=
  (s.updSub ch sub (fun x => { x with retry := (x.retry ++ [Issued.mk c r]).drop (x.retry.length + 1 - 32) })).emit (.dram ch sub c)

/-! Queues (R295 to R297). -/

/-- Whether the bank holds a read that arrived after a pending write to its row (R296). -/
def State.ordered (s : State) (ch sub bank : Nat) : Bool :=
  let x := s.dramSub ch sub
  x.reads.any (fun r => decide (s.bankOf ch sub r = bank) && x.writes.any (fun w =>
    decide (w.order < r.order) && decide (s.bankOf ch sub w = bank) && decide (s.rowAt ch sub w = s.rowAt ch sub r)))

/-- A request takes its place where its queue has room; false: it waits. -/
def State.dramEnter (s : State) (ch sub : Nat) (r : DReq) : State × Bool :=
  let x := s.dramSub ch sub
  if r.req.data.isSome then
    if x.writes.length < 64 then (s.updSub ch sub (fun x => { x with writes := x.writes ++ [r] }), true) else (s, false)
  else if x.reads.length < 128 then
    let s := s.updSub ch sub (fun x => { x with reads := x.reads ++ [r], mode := if x.mode = 2 then 0 else x.mode })
    let b := s.bankOf ch sub r
    if !((s.dramSub ch sub).inOrder.contains b) && s.ordered ch sub b then
      ((s.updSub ch sub (fun x => { x with inOrder := x.inOrder ++ [b] })).inc (dramIdx ch) 0xC, true)
    else (s, true)
  else (s, false)

/-- Requests that waited enter first; then those that arrive, a write that finds its queue full being counted. -/
def State.dramArrive (s : State) (ch sub : Nat) (rs : List DReq) : State :=
  let old := (s.dramSub ch sub).stalled
  let s := s.updSub ch sub (fun x => { x with stalled := [] })
  let wait := fun (s : State) (r : DReq) => s.updSub ch sub (fun x => { x with stalled := x.stalled ++ [r] })
  let s := eachIn old (fun r s => let e := s.dramEnter ch sub r
    if e.2 then e.1 else wait s r) s
  eachIn rs (fun r s =>
    let r := { r with order := (s.dramSub ch sub).nextOrder }
    let s := s.updSub ch sub (fun x => { x with nextOrder := x.nextOrder + 1 })
    let e := s.dramEnter ch sub r
    if e.2 then e.1
    else if r.req.data.isSome then (wait s r).inc (dramIdx ch) 0xB else wait s r) s

/-- Write mode (R297). -/
def writeMode (x : DramSub) : Nat :=
  let n := x.writes.length
  if (x.mode = 1 ∧ 16 < n) ∨ 48 ≤ n then 1
  else if n ≠ 0 ∧ (x.mode = 2 ∨ x.reads.isEmpty) then 2
  else 0

/-! The command slot (R298). -/

/-- AGE_LIMIT has passed; scrub reads stand at that priority from the first (R300). -/
def State.aged (s : State) (r : DReq) : Bool := r.scrub.isSome || decide (r.at_ + tuNs (s.cm 0x8002 (0x11 + r.req.cls)) < s.now)

def State.rowHit (s : State) (ch sub : Nat) (r : DReq) : Bool :=
  decide (((s.dramSub ch sub).rows.get none (s.bankOf ch sub r)).map DRow.row = some (s.rowAt ch sub r))

/-- Order of item 5 of R298: class, row hits before misses, oldest first. -/
def State.dramBefore (s : State) (ch sub : Nat) (a b : DReq) : Bool :=
  if a.req.cls ≠ b.req.cls then decide (a.req.cls < b.req.cls)
  else if s.rowHit ch sub a ≠ s.rowHit ch sub b then s.rowHit ch sub a
  else decide (a.order ≤ b.order)

def bestBy (before : DReq → DReq → Bool) : List DReq → Option DReq
  | [] => none
  | r :: rs => match bestBy before rs with
    | some b => if before b r then some b else some r
    | none => some r

def oldest (rs : List DReq) : Option DReq := bestBy (fun a b => decide (a.order ≤ b.order)) rs

/-- The request that the slot serves: items 2, 4 and 5 of R298. -/
def State.dramChoose (s : State) (ch sub : Nat) : Option DReq :=
  let x := s.dramSub ch sub
  let all := x.reads ++ x.writes
  match oldest (all.filter (fun r => x.inOrder.contains (s.bankOf ch sub r))) with
  | some r => some r
  | none => match oldest (all.filter s.aged) with
    | some r => some r
    | none => bestBy (s.dramBefore ch sub) (if x.mode = 0 then x.reads else x.writes)

/-- The hint in force: PAGE_HINT of the class unless it is 0xFF. -/
def State.hintOf (s : State) (r : DReq) : Nat :=
  let h := s.cm 0x8002 (r.req.cls + 1)
  if h = 0xFF then r.req.hint else h

/-- Bytes of a class and of a channel counted (Table 12-12). -/
def State.countLine (s : State) (ch sub_ cls : Nat) : State :=
  let b := s.lvb (dramIdx ch) 0xE
  (s.addN (dramIdx ch) sub_ 64).setB (dramIdx ch) 0xE ((List.range 5).flatMap (fun q =>
    leBytes 8 (fieldAt b (8 * q + 7) (8 * q) + (if q = cls then 64 else 0))))

/-- What an access does to memory: a write stores its line and ends its poison; a read returns it (R304). -/
def State.touchLine (s : State) (r : DReq) : State :=
  match r.req.data with
  | some bs => s.updMem (fun m => { m.writeBytes (lineBase r.req.addr) bs with poison := m.poison.put false (lineBase r.req.addr) false })
  | none => if r.scrub.isSome then s else
    s.emit (.dramData r.req.addr (s.mem.readBytes (lineBase r.req.addr) 64) (s.mem.poison.get false (lineBase r.req.addr)))

/-- Banks that no longer need in-order mode leave it. -/
def State.leaveOrder (s : State) (ch sub : Nat) : State :=
  s.updSub ch sub (fun x => { x with inOrder := x.inOrder.filter (s.ordered ch sub) })

/-- The column access of a request whose row is open. -/
def State.dramAccess (s : State) (ch sub : Nat) (r : DReq) : State :=
  let p := s.placeOf ch sub r
  let b := 16 * p.1 + p.2.1
  let close := decide (s.hintOf r = 0)
  let write := r.req.data.isSome
  let s := s.dramSend ch sub (if write then .wr p.1 p.2.1 p.2.2.2 close else .rd p.1 p.2.1 p.2.2.2 close) (some r)
  let h := s.hintOf r
  let s := s.updSub ch sub (fun x => { x with
    reads := x.reads.filter (fun q => decide (q.order ≠ r.order)), writes := x.writes.filter (fun q => decide (q.order ≠ r.order)),
    rows := x.rows.upd none b (fun o => if close then none else o.map (fun o => { o with hint := h, usedAt := s.now })) })
  ((s.touchLine r).countLine ch (if write then 0xA else 9) r.req.cls).leaveOrder ch sub

def State.dramOpen (s : State) (ch sub rank bank row : Nat) : State :=
  (s.dramSend ch sub (.act rank bank row) none).updSub ch sub (fun x => { x with
    rows := x.rows.put none (16 * rank + bank) (some ⟨row, 1, s.now, s.now⟩), acts := x.acts.upd 0 (16 * rank + bank) (· + 1) })

def State.dramClose (s : State) (ch sub b : Nat) : State :=
  (s.dramSend ch sub (.pre (b / 16) (b % 16)) none).updSub ch sub (fun x => { x with rows := x.rows.put none b none })

/-- The next command of a request: its access, an activate, or a precharge. Above 95 °C two slots of five carry neither an
activate nor an access (R308). -/
def State.dramServe (s : State) (ch sub : Nat) (r : DReq) : State :=
  let p := s.placeOf ch sub r
  let b := 16 * p.1 + p.2.1
  let held := decide (s.lv (dramIdx ch) 1 = 2) && decide (3 ≤ (s.dramSub ch sub).slot % 5)
  match (s.dramSub ch sub).rows.get none b with
  | some o => if o.row = p.2.2.1 then (if held then s else s.dramAccess ch sub r) else s.dramClose ch sub b
  | none => if held then s else s.dramOpen ch sub p.1 p.2.1 p.2.2.1

/-- Refresh that can no longer be postponed (R306): more than four intervals owed, or no request of class 0 or 1 queued. -/
def State.refreshNow (s : State) (ch sub : Nat) : Bool :=
  let x := s.dramSub ch sub
  decide (16 < x.owed) || (decide (x.owed ≠ 0) && !((x.reads ++ x.writes).any (fun r => decide (r.req.cls < 2))))

/-- One command of a refresh: a bank still open is precharged first; REFsb of one bank index across the bank groups, or
REFab. -/
def State.refreshStep (s : State) (ch sub : Nat) : State :=
  let x := s.dramSub ch sub
  let all := decide (s.cm 0x8000 2 = 1)
  match x.rows.find? (fun e => e.2.isSome && (all || decide (e.1 % 4 = x.refBank))) with
  | some e => s.dramClose ch sub e.1
  | none =>
    let s := eachIn (s.ranksOf ch) (fun r s => s.dramSend ch sub (.ref r x.refBank all) none) s
    s.updSub ch sub (fun x => { x with owed := x.owed - (if all then 4 else 1), refBank := if all then x.refBank else (x.refBank + 1) % 4 })

/-- A migration access (R303): the next line is read from the old rank and written to the spare, each rank's row opened for it. -/
def State.migrateStep (s : State) (ch sub : Nat) : State :=
  let n := (s.dramSub ch sub).copied
  let p := spotOf s.comm (lineAddr s.comm ch sub n)
  let openFor := fun (rank : Nat) (s : State) =>
    match (s.dramSub ch sub).rows.get none (16 * rank + p.bank) with
    | some o => if o.row = p.row then s else (s.dramClose ch sub (16 * rank + p.bank)).dramOpen ch sub rank p.bank p.row
    | none => s.dramOpen ch sub rank p.bank p.row
  let s := (openFor 0 s).dramSend ch sub (.rd 0 p.bank p.col true) none
  let s := (openFor 1 s).dramSend ch sub (.wr 1 p.bank p.col true) none
  let s := s.updSub ch sub (fun x => { x with
    copied := n + 1, rows := (x.rows.put none p.bank none).put none (16 + p.bank) none })
  s.setN (dramIdx ch) 8 (((s.dramSub ch 0).copied + (s.dramSub ch 1).copied) * 1024 / (2 * rankLines))

/-- Rows that their page policy closes (R295): AUTO after 32 memory clocks without a request to it, any row after tRAS maximum. Their
precharges go out beside the slot's command (assumption 127). -/
def State.idleRows (s : State) (ch sub : Nat) : List Nat :=
  let x := s.dramSub ch sub
  (x.rows.filter (fun e => match e.2 with
    | some o => decide (o.openAt + Config.trasMax ≤ s.now) || (decide (o.hint = 2) && decide (o.usedAt + 1280 ≤ s.now) &&
        !((x.reads ++ x.writes).any (fun r => decide (s.bankOf ch sub r = e.1) && decide (s.rowAt ch sub r = o.row))))
    | none => false)).map Prod.fst

/-- One command slot (R298). -/
def State.dramSlot (s : State) (ch sub : Nat) : State :=
  let s := s.updSub ch sub (fun x => { x with slot := x.slot + 1, mode := writeMode x })
  let s := eachIn (s.idleRows ch sub) (fun b s => s.dramClose ch sub b) s
  let x := s.dramSub ch sub
  if s.refreshNow ch sub then s.refreshStep ch sub
  else match s.dramChoose ch sub with
    | some r =>
      if x.inOrder.isEmpty && decide (x.slot % 10 = 0) && decide (s.rankState ch = 2) && decide (x.copied < rankLines) then s.migrateStep ch sub
      else s.dramServe ch sub r
    | none =>
      if decide (x.slot % 10 = 0) && decide (s.rankState ch = 2) && decide (x.copied < rankLines) then s.migrateStep ch sub
      else s

/-! Retry (R301). -/

/-- One command of the retry buffer issued again: a row is opened again where the access needs it. -/
def State.replay (s : State) (ch sub : Nat) (i : Issued) : State :=
  match i.req with
  | some r =>
    let p := s.placeOf ch sub r
    let b := 16 * p.1 + p.2.1
    let s := if ((s.dramSub ch sub).rows.get none b).map DRow.row = some p.2.2.1 then s
      else (s.emit (.dram ch sub (.act p.1 p.2.1 p.2.2.1))).updSub ch sub (fun x => { x with
        rows := x.rows.put none b (some ⟨p.2.2.1, s.hintOf r, s.now, s.now⟩) })
    let s := (s.emit (.dram ch sub i.cmd)).touchLine r
    if s.hintOf r = 0 then s.updSub ch sub (fun x => { x with rows := x.rows.put none b none }) else s
  | none =>
    match i.cmd with
    | .act rank bank row => (s.emit (.dram ch sub i.cmd)).updSub ch sub (fun x => { x with
        rows := x.rows.put none (16 * rank + bank) (some ⟨row, 1, s.now, s.now⟩) })
    | .pre rank bank => (s.emit (.dram ch sub i.cmd)).updSub ch sub (fun x => { x with rows := x.rows.put none (16 * rank + bank) none })
    | _ => s.emit (.dram ch sub i.cmd)

/-- All banks precharged, then the buffer in its order. -/
def State.replayAll (s : State) (ch sub : Nat) : State :=
  let s := eachIn ((s.dramSub ch sub).rows.map Prod.fst) (fun b s => s.emit (.dram ch sub (.pre (b / 16) (b % 16)))) s
  let s := s.updSub ch sub (fun x => { x with rows := [] })
  eachIn (s.dramSub ch sub).retry (fun i s => s.replay ch sub i) s

/-! Self-refresh (R309). -/

/-- The write queue drained in order, rows closed, self-refresh entered. -/
def State.drainSub (s : State) (ch sub : Nat) : State :=
  let x := s.dramSub ch sub
  let s := eachIn (x.writes ++ x.stalled.filter (fun r => r.req.data.isSome)) (fun r s =>
    let p := s.placeOf ch sub r
    ((s.emit (.dram ch sub (.wr p.1 p.2.1 p.2.2.2 true))).touchLine r).countLine ch 0xA r.req.cls) s
  (s.updSub ch sub (fun x => { x with reads := [], writes := [], stalled := [], rows := [], inOrder := [], mode := 0, retry := [] })).emit
    (.dram ch sub (.selfRefresh true))

def State.dramSleep (s : State) : State :=
  eachBelow 8 (fun ch s =>
    if s.dramAlive ch then
    ((s.drainSub ch 0).drainSub ch 1).updDram ch (fun x => { x with selfRef := true }) else s) s

/-- Channels leave self-refresh, trained: refresh and scrub run from now (R309, R399). -/
def State.dramWake (s : State) : State :=
  eachBelow 8 (fun ch s =>
    if s.sys.dramUsable.testBit ch then
      let s := eachBelow 2 (fun sub s => (s.updSub ch sub (fun x => { x with refAt := s.now, owed := 0 }))) s
      let s := if (s.dramCh ch).selfRef then eachBelow 2 (fun sub s => s.emit (.dram ch sub (.selfRefresh false))) s else s
      s.updDram ch (fun x => { x with selfRef := false, scrubAt := s.now, alerts := [], retraining := false })
    else s) s

/-- tREFI of a channel by its band (R306): 3.9 µs or 1.95 µs. -/
def State.trefi (s : State) (ch : Nat) : Nat :=
  if s.lv (dramIdx ch) 1 = 0 ∧ s.cm 0x8000 1 = 0 then tuNs 3900 else tuNs 1950

/-! Uncorrectable lines and retirement of a rank (R303, R304). -/

/-- The usable rank of channel 0 or 4 is retired and copied to its spare. -/
def State.retireRank (s : State) (ch : Nat) (inj : Bool) : State :=
  let s := (s.setN (dramIdx ch) 7 2).setN (dramIdx ch) 8 0
  let s := (s.updSub ch 0 (fun x => { x with copied := 0 })).updSub ch 1 (fun x => { x with copied := 0 })
  let s := s.raise { source := dramSrc ch 4, dom := domDram ch, init := dramInit ch, inj := inj }
  s.wearEnter 4 (if inj then 3 else 1) ch 0x8000

def State.poisonLine (s : State) (a : Nat) : State := s.updMem (fun m => { m with poison := m.poison.put false (lineBase a) true })

end Sys2Proof.Machine
end

