-- ==== Sys2Proof/Machine/Sdp.lean ====
section
/-!
DEFINITION. What a commit makes for receivers: parameter sets (R53) and session descriptions (R181, R233). Lines end
with CR LF, and a grandmaster identity is written as hexadecimal byte pairs joined by hyphens (assumption 70).
-/
namespace Sys2Proof.Machine

/-- A flow's parameter sets (R53): those fixed at its start while it is armed or running, else those of the configuration. -/
def State.paramsFor (s : State) (m : Tbl Val) (n : Nat) : ParamSets := ((s.flowSt n).params).getD (paramsOf m n (s.segW n))

/-- PARAM_SETS (R53): NAL units with start codes, while the flow is armed or running. -/
def State.paramSets (s : State) (n : Nat) : List Byte :=
  if s.lv (0x5000 + n) 0x15 = 0 then []
  else (s.paramsFor s.comm n).nals.flatMap (fun u => [0, 0, 0, 1] ++ u.data)

/-! Text. -/

def decText (n : Nat) : String := Nat.repr n
def ipText (ip : Nat) : String :=
  decText (ip / 2 ^ 24 % 256) ++ "." ++ decText (ip / 2 ^ 16 % 256) ++ "." ++ decText (ip / 256 % 256) ++ "." ++ decText (ip % 256)

def hexDigit (n : Nat) : String := ["0", "1", "2", "3", "4", "5", "6", "7", "8", "9", "A", "B", "C", "D", "E", "F"].getD n "0"
def hexByte (n : Nat) : String := hexDigit (n / 16 % 16) ++ hexDigit (n % 16)
def gmText (gm : Nat) : String :=
  String.intercalate "-" ((List.range 8).map (fun i => hexByte (gm / 256 ^ (7 - i) % 256)))

def base64Digit (n : Nat) : Char :=
  if n < 26 then Char.ofNat (65 + n) else if n < 52 then Char.ofNat (71 + n) else if n < 62 then Char.ofNat (n - 4)
  else if n = 62 then '+' else '/'

/-- Base64 of bytes (RFC 4648). -/
def base64 : List Byte → List Char
  | [] => []
  | [a] => let v := a.toNat * 65536; [base64Digit (v / 2 ^ 18 % 64), base64Digit (v / 2 ^ 12 % 64), '=', '=']
  | [a, b] => let v := a.toNat * 65536 + b.toNat * 256
    [base64Digit (v / 2 ^ 18 % 64), base64Digit (v / 2 ^ 12 % 64), base64Digit (v / 64 % 64), '=']
  | a :: b :: c :: rest => let v := a.toNat * 65536 + b.toNat * 256 + c.toNat
    base64Digit (v / 2 ^ 18 % 64) :: base64Digit (v / 2 ^ 12 % 64) :: base64Digit (v / 64 % 64) :: base64Digit (v % 64) :: base64 rest

/-- Grandmaster and PTP domain of a ts-refclk line. -/
def State.refclk (s : State) (m : Tbl Val) : String :=
  let src := s.sourceNow
  let dom := if src = 1 ∨ src = 2 then cfg m (0x7010 + (src - 1)) 3 else Config.sdpDomain src
  "a=ts-refclk:ptp=IEEE1588-2008:" ++ gmText (s.sourceFlags src).2.2 ++ ":" ++ decText dom

/-- The media block of one leg (R181, R233). -/
def State.sdpLeg (s : State) (m : Tbl Val) (e leg p : Nat) (mid : String) : List String :=
  let c := txCfg m e
  let pt := decText c.pt
  let dest := destOf c p
  let conn := "c=IN IP4 " ++ ipText dest ++ (if isMulticast dest then "/" ++ decText (port m p 8) else "")
  let twin := decide (e < 4096) && decide (cfg m 0x8210 1 ≠ 0) && (cfg m 0x8210 4).testBit (flow m e 2)
  let filter := "a=source-filter: incl IN IP4 " ++ ipText dest ++ " " ++ ipText (port m p 4) ++
    (if twin then " " ++ ipText (Config.twinAddr e leg).toNat else "")
  let udp := decText (udpOf c p)
  let media :=
    if e < 4096 then
      let params := s.paramsFor m e
      let hevc := params.hevc
      let sets := params.nals.map (fun u => String.ofList (base64 u.data))
      let names := if hevc then ["sprop-vps=", "sprop-sps=", "sprop-pps="] else ["sprop-sps=", "sprop-pps="]
      let sprops := (List.zipWith (fun a b => a ++ b ++ "; ") names sets).foldl (· ++ ·) ""
      ["m=video " ++ udp ++ " RTP/AVP " ++ pt, conn,
       "b=AS:" ++ decText (ceilDiv (sentRate m e * (payloadMax m e + 40)) (payloadMax m e - 3)), filter,
       "a=rtpmap:" ++ pt ++ (if hevc then " H265/90000" else " H266/90000"),
       "a=fmtp:" ++ pt ++ " profile-id=" ++ decText params.profile ++ "; tier-flag=" ++ (if params.highTier then "1" else "0") ++
         "; level-id=" ++ decText params.level ++ "; " ++ sprops ++ "TP=2110TPW"]
    else
      let a := e - 4096
      let n := Sys2Proof.Machine.audio m a 4
      let time := if Sys2Proof.Machine.audio m a 2 = 0 then "1" else "0.125"
      ["m=audio " ++ udp ++ " RTP/AVP " ++ pt, conn, "b=AS:" ++ decText (shaperOf m e (s.gcEntry m e)).1, filter,
       "a=rtpmap:" ++ pt ++ (if Sys2Proof.Machine.audio m a 3 = 0 then " L16/48000/" else " L24/48000/") ++ decText n,
       "a=fmtp:" ++ pt ++ " channel-order=SMPTE2110.(U" ++ (if n < 10 then "0" else "") ++ decText n ++ ")",
       "a=ptime:" ++ time, "a=maxptime:" ++ time]
  media ++ [s.refclk m, "a=mediaclk:direct=0", "a=mid:" ++ mid]

/-- The session description of an entry (R181). -/
def State.sdpText (s : State) (m : Tbl Val) (e commits : Nat) : List Byte :=
  let c := txCfg m e
  let head := ["v=0",
    "o=- " ++ decText (s.ssrcIn m e) ++ " " ++ decText commits ++ " IN IP4 " ++ ipText (port m c.portA 4),
    "s=HM8120 " ++ decText s.myId ++ ":" ++ decText e, "t=0 0"] ++ (if c.portB = 0xFF then [] else ["a=group:DUP A B"])
  let legs := s.sdpLeg m e 0 c.portA "A" ++ (if c.portB = 0xFF then [] else s.sdpLeg m e 1 c.portB "B")
  asciiBytes (((head ++ legs).map (· ++ "\r\n")).foldl (· ++ ·) "")

/-- The text of every entry that a configuration enables, made anew (R181). -/
def State.makeSdp (s : State) (m : Tbl Val) : State :=
  let on := (flowsOn m ++ (List.range 32).map (· + 4096)).filter (fun e => entryOn m e)
  s.updOutp (fun o => { o with sdp := on.foldl (fun t e => t.put [] e (s.sdpText m e (s.lv 0x1F00 0xA))) [] })

end Sys2Proof.Machine
end

