-- ==== Sys2Proof/Machine/CommitCheck.lean ====
section
/-!
DEFINITION. What a commit refuses (R408): the commit tables of the chapters, over a configuration `m` (the pending copies as they
stood at COMMIT_REQ) and the state. Only enabled channels, flows, layers, inputs and entries are judged (assumption 71).
-/
namespace Sys2Proof.Machine

/-- An error (Table 17-5): object, ENTRY (0xFFFF none) and code. -/
structure CErr where
  idx : Nat
  sub : Nat
  entry : Nat
  code : Nat
deriving DecidableEq, Repr

/-- An error against an object as a whole, listed when `bad`. -/
def errIf (bad : Bool) (idx sub code : Nat) : List CErr := if bad then [⟨idx, sub, 0xFFFF, code⟩] else []
def errAt (bad : Bool) (idx sub entry code : Nat) : List CErr := if bad then [⟨idx, sub, entry, code⟩] else []

/-- Positions of a list with their values. -/
def numbered {α : Type} (xs : List α) : List (Nat × α) := (List.range xs.length).zip xs

/-- Positions of values that stand earlier in the list too. -/
def repeats (xs : List Nat) : List Nat := ((numbered xs).filter (fun e => (xs.take e.1).contains e.2)).map Prod.fst

/-- A commit made while LIT: R417 has a fault during validation leave its validation as it was. -/
def State.litNow (s : State) : Bool := decide (s.sys.mode = .lit) || (decide (s.sys.mode = .damped) && decide (s.sys.dampedFrom = .lit))

/-- A channel that runs, or is to start: its SX objects, delay and council stand (R63, R76). -/
def State.chanHeld (s : State) (c : Nat) : Bool := s.litNow && (chanOn s.comm).contains c

/-! Look-ahead (R76). -/

/-- h of a channel's council in a configuration (R75, R76). -/
def State.depthIn (s : State) (m : Tbl Val) (c : Nat) : Nat :=
  let ms := membersOf m c
  s.eccentricity (if cfg m (0x4100 + c) 3 = 0xFFFF then s.elect ms else cfg m (0x4100 + c) 3) ms

/-- Lc of a channel: 0 solo; a running channel keeps its own (R76). -/
def State.lcIn (s : State) (m : Tbl Val) (c : Nat) : Nat :=
  if s.chanHeld c then s.lcOf c
  else if soloIn m s.myId c then 0
  else ceilDiv ((3000 + 1050 * s.depthIn m c) * 65536) (ts16 m c)

/-! Table 2-6. -/

/-- Flows that keep PLACED_HEARTH in a commit made while LIT (R50). -/
def State.kept (s : State) (m : Tbl Val) : List (Nat × Nat) :=
  if s.litNow then s.pipe.placed.filter (fun p => (flowsOn s.comm).contains p.1 && (flowsOn m).contains p.1) else []

/-- The hearth position of a pair that ACTIVE_SIDE makes standby (R50, R264). -/
def standbyPos (m : Tbl Val) (h : Nat) : Bool :=
  decide (cfg m 0x8200 1 ≠ 0) && decide (cfg m 0x8200 2 / 2 ^ (h % 4) % 2 ≠ h / 4)

def checkChannel (s : State) (m : Tbl Val) (c : Nat) : List CErr :=
  let i := 0x4000 + c
  let lc := s.lcIn m c
  let dm := dMin m c lc
  let p := periodOf (chan m c 5)
  let off := (signed 32 (chan m c 0xA)).natAbs
  errIf (!comboOk m c) i 8 5 ++
  errIf (decide (p.1 * 1000000000 < 2 * off * p.2)) i 0xA 5 ++
  errIf (decide (61 < lc) || decide (dm = 0) || decide (chan m c 9 < dm)) i 9 5 ++
  errIf (((List.range 8).any (fun h => maskHas m c h && standbyPos m h))) i 0xB 0xF

def checkFlow (m : Tbl Val) (n : Nat) : List CErr :=
  let i := 0x5000 + n
  let c := flow m n 2
  errIf (decide (chan m c 1 ≠ 1)) i 2 0xB ++
  if flow m n 3 ≠ 0 then []
  else
    let f420 := decide (chan m c 6 = 0)
    let h := flow m n 0xD
    errIf (decide (chan m c 3 < flow m n 5 + flow m n 7)) i 7 5 ++
    errIf (decide (chan m c 4 < flow m n 6 + flow m n 8)) i 8 5 ++
    errIf (decide (flow m n 7 < flow m n 9 + flow m n 0xA + 16)) i 0xA 5 ++
    errIf (f420 && decide (flow m n 0xB % 2 = 1)) i 0xB 5 ++
    errIf ((f420 && decide (flow m n 0xC % 2 = 1)) || decide (flow m n 8 < flow m n 0xB + flow m n 0xC + 16)) i 0xC 5 ++
    errIf (decide (h < 8) && !maskHas m c h) i 0xD 0xB ++
    errIf (decide (h < 8) && standbyPos m h) i 0xD 0xF

/-- Rectangles of the channel's groups tile the canvas exactly (R57). -/
def tilesCanvas (m : Tbl Val) (c : Nat) : Bool :=
  let gs := (groupsOf m c).map (fun n => (flow m n 5, flow m n 6, flow m n 7, flow m n 8))
  decide (sumList (gs.map (fun g => g.2.2.1 * g.2.2.2)) = chan m c 3 * chan m c 4) &&
  gs.all (fun g => decide (g.1 + g.2.2.1 ≤ chan m c 3) && decide (g.2.1 + g.2.2.2 ≤ chan m c 4)) &&
  (numbered gs).all (fun a => (numbered gs).all (fun b => decide (a.1 = b.1) ||
    !(decide (a.2.1 < b.2.1 + b.2.2.2.1) && decide (b.2.1 < a.2.1 + a.2.2.2.1) &&
      decide (a.2.2.1 < b.2.2.1 + b.2.2.2.2) && decide (b.2.2.1 < a.2.2.1 + a.2.2.2.2))))

/-- The conditions of R57. -/
def State.mergeOk (s : State) (m : Tbl Val) (c : Nat) : Bool :=
  let wc := mergeW m c (chan m c 9) (s.lcIn m c) * ctu m c
  decide (chan m c 0xE = 1) && decide (chan m c 7 = 0) && soloIn m s.myId c && tilesCanvas m c && decide (wc ≠ 0) &&
  (groupsOf m c).all (fun n =>
    decide (flow m n 9 = 0) && decide (flow m n 0xA = 0) && decide (flow m n 0xB = 0) && decide (flow m n 0xC = 0) &&
    decide (flow m n 5 % wc = 0) && decide (flow m n 6 % ctu m c = 0) &&
    (decide (flow m n 7 % wc = 0) || decide (flow m n 5 + flow m n 7 = chan m c 3)) &&
    (decide (flow m n 8 % ctu m c = 0) || decide (flow m n 6 + flow m n 8 = chan m c 4))) &&
  decide (((flowsOf m c).filter (fun n => decide (flow m n 3 = 1))).length = 1)

def checkMerge (s : State) (m : Tbl Val) (c : Nat) : List CErr :=
  let wants := decide (chan m c 0xE = 1) || (flowsOf m c).any (fun n => decide (flow m n 3 = 1))
  errIf (wants && !s.mergeOk m c) (0x4000 + c) 0xE 0xB

/-- FLOW_RATE of the last flow of a list, in counting order, when a limit on them is exceeded. -/
def lastFlow (bad : Bool) (fs : List Nat) : List CErr :=
  match fs.getLast? with
  | some n => errIf bad (0x5000 + n) 4 0xC
  | none => []

/-- Flows in counting order (R50): ascending channel, then flow. -/
def counted_ (m : Tbl Val) : List Nat := (chanOn m).flatMap (flowsOf m)

/-- The capacity limits (R12, R13, R41, R49, R51). -/
def checkLimits (s : State) (m : Tbl Val) (pl : List (Nat × Nat)) : List CErr :=
  (List.range 8).flatMap (fun h =>
    let here := (pl.filter (fun p => decide (p.2 = h))).map Prod.fst
    lastFlow (decide (s.lv (0xC010 + h) 2 * 1001 < placedRate m pl h)) here) ++
  lastFlow (decide ((if cfg m 0x8200 1 = 0 then 16000000000 else 8000000000) * 1001 < sumList (pl.map (fun p => pix1001 m p.1))))
    (pl.map Prod.fst) ++
  (chanOn m).flatMap (fun c => lastFlow (decide (1024 < (flowsOf m c).length)) (flowsOf m c)) ++
  (chanOn m).flatMap (fun c =>
    errIf ((groupsOf m c).any (fun n => !(pl.any (fun p => decide (p.1 = n))))) (0x4000 + c) 0xB 0xB)

/-- Port rates (R51 with R192). -/
def checkPortRate (s : State) (m : Tbl Val) : List CErr :=
  (List.range 10).flatMap (fun p =>
    let fs := (counted_ m).filter (fun n => (txCfg m n).legs.contains p)
    if fs = [] then [] else
    lastFlow (decide (reff m p < portPeak m p (s.gcEntry m) (fun _ => true))) fs)

/-! SX and ST objects (R63, R262, R263). -/

/-- Whether the channel, flow, input, port or audio unit that owns an object is enabled in a configuration. -/
def ownerOn (m : Tbl Val) (idx : Nat) : Bool :=
  let on := fun (i : Nat) => decide (cfg m i 1 = 1)
  if 0x2000 ≤ idx ∧ idx < 0x2200 then on idx
  else if 0x3000 ≤ idx ∧ idx < 0x3010 then chan m (idx - 0x3000) 1 == 1
  else if 0x4000 ≤ idx ∧ idx < 0x4210 then chan m (idx % 16) 1 == 1
  else if 0x5000 ≤ idx ∧ idx < 0x6000 then on idx
  else if 0x6000 ≤ idx ∧ idx < 0x600A then on idx
  else if 0x7010 ≤ idx ∧ idx < 0x7012 then on (0x6000 + (idx - 0x7010))
  else if 0x7100 ≤ idx ∧ idx < 0x7140 then on idx
  else if 0x8110 ≤ idx ∧ idx < 0x8113 then on idx
  else false

/-- Bytes of a FLOW_TX_TABLE entry whose fields are SX (Table 7-10). -/
def txSx (b : List Byte) : List Byte := b.take 2 ++ (b.drop 8).take 5 ++ (b.drop 14).take 2 ++ b.drop 17

/-- Objects a commit may not change in the present state: SX of what runs and ST while LIT, K outside KINDLING. -/
def checkChanged (s : State) (m : Tbl Val) : List CErr :=
  let keys := ((s.comm.map Prod.fst ++ m.map Prod.fst).filter (fun k => decide (objGet s.comm k ≠ objGet m k))).eraseDups
  keys.flatMap (fun k => match rowOf k with
    | none => []
    | some r => errIf ((s.litNow && (decide (r.apply = 6) || (decide (r.apply = 5) && ownerOn s.comm (keyIdx k)))) ||
        (decide (r.apply = 7) && decide (s.sys.mode ≠ .kindling))) (keyIdx k) (keySub k) 7) ++
  (if s.litNow && decide (cfgB s.comm 0x6100 1 ≠ cfgB m 0x6100 1) then
    ((flowsOn s.comm ++ (List.range 32).map (· + 4096)).filter (fun e => entryOn s.comm e)).flatMap (fun e =>
      errAt (decide (txSx (txRec s.comm e) ≠ txSx (txRec m e))) 0x6100 1 e 7)
  else [])

/-! R100. -/

def checkCouncil (s : State) (m : Tbl Val) (c : Nat) : List CErr :=
  let i := 0x4100 + c
  let ms := membersOf m c
  let root := cfg m i 3
  errIf (decide (ms ≠ []) && !(ms.contains s.myId)) i 2 0xB ++
  ((numbered ms).filter (fun e => decide (e.2 ≠ s.myId) && !s.reaches e.2)).map (fun e => ⟨i, 2, e.1, 0xB⟩) ++
  (repeats ms).map (fun j => ⟨i, 2, j, 5⟩) ++
  errIf (decide (root ≠ 0xFFFF) && !(ms.contains root)) i 3 0xB

/-- FLOW_RC_TABLE (R100, Table 3-8). -/
def checkFlowRc (m : Tbl Val) : List CErr :=
  if objGet m (key 0x4210 1) = dfltOf (key 0x4210 1) then []
  else (List.range 4096).flatMap (fun n => errAt (decide (capF m n < 64) || decide (1024 ≤ rcEntry m n)) 0x4210 1 n 5)

/-! Table 5-6a. -/

def checkPipes (m : Tbl Val) (pl : List (Nat × Nat)) : List CErr :=
  let pp := pipePlacement m pl
  ((List.range 8).flatMap (fun p =>
    if pp.2.getD p 0 ≤ pipeLimit1001 then [] else
    match (pp.1.filter (fun e => e.2.testBit p)).getLast? with
    | some e => [⟨0x3000 + e.1, 1, 0xFFFF, 0xC⟩]
    | none => [])) ++
  (let used := fun p => (chanOn m).flatMap (fun c => if (pipesIn pp.1 c).contains p
      then (List.range 16).filterMap (fun l => if scalersOf m c (pipesIn pp.1 c).length l = 0 then none else some (layerIdx c l)) else [])
   (List.range 8).flatMap (fun p =>
    if scalersUsed m pp.1 p ≤ 6 then [] else
    match (used p).getLast? with
    | some i => [⟨i, 0xB, 0xFFFF, 0xC⟩]
    | none => [])) ++
  (chanOn m).flatMap (fun c => (List.range 16).flatMap (fun l =>
    errIf (decide (scalersOf m c (pipesIn pp.1 c).length l = 3)) (layerIdx c l) 0xB 0xC))

/-- Whether a source is configured (R126). -/
def sourceOk (m : Tbl Val) (code item : Nat) : Bool :=
  if code = 1 ∨ code = 0x30 then true
  else if 0x10 ≤ code ∧ code < 0x20 then decide (cfg m (0x2100 + (code - 0x10)) 1 = 1)
  else if code = 0x20 ∨ code = 0x21 then decide (cfg m (0x2000 + (code - 0x20)) 1 = 1)
  else if code = 0x40 then decide (item < 8) && decide (cfg m (0x2190 + item) 1 = 1)
  else false

/-- Whether a library item is done (R163). -/
def State.itemReady (s : State) (n : Nat) : Bool := decide (n < 1024) && (s.item n).curDone

def checkLayer (s : State) (m : Tbl Val) (c l : Nat) : List CErr :=
  let i := layerIdx c l
  let v := layerCfg m c l
  if v 1 ≠ 1 then [] else
  let scaled := decide (v 2 ≠ 1) && decide (v 4 = 0)
  let ratio := fun (src dst : Nat) => decide (src ≠ 0) && (decide (64 * src < dst) || decide (4 * dst < src))
  let dim := fun (d : Nat) => decide (d < 2) || decide (32768 < d) || decide (d % 2 = 1)
  errIf (!sourceOk m (v 2) (v 3)) i 2 0xB ++
  errIf (decide (v 2 = 0x30) && !s.itemReady (v 3)) i 3 0xB ++
  errIf (scaled && ratio (v 7) (v 0xB)) i 7 5 ++
  errIf (scaled && ratio (v 8) (v 0xC)) i 8 5 ++
  errIf (dim (v 0xB)) i 0xB 5 ++ errIf (dim (v 0xC)) i 0xC 5 ++
  errIf (decide (v 0x11 = 0) || decide (7 < v 0x11)) i 0x11 5

def regionBad (m : Tbl Val) (c : Nat) (d : RegionDef) : Bool :=
  [d.x, d.y, d.w, d.h].any (fun v => decide (v % 8 ≠ 0)) || decide (d.w < 8) || decide (d.h < 8) ||
  decide (chan m c 3 < d.x + d.w) || decide (chan m c 4 < d.y + d.h) || decide (d.k = 0) || decide (2 < d.action)

def checkCompose (s : State) (m : Tbl Val) (c : Nat) : List CErr :=
  let i := 0x3000 + c
  let col := cfg m i 2
  let item := cfg m i 7
  let safety := (regionsOn m c).any (fun r => decide ((regionDef m c r).action = 1))
  let still := match (s.item item).cur with
    | some x => decide (x.frames = 1) && s.itemReady item
    | none => false
  errIf (decide (col = 0) || decide (6 < col)) i 2 5 ++
  errIf ((safety && !still) || (decide (item ≠ 0xFFFF) && !s.itemReady item)) i 7 0xB ++
  ((regionsOn m c).filter (fun r => regionBad m c (regionDef m c r))).map (fun r => ⟨0x3900 + c, 1, r, 5⟩) ++
  (List.range 16).flatMap (fun l => checkLayer s m c l)

/-! Table 6-6. -/

def ingestsOn (m : Tbl Val) : List Nat := (List.range 16).filter (fun i => decide (cfg m (0x2100 + i) 1 = 1))

/-- Pixel rate of an ingest stream times 1001, and its rate in bit/s times 100,100 (R156). -/
def ingestPix (m : Tbl Val) (i : Nat) : Nat :=
  cfg m (0x2100 + i) 0xC * cfg m (0x2100 + i) 0xD * rate1001 (cfg m (0x2100 + i) 0xE)
def ingestBits (m : Tbl Val) (i : Nat) : Nat := ingestPix m i * bppOf (cfg m (0x2100 + i) 0xA) (cfg m (0x2100 + i) 0xB) * 106

/-- Stove of the Flue port that a relay-in slot's frames arrive on (R150). -/
def State.slotStove (s : State) (m : Tbl Val) (r : Nat) : Nat := if (s.path (cfg m (0x2190 + r) 2)).port = 1 then 1 else 0

/-- Enabled inputs of a stove in the order of R150: input number, enable object's index, pixel rate times 1001. -/
def State.captures (s : State) (m : Tbl Val) (st : Nat) : List (Nat × Nat × Nat) :=
  ((ingestsOn m).filter (fun i => decide (portSide (cfg m (0x2100 + i) 2) = st))).map (fun i => (i, 0x2100 + i, ingestPix m i)) ++
  (if cfg m (0x2000 + st) 1 = 1 then [(16 + st, 0x2000 + st, Config.captureRate 0)] else []) ++
  ((List.range 8).filter (fun r => decide (cfg m (0x2190 + r) 1 = 1) && decide (s.slotStove m r = st))).map
    (fun r => (18 + r, 0x2190 + r, Config.captureRate 1))

/-- Capture units of a stove's inputs (R150): each goes to the unit with the least rate, the lowest number on a tie. -/
def placeCaptures (xs : List (Nat × Nat × Nat)) : List (Nat × (Nat × Nat × Nat)) :=
  xs.foldl (fun (pl : List (Nat × (Nat × Nat × Nat))) x =>
    let load := fun (u : Nat) => sumList ((pl.filter (fun e => decide (e.1 = u))).map (fun e => e.2.2.2))
    let u := [1, 2, 3].foldl (fun b v => if load v < load b then v else b) 0
    pl ++ [(u, x)]) []

def checkCapture (s : State) (m : Tbl Val) : List CErr :=
  [0, 1].flatMap (fun st =>
    let pl := placeCaptures (s.captures m st)
    (List.range 4).flatMap (fun u =>
      let here := pl.filter (fun e => decide (e.1 = u))
      if here.length ≤ 4 ∧ sumList (here.map (fun e => e.2.2.2)) ≤ 2500000000 * 1001 then [] else
      match here.getLast? with
      | some e => [⟨e.2.2.1, 1, 0xFFFF, 0xC⟩]
      | none => []))

/-- Ports, formats, and rates of ingest streams (R156, R169): two streams clash on a port, destination and UDP port; the legs of one stream
may share them (R157), and a stream with both legs on a port counts once in that port's sum (DESIGN CHOICE, assumption 110). -/
def checkIngest (m : Tbl Val) : List CErr :=
  (ingestsOn m).flatMap (fun i =>
    let o := fun (sub : Nat) => cfg m (0x2100 + i) sub
    let leg := fun (sub : Nat) (p : Nat) =>
      errIf (decide (p ≠ 0xFF) && !portCarries m p) (0x2100 + i) sub 0xF ++
      errIf (decide (p ≠ 0xFF) && portCarries m p && !portOn m p) (0x2100 + i) sub 0xB
    let col := o 0xF % 128
    let earlier := (ingestsOn m).filter (fun j => decide (j < i))
    let legs := fun (j : Nat) => [(cfg m (0x2100 + j) 2, cfg m (0x2100 + j) 4, cfg m (0x2100 + j) 6)] ++
      (if cfg m (0x2100 + j) 3 = 0xFF then [] else [(cfg m (0x2100 + j) 3, cfg m (0x2100 + j) 5, cfg m (0x2100 + j) 7)])
    let taken := earlier.flatMap legs
    leg 2 (o 2) ++ leg 3 (o 3) ++
    errIf (taken.contains (o 2, o 4, o 6)) (0x2100 + i) 4 0xB ++
    errIf (decide (o 3 ≠ 0xFF) && taken.contains (o 3, o 5, o 7)) (0x2100 + i) 5 0xB ++
    errIf (decide (col = 0) || decide (7 < col)) (0x2100 + i) 0xF 5) ++
  (List.range 10).flatMap (fun p =>
    let xs := (ingestsOn m).filter (fun i => decide (cfg m (0x2100 + i) 2 = p) || decide (cfg m (0x2100 + i) 3 = p))
    if sumList (xs.map (ingestBits m)) ≤ (if p < 2 then 320000000000 else 80000000000) * 100100 then [] else
    match xs.getLast? with
    | some i => [⟨0x2100 + i, 1, 0xFFFF, 0xC⟩]
    | none => [])

/-- The management port (R395), where it is enabled: its ports carry traffic, and no ingest leg takes its datagrams. -/
def checkMgmt (m : Tbl Val) : List CErr :=
  let ports := (List.range 10).filter (fun p => (cfg m 0x1120 3).testBit p)
  let takes := fun (p dest udp : Nat) => ports.contains p && decide (dest = port m p 4) && decide (udp = cfg m 0x1120 2)
  if cfg m 0x1120 1 ≠ 1 then [] else
  errIf (ports.any (fun p => !portCarries m p)) 0x1120 3 0xF ++
  errIf ((ingestsOn m).any (fun i =>
    let o := fun (sub : Nat) => cfg m (0x2100 + i) sub
    takes (o 2) (o 4) (o 6) || takes (o 3) (o 5) (o 7))) 0x1120 2 0xB

/-- EDID and relay-out of Table 6-6; a destination whose identity is duplicated stands in the path table all the same. -/
def checkRelay (s : State) (m : Tbl Val) : List CErr :=
  (List.range 2).flatMap (fun p => errIf (decide (cfg m (0x2000 + p) 1 = 1) && !(s.hdmi p).edidWritten) (0x2000 + p) 2 0xB) ++
  (List.range 8).flatMap (fun r =>
    let i := 0x2180 + r
    if cfg m i 1 ≠ 1 then [] else
    errIf (!sourceOk m (cfg m i 2) 0) i 2 0xB ++
    ((numbered (u16List (cfgB m i 4))).filter (fun e => !s.inPaths e.2)).map (fun e => ⟨i, 4, e.1, 0xB⟩))

/-! Table 7-7. -/

/-- Enabled entries, ascending. -/
def entries (m : Tbl Val) : List Nat := (flowsOn m ++ (List.range 32).map (· + 4096)).filter (fun e => entryOn m e)

/-- Reserved fields of an entry are 0 (Table 7-10). -/
def txReserved (c : TxCfg) : Bool := decide (c.dscp < 64) && decide (c.flags < 4) && decide (c.cls < 8)

def checkEntry (s : State) (m : Tbl Val) (e : Nat) : List CErr :=
  let c := txCfg m e
  let gc := s.gcEntry m e
  let auto := autoRate m e gc
  errAt (c.legs.any (fun p => !portCarries m p)) 0x6100 1 e 0xF ++
  errAt (c.legs.any (fun p => portCarries m p && !portOn m p) || (decide (c.portB ≠ 0xFF) && decide (portSide c.portA = portSide c.portB)) ||
    decide (c.cls = cfg m 0x6102 1)) 0x6100 1 e 0xB ++
  errAt (decide (c.rate ≠ 0) && decide (c.rate < auto)) 0x6100 1 e 0xC ++
  errAt ((decide (c.burst ≠ 0) && decide (c.burst < largestFrame m e)) || !txReserved c) 0x6100 1 e 5 ++
  (if e < 4096 then c.legs.flatMap (fun p => errIf (decide (window16Of m e < 2 * (s.gcOf p c.cls * 65536))) (0x6200 + p) 3 0xC) else [])

/-- Tail packets of a canvas on a port in its fullest stripe (R184): one for each flow with a stripe there, and the merged flow's in
the last. -/
def tailCount (m : Tbl Val) (c p : Nat) : Nat :=
  let fs := (flowsOf m c).filter (fun n => (txCfg m n).legs.contains p)
  maxList ((List.range (nStripes m c)).map (fun k =>
    (fs.filter (fun n => if flow m n 3 = 0 then !(stripesIn m n k).isEmpty else decide (k + 1 = nStripes m c))).length))

/-- Σ T(c, p) × t_tail in ps (R184). -/
def tailPs (m : Tbl Val) (p : Nat) : Nat :=
  sumList ((chanOn m).map (fun c => if chanOnPort m c p then tailCount m c p else 0)) *
    ((frameHead m p + 7 + 20) * 8000 / portGbit p)

/-- Bytes of transmit buffer that a port's entries may hold (R190). -/
def bufferBytes (s : State) (m : Tbl Val) (p : Nat) : Nat :=
  sumList ((entriesOn m p).map (fun e =>
    let sh := shaperOf m e (s.gcEntry m e)
    sh.2.1 + ceilDiv (sh.1 * max (s.gcEntry m e) 10000) 8000000))

/-- The copies of a port's gate list that a commit judges: admin and operational (R195). -/
def State.gateCopies (s : State) (p : Nat) : List GateList :=
  if s.lv (0x6200 + p) 1 = 0 then []
  else (if (s.lvb (0x6200 + p) 3).isEmpty then [] else [s.adminList p]) ++ (s.ethPort p).gate.oper.toList

def checkPort (s : State) (m : Tbl Val) (p : Nat) : List CErr :=
  if entriesOn m p = [] then [] else
  errIf (decide (980000 < tailPs m p) || decide (12 * 2 ^ 20 < bufferBytes s m p)) 0x6100 1 0xC ++
  errIf ((if s.gateCopies p = [] then [none] else (s.gateCopies p).map some).any (fun g => !openFits m p (s.gcEntry m) g)) (0x6200 + p) 3 0xC

def checkMeters (s : State) : List CErr :=
  (enabledOf s.live 0x6400 1024).flatMap (fun i =>
    let v := fun (sub : Nat) => s.lv (0x6400 + i) sub
    errIf (if v 2 < 2 then decide (v 9 ≠ 0) else decide (v 9 < v 7)) (0x6400 + i) 9 5)

/-! R221. -/

def checkTime (m : Tbl Val) : List CErr :=
  let order := (cfgB m 0x7001 1).map BitVec.toNat
  let ptpOk := fun (code : Nat) =>
    let net := (code - 1) % 2
    let p := if port m net 2 = 0 then net else 2 + 4 * net + cfg m (0x7010 + net) 6
    decide (cfg m (0x7010 + net) 1 = 1) && (cfg m (0x7010 + net) 2).testBit ((code - 1) / 2) && portOn m p
  (repeats order).map (fun j => ⟨0x7001, 1, j, 5⟩) ++
  ((numbered order).filter (fun e => decide (e.2 = 0) || decide (7 < e.2))).map (fun e => ⟨0x7001, 1, e.1, 5⟩) ++
  ((numbered order).filter (fun e => decide (1 ≤ e.2) && decide (e.2 ≤ 4) && !ptpOk e.2)).map (fun e => ⟨0x7001, 1, e.1, 0xB⟩) ++
  errIf (decide (cfg m 0x7030 3 ≠ 0xFF) && decide (chan m (cfg m 0x7030 3) 1 ≠ 1)) 0x7030 3 0xB

/-! Table 9-4. -/

/-- Rate of a code of Table 9-1 in Hz. -/
def checkAudio (m : Tbl Val) : List CErr :=
  let p := fun (i sub : Nat) => cfg m (0x7100 + i) sub
  let on := (List.range 16).filter (fun i => decide (p i 1 = 1))
  on.flatMap (fun i =>
    if i < 8 then
      let g := p i 7
      let first := (on.filter (fun j => decide (j < 8) && decide (p j 7 = g))).head?
      let same := fun (j : Nat) => decide (p j 2 = p i 2) && decide (p j 3 = p i 3) && decide (p j 8 = p i 8) &&
        (decide (p i 2 = 0) || decide (p j 6 = p i 6))
      errIf (decide (p i 4 < p i 5)) (0x7100 + i) 5 5 ++
      errIf (decide (g ≠ 0xFF) && !((first.map same).getD true)) (0x7100 + i) 7 0xB
    else errIf (decide (cfg m (0x2000 + (i - 8) / 4) 1 ≠ 1)) (0x7100 + i) 1 0xB) ++
  [1, 3].flatMap (fun sub => errIf (decide (24576000 < audioRateHz (cfg m 0x7110 sub) * cfg m 0x7110 (sub + 1))) 0x7110 (sub + 1) 5) ++
  ((List.range 32).filter (fun a => decide (cfg m (0x7120 + a) 1 = 1))).flatMap (fun a =>
    let i := 0x7120 + a
    let map := (cfgB m i 5).map BitVec.toNat
    let n := cfg m i 4
    errIf (decide (n = 0) || decide ((if cfg m i 2 = 0 then 8 else 32) < n)) i 4 5 ++
    errIf (decide (map.length ≠ n)) i 5 5 ++
    (numbered map).flatMap (fun e =>
      errAt (decide (32 ≤ e.2) && decide (e.2 ≠ 0xFF)) i 5 e.1 5 ++
      errAt (decide (e.2 < 32) && decide (p (e.2 / 2) 1 ≠ 1)) i 5 e.1 0xB))

/-! Table 10-7. -/

/-- RELAY_RATE of an entry in bit/s (R244). -/
def State.relayRate (s : State) (m : Tbl Val) (r : Nat) : Nat :=
  let i := 0x2180 + r
  let code := cfg m i 2
  let crop := cfg m i 3
  let ing := decide (code < 0x20)
  let x := s.input (code - 0x10)
  let o := fun (sub : Nat) => cfg m (0x2100 + (code - 0x10)) sub
  let w0 := if ing then o 0xC else x.w
  let h0 := if ing then o 0xD else x.h
  let cw := crop / 2 ^ 16 % 2 ^ 16
  let w := if cw = 0 then w0 else cw
  let h := if cw = 0 then h0 else crop % 2 ^ 16
  let line := w * (if ing then bppOf (o 0xA) (o 0xB) else bppOf x.samp x.depth) + 160
  if ing then line * h * rate1001 (o 0xE) / 1001 else if x.periodNs = 0 then 0 else line * h * 1000000000 / x.periodNs

/-- Rm of the twin's mirror in bit/s (R282). -/
def mirrorRate (m : Tbl Val) : Nat :=
  if cfg m 0x8210 1 = 0 then 0 else
  let shadow := if cfg m 0x8210 1 = 2 then 1 else 0
  let fs := (counted_ m).filter (fun n => (cfg m 0x8210 4).testBit (flow m n 2) && decide (flow m n 3 = 0))
  10000000 + sumList (fs.map (fun n => (1024 + 64 * shadow) * gNf m n * rate1001 (chan m (flow m n 2) 5))) / 1001

/-- Mbit/s, rounded up. -/
def mbit (v : Nat) : Nat := ceilDiv v 1000000

/-- Reservations a configuration asks of this module's own links (R244, R245, R282): one for each port of each entry's tree. -/
def State.wanted (s : State) (m : Tbl Val) : List Reserve :=
  let ports := fun (ds : List Nat) => (ds.map (fun d => (s.path d).port)).eraseDups
  (if cfg m 0x8210 1 = 0 then [] else (ports [cfg m 0x8210 2]).map (fun p => { origin := s.myId, entry := 8, port := p, rate := mbit (mirrorRate m) })) ++
  ((List.range 8).filter (fun r => decide (cfg m (0x2180 + r) 1 = 1))).flatMap (fun r =>
    (ports (u16List (cfgB m (0x2180 + r) 4))).map (fun p => { origin := s.myId, entry := r, port := p, rate := mbit (s.relayRate m r) }))

/-- Reservations as a commit leaves them: those of entries that stay enabled keep their grant, the new ones follow (R245). -/
def State.reservedBy (s : State) (m : Tbl Val) : List Reserve :=
  let want := s.wanted m
  let old := want.filter (fun r => s.flue.reserves.any (fun q => decide (q.entry = r.entry) && decide (q.port = r.port) && decide (q.rate = r.rate) && q.held))
  let fresh := want.filter (fun r => !(old.contains r))
  let dests := fun (r : Reserve) => if r.entry = 8 then [cfg m 0x8210 2] else u16List (cfgB m (0x2180 + r.entry) 4)
  s.grant dests (old.map (fun r => { r with held := true })) fresh

def checkChimney (s : State) (m : Tbl Val) : List CErr :=
  let needs := (chanOn m).any (fun c => decide (membersOf m c ≠ [])) || decide (cfg m 0x8210 1 ≠ 0) ||
    (List.range 8).any (fun r => decide (cfg m (0x2180 + r) 1 = 1) || decide (cfg m (0x2190 + r) 1 = 1))
  let lost := decide (s.myId = 0xFFFF) || decide (s.lv 0x8100 8 = 4) || decide (s.lv 0x8100 8 = 5)
  let rs := s.reservedBy m
  errIf (needs && lost) 0x8100 7 0xB ++
  ((rs.filter (fun r => !r.held)).map Reserve.entry).eraseDups.map (fun e =>
    if e = 8 then ⟨0x8210, 1, 0xFFFF, 0xC⟩ else ⟨0x2180 + e, 1, 0xFFFF, 0xC⟩) ++
  (List.range 3).flatMap (fun p => errIf (decide (cfg m (0x8110 + p) 1 = 0) && rs.any (fun r => decide (r.port = p))) (0x8110 + p) 1 0xB)

/-! Table 11-6. -/

def checkPairs (s : State) (m : Tbl Val) (pl : List (Nat × Nat)) : List CErr :=
  if cfg m 0x8200 1 = 0 then [] else
  let side := cfg m 0x8200 2
  errIf ((List.range 4).any (fun i =>
    let active := i + 4 * (side / 2 ^ i % 2)
    decide (s.lv (0xC010 + otherSide active) 2 * 1001 < placedRate m pl active))) 0x8200 2 0xC ++
  errIf (s.litNow && (List.range 4).any (fun i => decide (side.testBit i ≠ (s.lv 0x8200 3).testBit i) && decide (s.pairState i ≠ 1))) 0x8200 2 7

/-- Sources that do not give both twins the same latched frame (Table 11-6). -/
def State.unsharedSource (s : State) (m : Tbl Val) (c l : Nat) : Bool :=
  let code := layerCfg m c l 2
  let item := layerCfg m c l 3
  decide (layerCfg m c l 1 = 1) &&
  (decide (code = 0x20 ∨ code = 0x21) ||
   (decide (0x10 ≤ code) && decide (code < 0x20) && decide (cfg m (0x2100 + (code - 0x10)) 0x11 = 0)) ||
   (decide (code = 0x40) && decide (cfg m (0x2190 + item) 4 = 0)) ||
   (decide (code = 0x30) && decide (s.itemObj item 0xB = 0)))

def checkTwin (s : State) (m : Tbl Val) : List CErr :=
  if cfg m 0x8210 1 = 0 then [] else
  let id := cfg m 0x8210 2
  let cs := (List.range 16).filter (fun c => (cfg m 0x8210 4).testBit c)
  errIf (s.litNow && decide (cfg m 0x8210 3 ≠ s.lv 0x8210 7) && decide (s.lv 0x8210 8 ≠ 1)) 0x8210 3 7 ++
  errIf (decide (id = s.myId) || !s.reaches id) 0x8210 2 0xB ++
  errIf (s.reaches id && decide (28 < (s.path id).hops)) 0x8210 2 5 ++
  errIf (cs.any (fun c => decide (chan m c 1 ≠ 1))) 0x8210 4 0xB ++
  (cs.filter (fun c => decide (chan m c 1 = 1))).flatMap (fun c =>
    errIf (!((membersOf m c).contains s.myId) || !((membersOf m c).contains id)) (0x4100 + c) 2 0xB ++
    (if cfg m 0x8210 1 = 2 then (List.range 16).flatMap (fun l => errIf (s.unsharedSource m c l) (layerIdx c l) 2 0xF) else []))

/-! Table 12-9. -/

/-- Own address bit of each mask's field (R293). -/
def maskOwn : List Nat := [0xC, 0xD, 0xE, 0xF, 0x10, 0x11, 0x12]

def maskOk (own v : Nat) : Bool :=
  let bs := (List.range 8).map (fun i => v / 256 ^ i % 256)
  let named := (bs.drop 1).filter (fun b => decide (b ≠ 0xFF))
  decide (bs.headD 0 = own) && named.all (fun b => (decide (6 ≤ b) && decide (b ≤ 11)) || (decide (19 ≤ b) && decide (b ≤ 34))) &&
    (repeats named).isEmpty

/-- Samples of a pixel, times 2: 4:2:0 3, 4:2:2 4, 4:4:4 6. -/
def samples2 (chroma : Nat) : Nat := if chroma = 0 then 3 else 4

/-- Stove of a channel's composed canvas: that of its lowest pipe. -/
def canvasStove (pp : List (Nat × Nat)) (c : Nat) : Nat := ((pipesIn pp c).head?.getD 0) / 4

/-- Bytes of a source pixel times 4 in DRAM, as captured or as the library holds it (Tables 6-4, 12-6). -/
def sourceBytes4 (s : State) (m : Tbl Val) (code item : Nat) : Nat :=
  if 0x10 ≤ code ∧ code < 0x20 then
    let samp := cfg m (0x2100 + (code - 0x10)) 0xA
    if samp = 1 then 16 else if samp = 3 then 12 else 24
  else if code = 0x30 then
    (match (s.item item).cur with
    | some x => 8 * samplesPerPixel x.format
    | none => 32)
  else
    let samp := (s.input (if code = 0x40 then 18 + item else code - 0x10)).samp
    if samp = 1 then 16 else if samp = 3 then 12 else 24

/-- Crop of a layer at a commit (R299): the output rectangle where the source's size is unknown. -/
def cropArea (s : State) (m : Tbl Val) (c l : Nat) : Nat :=
  let v := layerCfg m c l
  let code := v 2
  let full := if 0x10 ≤ code ∧ code < 0x20 then some (cfg m (0x2100 + (code - 0x10)) 0xC, cfg m (0x2100 + (code - 0x10)) 0xD)
    else if code = 0x30 then (s.item (v 3)).cur.map (fun x => (x.w, x.h)) else none
  let side := fun (size start : Nat) (whole : Option Nat) (out : Nat) =>
    if size ≠ 0 then size else match whole with | some w => w - start | none => out
  side (v 7) (s.lv (layerIdx c l) 5) (full.map Prod.fst) (v 0xB) * side (v 8) (s.lv (layerIdx c l) 6) (full.map Prod.snd) (v 0xC)

/-- Where the demand of a layer fetch falls: the stove that holds its source. -/
def State.fetchStove (s : State) (m : Tbl Val) (code item : Nat) : Nat :=
  if 0x10 ≤ code ∧ code < 0x20 then portSide (cfg m (0x2100 + (code - 0x10)) 2)
  else if code = 0x20 then 0 else if code = 0x21 then 1
  else if code = 0x40 then s.slotStove m item
  else ((s.item item).cur.map ItemCopy.stove).getD 0

/-- What coding the flows of a placement demands of a stove, in 1/(12 × 1001) B/s: canvas reads where the canvas lies, reconstruction
writes, reference reads, and `outs` passes of coded data over the output buffers. -/
def codedDemand (m : Tbl Val) (pp pl : List (Nat × Nat)) (outs st : Nat) : Nat :=
  sumList (pl.map (fun p =>
    let read := pix1001 m p.1 * samples2 (chan m (flow m p.1 2) 6) * 8
    (if canvasStove pp (flow m p.1 2) = st then read else 0) +
      (if p.2 / 4 = st then read + read * 5 / 4 + outs * flow m p.1 4 * 1000 * 12 * 1001 / 8 else 0)))

/-- The standbys that code in PAIRED-SHADOW, on the other stove (R267). -/
def shadowsOf (m : Tbl Val) (pl : List (Nat × Nat)) : List (Nat × Nat) :=
  if cfg m 0x8200 1 = 2 then pl.map (fun p => (p.1, otherSide p.2)) else []

/-- DRAM demand of a stove in B/s (R299, Table 12-6), rounded down. -/
def State.dramDemand (s : State) (m : Tbl Val) (pl : List (Nat × Nat)) (st : Nat) : Nat :=
  let pp := (pipePlacement m pl).1
  let capture := sumList ((ingestsOn m).map (fun i => if portSide (cfg m (0x2100 + i) 2) = st
    then ingestPix m i * sourceBytes4 s m (0x10 + i) 0 * 3 else 0))
  let perChan := sumList ((chanOn m).map (fun c =>
    let r := rate1001 (chan m c 5)
    let layers := sumList ((List.range 16).map (fun l =>
      let code := layerCfg m c l 2
      if layerCfg m c l 1 = 1 ∧ code ≠ 1 ∧ s.fetchStove m code (layerCfg m c l 3) = st
      then cropArea s m c l * r * sourceBytes4 s m code (layerCfg m c l 3) * 3 else 0))
    let write := if canvasStove pp c = st then compRate1001 m c * (samples2 (chan m c 6) * 8 + 16) else 0
    layers + write))
  (capture + perChan + codedDemand m pp pl 2 st + codedDemand m pp (shadowsOf m pl) 1 st) / (12 * 1001)

/-- Bytes allocated in the DRAM of a stove (R292). -/
def State.dramUse (s : State) (m : Tbl Val) (pl : List (Nat × Nat)) (st : Nat) : Nat :=
  let pp := (pipePlacement m pl).1
  let inputs := sumList ((s.captures m st).map (fun e =>
    if e.1 < 16 then
      let o := fun (sub : Nat) => cfg m (0x2100 + e.1) sub
      o 0x14 * (o 0xC * o 0xD * sourceBytes4 s m (0x10 + e.1) 0 / 4)
    else Config.inputBytes (if e.1 < 18 then 0 else 1) (if e.1 < 18 then cfg m (0x2000 + (e.1 - 16)) 5 else cfg m (0x2190 + (e.1 - 18)) 6)))
  let canvases := sumList (((chanOn m).filter (fun c => decide (canvasStove pp c = st))).map (fun c =>
    Config.canvasBytes [(window m c).w, (window m c).h, chan m c 6]))
  let flows := sumList (((pl ++ shadowsOf m pl).filter (fun p => decide (p.2 / 4 = st))).map (fun p =>
    Config.flowBytes [flow m p.1 7, flow m p.1 8, chan m (flow m p.1 2) 6, flow m p.1 4, chan m (flow m p.1 2) 5]))
  inputs + canvases + flows + cfg m 0x2300 1 * 2 ^ 29 + 256 * 2 ^ 20

/-! The die bridge (R21): what a configuration may have it carry in a direction, for the rows of Table 1-4 that other limits do not
keep already. Row 2 is kept by the rate of the port the copies leave on (R192), row 6 by the paired modes' allocatable rate (R13). Which
configuration of a row counts what, and the object an excess is listed against, are the model's choice (assumption 109). -/

/-- A configured pixel rate times 1001 and a number of bits make a rate in bit/s, rounded up. -/
def bits1001 (rate1001 bits : Nat) : Nat := ceilDiv (rate1001 * bits) 1001

/-- Whether a channel is composed in some band on the stove that is not `st`. -/
def composedOff (pp : List (Nat × Nat)) (c st : Nat) : Bool := (pipesIn pp c).any (fun p => decide (p / 4 ≠ st))

/-- Whether an enabled layer of a channel composed away from stove `st` shows a source. -/
def shownOff (m : Tbl Val) (pp : List (Nat × Nat)) (code item st : Nat) : Bool :=
  (chanOn m).any (fun c => composedOff pp c st && (List.range 16).any (fun l => decide (layerCfg m c l 1 = 1) &&
    decide (layerCfg m c l 2 = code) && (decide (code < 0x30) || decide (layerCfg m c l 3 = item))))

/-- Row 1, the same in each direction: a summary and a broadcast of one cell each in every stripe period for each member beyond the other stove's Flue port. -/
def State.bridgeRow1 (s : State) (m : Tbl Val) (pl : List (Nat × Nat)) : Nat :=
  sumList (((chanOn m).filter (fun c => !soloIn m s.myId c)).map (fun c =>
    let here := (((pl.filter (fun p => decide (flow m p.1 2 = c))).map Prod.snd).foldl min 7) / 4
    let far := (membersOf m c).filter (fun id => decide (id ≠ s.myId) && decide ((if (s.path id).port = 1 then 1 else 0) ≠ here))
    far.length * (256 * 8) * ceilDiv 1000000000000 (max 1 (stripePs m c))))

/-- Row 3: relayed pictures that leave on a Flue port of the other stove. -/
def State.bridgeRow3 (s : State) (m : Tbl Val) (st : Nat) : Nat :=
  sumList (((s.wanted m).filter (fun r => decide (r.entry < 8))).map (fun r =>
    let code := cfg m (0x2180 + r.entry) 2
    let from_ := if code < 0x20 then portSide (cfg m (0x2100 + (code - 0x10)) 2) else code - 0x20
    if from_ = st ∧ (if r.port = 1 then 1 else 0) ≠ st then r.rate * 1000000 else 0))

/-- Row 4: leg B packets that arrive on the other stove (R150), and pictures of streams, HDMI sinks and relay-in slots captured on `st`
that a layer shows on the other stove. -/
def State.bridgeRow4 (s : State) (m : Tbl Val) (pp : List (Nat × Nat)) (st : Nat) : Nat :=
  sumList ((ingestsOn m).map (fun i =>
    let a := portSide (cfg m (0x2100 + i) 2)
    let b := cfg m (0x2100 + i) 3
    let legB := if b ≠ 0xFF ∧ portSide b ≠ a ∧ portSide b = st then ceilDiv (ingestBits m i) 100100 else 0
    legB + (if a = st ∧ shownOff m pp (0x10 + i) 0 a then bits1001 (ingestPix m i) (bppOf (cfg m (0x2100 + i) 0xA) (cfg m (0x2100 + i) 0xB)) else 0))) +
  (if cfg m (0x2000 + st) 1 = 1 ∧ shownOff m pp (0x20 + st) 0 st then bits1001 (Config.captureRate 0) 36 else 0) +
  sumList ((List.range 8).map (fun r =>
    if cfg m (0x2190 + r) 1 = 1 ∧ s.slotStove m r = st ∧ shownOff m pp 0x40 r st then bits1001 (Config.captureRate 1) 36 else 0))

/-- Row 5: composed canvases read by hearths on the far stove. -/
def bridgeRow5 (m : Tbl Val) (pl pp : List (Nat × Nat)) (st : Nat) : Nat :=
  sumList (pl.map (fun p => if p.2 / 4 ≠ st ∧ canvasStove pp (flow m p.1 2) = st
    then bits1001 (pix1001 m p.1) (5 * samples2 (chan m (flow m p.1 2) 6)) else 0))

/-- Row 7: library pictures held on `st` that layers show on the other stove. -/
def State.bridgeRow7 (s : State) (m : Tbl Val) (pp : List (Nat × Nat)) (st : Nat) : Nat :=
  sumList (((chanOn m).filter (fun c => composedOff pp c st)).map (fun c => sumList ((List.range 16).map (fun l =>
    let item := layerCfg m c l 3
    if layerCfg m c l 1 = 1 ∧ layerCfg m c l 2 = 0x30 ∧ s.fetchStove m 0x30 item = st
    then bits1001 (cropArea s m c l * rate1001 (chan m c 5)) (2 * sourceBytes4 s m 0x30 item) else 0))))

/-- The last of a list as an error against one of its objects. -/
def lastOf (bad : Bool) (xs : List Nat) (idx : Nat → Nat) (sub : Nat) : List CErr :=
  match xs.getLast? with
  | some x => errIf bad (idx x) sub 0xC
  | none => []

/-- The rows of Table 1-4 judged for each direction (R21, assumption 109). -/
def checkBridge (s : State) (m : Tbl Val) (pl : List (Nat × Nat)) : List CErr :=
  let pp := (pipePlacement m pl).1
  [0, 1].flatMap (fun st =>
    lastOf (decide (4000000000 < s.bridgeRow1 m pl)) ((chanOn m).filter (fun c => !soloIn m s.myId c)) (0x4100 + ·) 2 ++
    lastOf (decide (200000000000 < s.bridgeRow3 m st)) ((List.range 8).filter (fun r => decide (cfg m (0x2180 + r) 1 = 1))) (0x2180 + ·) 1 ++
    lastOf (decide (320000000000 < s.bridgeRow4 m pp st))
      (((ingestsOn m).map (0x2100 + ·)) ++ ([0, 1].map (0x2000 + ·)).filter (fun i => decide (cfg m i 1 = 1)) ++
        ((List.range 8).map (0x2190 + ·)).filter (fun i => decide (cfg m i 1 = 1))) id 1 ++
    lastFlow (decide (240000000000 < bridgeRow5 m pl pp st)) (pl.map Prod.fst) ++
    lastOf (decide (16000000000 < s.bridgeRow7 m pp st))
      ((chanOn m).flatMap (fun c => ((List.range 16).map (layerIdx c)).filter (fun i => decide (cfg m i 1 = 1) && decide (cfg m i 2 = 0x30)))) id 3)

/-- A channel without a usable rank (R289, R401). -/
def State.rankMissing (s : State) (ch : Nat) : Bool := !(s.sys.dramUsable.testBit ch) || (s.dramCh ch).out

def checkMemory (s : State) (m : Tbl Val) (pl : List (Nat × Nat)) : List CErr :=
  (numbered maskOwn).flatMap (fun e => errIf (!maskOk e.2 (cfg m 0x8001 (1 + e.1))) 0x8001 (1 + e.1) 5) ++
  (if [0, 1].any (fun st => decide (2 ^ 35 < s.dramUse m pl st)) then
    (if cfg m 0x2300 1 ≠ 0 then [⟨0x2300, 1, 0xFFFF, 0xC⟩]
     else match (chanOn m).getLast? with
      | some c => [⟨0x4000 + c, 1, 0xFFFF, 0xC⟩]
      | none => [])
  else []) ++
  errIf ([0, 1].any (fun st => decide (cfg m 0x8000 3 * 2304000000 < s.dramDemand m pl st))) 0x8000 3 0xC ++
  errIf ((List.range 8).any (fun ch => s.rankMissing ch)) 0x8000 8 0xC

/-! All of them. -/

/-- Whether one error is listed before another (R409): index, subindex, entry, then code. -/
def CErr.before (a b : CErr) : Bool :=
  decide (a.idx * 2 ^ 32 + a.sub * 2 ^ 24 + a.entry * 2 ^ 8 + a.code ≤ b.idx * 2 ^ 32 + b.sub * 2 ^ 24 + b.entry * 2 ^ 8 + b.code)

/-- Every inconsistency of a configuration (R408), in the order of R409. -/
def State.inconsistent (s : State) (m : Tbl Val) : List CErr :=
  let pl := placement m (s.kept m)
  let all := (chanOn m).flatMap (fun c => checkChannel s m c ++ checkMerge s m c ++ checkCouncil s m c ++ checkCompose s m c) ++
    (flowsOn m).flatMap (checkFlow m) ++ checkLimits s m pl ++ checkPortRate s m ++ checkChanged s m ++ checkFlowRc m ++
    checkPipes m pl ++ checkCapture s m ++ checkBridge s m pl ++ checkIngest m ++ checkMgmt m ++ checkRelay s m ++
    (entries m).flatMap (checkEntry s m) ++ (List.range 10).flatMap (checkPort s m) ++ checkMeters s ++ checkTime m ++ checkAudio m ++
    checkChimney s m ++ checkPairs s m pl ++ checkTwin s m ++ checkMemory s m pl
  all.eraseDups.mergeSort CErr.before

/-- What validation finds (R408): COMMIT_REQ against the count of writes first, and alone. -/
def State.commitErrors (s : State) (req : Nat) (m : Tbl Val) : List CErr :=
  if req ≠ s.lv 0x1F00 9 then [⟨0x1F00, 1, 0xFFFF, 0xB⟩]
  else
    let missing := errIf (!s.sys.everAccepted && !s.sys.wearWritten) 0x1F20 1 0xB
    (s.inconsistent m ++ missing).mergeSort CErr.before

/-- An error record (Table 17-5). -/
def CErr.bytes (e : CErr) : List Byte := leBytes 1 e.code ++ leBytes 1 e.sub ++ leBytes 2 e.idx ++ leBytes 2 0 ++ leBytes 2 e.entry

end Sys2Proof.Machine
end

