-- ==== Sys2Proof/Machine/ChimneyCmd.lean ====
section
/-!
DEFINITION. The chimney's commands (chapter "The chimney and Flue links"): link bring-up, lanes and loss (R236 to R240),
frames and broadcasts (R243, R252, R258, R259), adverts and duplicates (R250, R251), enumeration (R248, R249).
-/
namespace Sys2Proof.Machine

/-- Initiator and domain of a Flue port's events. -/
def flueEv (p b acc : Nat) : Ev := { source := src 4 b, dom := domFlue p, init := blockInit (if p = 1 then 1 else 0) 46, access := acc }

/-- Whether the Flue domains run and a port is enabled (R238, R262). -/
def State.flueServes (s : State) (p : Nat) : Bool :=
  decide (s.sys.boot = .pll ∨ s.sys.boot = .up) && decide (s.sys.mode ≠ .banked) && decide (s.sys.mode ≠ .cold) && decide (s.cm (0x8110 + p) 1 = 1)

/-! Lanes (R236, R239). -/

/-- LANES of a port. -/
def State.showLanes (s : State) (p : Nat) : State := s.setN (0x8110 + p) 3 ((s.link p).active + 16 * (s.link p).spare)

def laneCount (b : Nat) : Nat := (List.range 3).foldl (fun n l => if b.testBit l then n + 1 else n) 0

/-- A link event's consequences (R246, R251): adverts, paths, reservations, time. -/
def State.linkEvent (s : State) : State :=
  let s := s.sendAdvert.repath
  (s.reReserve s.reserveDests).reselect.showFlueTime

/-- A port's state and capacity follow its lanes; a change of capacity is a link event. -/
def State.showCapacity (s : State) (p : Nat) : State :=
  let n := laneCount (s.link p).active
  let s := (s.setN (0x8110 + p) 2 (if n = 1 then 4 else 3)).setN (0x8110 + p) 0xE (100000 * n)
  s.linkEvent

/-- The link delay is measured again, and samples are discarded for 10 ms. -/
def State.remeasure (s : State) (p : Nat) : State :=
  s.updLink p (fun x => { x with delays := [], remeasure := s.now + tuMs 10, good := 0 })

/-- An active lane moved to the spare, which then is none. -/
def State.moveLane (s : State) (p lane : Nat) : State :=
  let x := s.link p
  let act_ := setBit (setBit x.active lane false) x.spare true
  let s := s.updLink p (fun y => { y with active := act_, spare := 3 })
  ((s.showLanes p).inc (0x8110 + p) 0xA).remeasure p

/-- A link declared down (R240): it returns through bring-up. -/
def State.dropLink (s : State) (p : Nat) (signal : Bool) : State :=
  let was := s.linkUp p
  let s := s.updLink p (fun x => { ({} : Link) with retired := x.retired, signal := signal })
  let s := (s.setN (0x8110 + p) 2 (if s.cm (0x8110 + p) 1 = 0 then 0 else if signal then 2 else 1)).showLanes p
  let s := ((s.setN (0x8110 + p) 4 0xFFFF).setN (0x8110 + p) 5 0xFF).setN (0x8110 + p) 0xE 0
  let s := s.updFlue (fun x => { x with relayQ := x.relayQ.filter (fun e => e.1 ≠ p) })
  if was then ((s.inc (0x8110 + p) 0xD).raise (flueEv p (3 + p) 6)).linkEvent else s.chimneyState

/-- A lane is retired (R239): by LANE_RETIRE, the wear monitor or the wear record. False where there is no spare. -/
def State.retireLane (s : State) (p lane : Nat) : State × Bool :=
  let x := s.link p
  if x.spare = 3 then (s, false)
  else
    let s := s.updLink p (fun y => { y with retired := setBit y.retired lane true })
    if x.active.testBit lane then (((s.moveLane p lane).raise (flueEv p (6 + p) 6)), true)
    else if x.spare = lane then ((s.updLink p (fun y => { y with spare := 3 })).showLanes p, true)
    else (s, true)

/-- FLUE_TRAINING_DONE (R236, R238, Table 10-1): `lanes` are the lanes that trained. -/
def execFlueTrainingDone (t : Nat) (port : Fin 3) (lanes : Nat) (peer : LinkPeer) (delayPs : Nat) (s : State) : Host.Outcome State Fault Refusal :=
  act t (fun s =>
    let p := port.val
    if !s.flueServes p || s.linkUp p || (s.link p).trainedAt.isSome then s else
    let ok := (List.range 3).filter (fun l => lanes.testBit l && !(s.link p).retired.testBit l)
    if ok = [] then
      let s := s.updLink p (fun x => { x with signal := true, trained := 0, retryAt := some (s.now + tuMs 500) })
      (s.setN (0x8110 + p) 2 2).cond (flueEv p p 6) true
    else
      let held := peer.excess || decide (peer.serial = s.serial)
      let active := (ok.take 2).foldl (fun a l => a + 2 ^ l) 0
      let s := s.updLink p (fun x => { x with
        signal := true, trained := lanes % 8, active := active, spare := ((ok.drop 2).head?).getD 3, peer := some (peer.serial, peer.id, peer.port),
        peerExcess := peer.excess, trainedAt := some s.now, retryAt := none, delays := [((delayPs * 65536 + 500) / 1000 : Nat)], offer := none, good := 0 })
      let s := s.cond (flueEv p p 6) false
      let s := (s.setN (0x8110 + p) 2 (if held then 5 else 2)).showLanes p
      ((s.setN (0x8110 + p) 4 (if peer.id < 1024 then peer.id else 0xFFFF)).setN (0x8110 + p) 5 peer.port).setN (0x8110 + p) 6 delayPs) s

/-- FLUE_TRAINING_RETRY (R238): with signal present, training starts again after 500 ms. -/
def execFlueTrainingRetry (t : Nat) (port : Fin 3) (s : State) : Host.Outcome State Fault Refusal :=
  act t (fun s =>
    match (s.link port).retryAt with
    | some m => if s.flueServes port && decide (m ≤ s.now) then (s.updLink port (fun x => { x with retryAt := none })).setN (0x8110 + port) 2 2 else s
    | none => s) s

/-- FLUE_LINK_ADMIT (R238, R251): after LINK_HOLD. -/
def execFlueLinkAdmit (t : Nat) (port : Fin 3) (s : State) : Host.Outcome State Fault Refusal :=
  act t (fun s =>
    let p := port.val
    match (s.link p).trainedAt with
    | some m =>
      if s.flueServes p && !(s.link p).admitted && decide (s.linkState p = 2) && decide (m + tuMs (s.lv 0x8100 0xA) ≤ s.now) then
        (s.updLink p (fun x => { x with admitted := true })).showCapacity p
      else s
    | none => s) s

/-- FLUE_LINK_DOWN (R240). -/
def execFlueLinkDown (t : Nat) (port : Fin 3) (s : State) : Host.Outcome State Fault Refusal :=
  act t (fun s => if (s.link port).trainedAt.isSome then s.dropLink port false else s) s

/-- LANE_SER_EXCEEDED (R239): the second's symbol error ratio, per 10^12 symbols, of one lane. -/
def execLaneSerExceeded (t : Nat) (port : Fin 3) (lane : Fin 3) (ser : Nat) (s : State) : Host.Outcome State Fault Refusal :=
  act t (fun s =>
    let p := port.val
    if !s.linkUp p then s else
    let b := s.lvb (0x8110 + p) 7
    let s := s.setB (0x8110 + p) 7 ((List.range 3).flatMap (fun l => leBytes 4 (if l = lane.val then min ser 0xFFFFFFFF else fieldAt b (4 * l + 3) (4 * l))))
    if decide (s.lv (0x8110 + p) 8 < ser) && (s.link p).active.testBit lane && decide ((s.link p).spare ≠ 3) then
      (s.moveLane p lane).raise (flueEv p (6 + p) 6)
    else s) s

/-- LANE_LOST (R239): the spare takes its place, or the link runs on one lane; with no lane left it is down (R240). -/
def execLaneLost (t : Nat) (port : Fin 3) (lane : Fin 3) (s : State) : Host.Outcome State Fault Refusal :=
  act t (fun s =>
    let p := port.val
    let x := s.link p
    if !s.linkUp p then s
    else if x.spare = lane.val then (s.updLink p (fun y => { y with spare := 3 })).showLanes p
    else if !x.active.testBit lane then s
    else if x.spare ≠ 3 then (s.moveLane p lane).raise (flueEv p (6 + p) 6)
    else
      let left := setBit x.active lane false
      if left = 0 then s.dropLink p true
      else
        let s := (s.updLink p (fun y => { y with active := left })).showLanes p
        (s.showCapacity p).raise (flueEv p (6 + p) 6)) s

/-! Frames and broadcasts (R243, R250, R252, R258, R259). -/

/-- The abort answer of a module for a Granil request it cannot forward (R258, R380). -/
def abortFrame (b : List Byte) (code id : Nat) : List Byte :=
  let op := (b.getD 0 0).toNat
  let fl := (b.getD 1 0).toNat % 4
  granilFrame 0xBF fl (fieldAt b 3 2) (fieldAt b 4 4) (fieldAt b 7 7)
    (if fl % 2 = 1 then some { dest := id, via := 0xFF, session := (b.getD 8 0).toNat } else none) (leBytes 1 code ++ leBytes 1 op)

/-- FLUE_FRAME_RX (R243, R258): CRC check, and forwarding by the path table; link control brings class 4 credit; a frame for this
module does what its own command says. -/
def execFlueFrameRx (t : Nat) (port : Fin 3) (frame : FlueFrame) (crcOk : Bool) (s : State) : Host.Outcome State Fault Refusal :=
  act t (fun s =>
    if !s.linkUp port then s else
    let s := s.updLink port (fun x => { x with badRun := 0 })
    let transit := decide (frame.dest ≠ s.myId ∧ frame.dest ≠ 0xFFFF ∧ frame.dest ≠ 0xFFFE)
    let s := if frame.cls = 4 ∧ (crcOk = false ∨ transit = true) then s.giveCredit port else s
    if !crcOk then s.inc (0x8110 + port) 0x12
    else if frame.typ = 1 ∧ frame.dest = 0xFFFE then s.updLink port (fun x => { x with credit := min 64 (x.credit + frame.pay.headD 0) })
    else if frame.dest = s.myId ∨ frame.dest = 0xFFFF ∨ frame.dest = 0xFFFE ∨ frame.typ = 0x30 then s
    else if s.flue.dups.contains frame.dest || !s.forwards frame then s
    else if s.reaches frame.dest then s.flueTo (hopOn frame)
    else if frame.typ = 0x40 ∧ frame.pay.headD 0 < 0x80 then
      let b := frame.pay.map (BitVec.ofNat 8)
      let a := abortFrame b 0xE s.myId
      s.flueTo { dest := frame.src, src := s.myId, cls := 4, typ := 0x40, pay := a.map BitVec.toNat, len := a.length }
    else s) s

/-- BROADCAST_FRAME_RX (R252, R259): accepted from the path table's port, flooded on; Granil broadcasts other than
segmented writes of FIRMWARE_IMAGE are counted and discarded. -/
def execBroadcastFrameRx (t : Nat) (port : Fin 3) (frame : FlueFrame) (s : State) : Host.Outcome State Fault Refusal :=
  act t (fun s =>
    if !s.linkUp port || decide (frame.dest ≠ 0xFFFF) || decide ((s.path frame.src).port ≠ port.val) then s else
    let b := frame.pay.map (BitVec.ofNat 8)
    let seg := [0x30, 0x31, 0x32].contains (frame.pay.headD 0) && decide (fieldAt b 3 2 = 0x1F10) && decide (fieldAt b 4 4 = 1)
    let s := if frame.typ = 0x40 && !seg then (s.giveCredit port).inc 0x8100 0x11 else s
    if s.forwards frame then s.flood (hopOn frame) port else s) s

/-! Adverts (R250, R251). -/

/-- An advert of another module taken: its ports, and whether it shows a second serial number for an identity. A change of a link's
capacity has the entries reserved again (R246). -/
def State.takeAdvert (s : State) (p : Nat) (f : FlueFrame) : State :=
  let was := s
  let a : Advert := { serial := f.pay.getD 0 0, neigh := (f.pay.drop 1).take 3, cap := (f.pay.drop 4).take 3 }
  let clash := if f.src = s.myId then decide (a.serial ≠ s.serial)
    else match s.flue.adverts.get none f.src with
      | some b => decide (b.serial ≠ a.serial)
      | none => false
  if f.src = s.myId ∧ !clash then s else
  let s := if clash then s.updFlue (fun x => { x with
      dups := if x.dups.contains f.src then x.dups else x.dups ++ [f.src], dupSeen := x.dupSeen.put 0 f.src s.now }) else s
  let s := s.updFlue (fun x => { x with adverts := x.adverts.put none f.src (some a) })
  let s := if f.hops = 0 then
      (s.updLink p (fun x => { x with peer := x.peer.map (fun q => (q.1, f.src, q.2.2)) })).setN (0x8110 + p) 4 f.src
    else s
  let caps := fun (s : State) => (s.flue.adverts.get none f.src).map Advert.cap
  (if caps was = caps s then s.repath else s.repath.reReserve s.reserveDests).dupCond

/-- TOPOLOGY_ADVERT_RX (R251, R252). -/
def execTopologyAdvertRx (t : Nat) (port : Fin 3) (frame : FlueFrame) (s : State) : Host.Outcome State Fault Refusal :=
  act t (fun s =>
    let known := decide ((s.path frame.src).hops ≠ 0xFFFF)
    let own := decide (frame.src = s.myId)
    if !s.linkUp port || decide (frame.typ ≠ 3) || decide (1024 ≤ frame.src) ||
        (known && !own && decide (frame.hops ≠ 0) && decide ((s.path frame.src).port ≠ port.val)) then s else
    let s := s.takeAdvert port frame
    if own || !s.forwards frame then s else s.flood (hopOn frame) port) s

/-- TOPOLOGY_ADVERT_TIMER (R251): every 100 ms; a duplicate that no advert has shown for three of them is over. -/
def execTopologyAdvertTimer (t : Nat) (s : State) : Host.Outcome State Fault Refusal :=
  act t (fun s =>
    if !s.isUp || decide (s.now < s.flue.advertAt + tuMs 100) then s else
    let gone := s.flue.dups.filter (fun i => decide (s.flue.dupSeen.get 0 i + tuMs 300 ≤ s.now))
    let s := if gone = [] then s
      else ((s.updFlue (fun x => { x with dups := x.dups.filter (fun i => !gone.contains i),
                                          dupSeen := gone.foldl (fun m i => m.put 0 i 0) x.dupSeen })).repath).dupCond
    s.sendAdvert) s

/-! Enumeration (R248, R249). -/

/-- The identity a module takes in a pass: none where none remains. -/
def pickId (serial base : Nat) (table : List (Nat × Nat)) (given : List Nat) : Option Nat :=
  match table.find? (fun e => e.1 = serial) with
  | some e => some e.2
  | none => ((List.range (1024 - base)).map (· + base)).find? (fun i => !given.contains i && !(table.any (fun e => e.2 = i)))

/-- This module takes an identity. -/
def State.takeId (s : State) (id : Nat) : State :=
  (((s.setN 0x8100 7 id).chimneyState).sendAdvert).repath

/-- This module is numbered in a pass, where it is to be; the identities given after it. -/
def State.numberMe (s : State) (base : Nat) (table : List (Nat × Nat)) (given : List Nat) : State × List Nat :=
  if s.myId < 1024 then (s, if given.contains s.myId then given else given ++ [s.myId])
  else if s.lv 0x8100 1 = 0 then (s, given)
  else match pickId s.serial base table given with
    | some id => (s.takeId id, given ++ [id])
    | none => ((s.updFlue (fun x => { x with excess := true })).chimneyState, given)

/-- An enumeration frame: kind 0 visits, 1 returns, 2 returns from an excess module. -/
def enumFrame (kind : Nat) (e : EnumSt) (me : Nat) : FlueFrame :=
  { dest := 0xFFFE, src := me, cls := 4, typ := 0x41,
    pay := [kind, e.pass.1, e.pass.2, e.base, e.given.length] ++ e.given ++ [e.table.length] ++ e.table.flatMap (fun x => [x.1, x.2]) }

def pairsOf : List Nat → List (Nat × Nat)
  | a :: b :: rest => (a, b) :: pairsOf rest
  | _ => []

/-- The pass goes on: the next port, or back to where it came from. -/
def State.enumNext (s : State) (e : EnumSt) : State :=
  match e.todo with
  | p :: rest =>
    let s := s.updFlue (fun x => { x with enumSt := some { e with todo := rest } })
    (s.flueOn p (enumFrame 0 e s.myId)).chimneyState
  | [] =>
    let s := (s.updFlue (fun x => { x with enumSt := none })).chimneyState
    if e.parent < 3 then s.flueOn e.parent (enumFrame 1 e s.myId) else s

/-- ENUM_TABLE as pairs of serial number and identity (Table 10-11). -/
def enumTable (b : List Byte) : List (Nat × Nat) :=
  (List.range (b.length / 16)).map (fun i => (fieldAt b (16 * i + 7) (16 * i), fieldAt b (16 * i + 9) (16 * i + 8)))

/-- Identities held at the start of a pass: by modules whose adverts, or whose link control, show them. -/
def State.heldIds (s : State) : List Nat :=
  (s.flue.paths.filter (fun e => decide (e.2.hops ≠ 0xFFFF)) |>.map Prod.fst) ++ (List.range 3).filterMap s.peerId ++ (if s.lv 0x8100 1 = 0 ∧ s.lv 0x8100 2 < 1024 then [s.lv 0x8100 2] else []) |>.eraseDups

/-- ENUM_START on the root (R249). -/
def State.enumerate (s : State) : State :=
  let base := s.lv 0x8100 4
  let table := enumTable (s.lvb 0x8100 5)
  let r := s.numberMe base table s.heldIds
  let s := r.1
  let pass := (s.serial, s.flue.lastPass.2 + 1)
  let s := s.updFlue (fun x => { x with lastPass := pass })
  if s.flue.excess then s
  else s.enumNext { parent := 3, todo := s.portsUp, pass := pass, given := r.2, base := base, table := table }

/-- ENUMERATION_FRAME_RX (R249). -/
def execEnumerationFrameRx (t : Nat) (port : Fin 3) (frame : FlueFrame) (s : State) : Host.Outcome State Fault Refusal :=
  act t (fun s =>
    let w := frame.pay
    let kind := w.getD 0 0
    let pass := (w.getD 1 0, w.getD 2 0)
    let n := w.getD 4 0
    let given := (w.drop 5).take n
    let table := (pairsOf (w.drop (6 + n))).take (w.getD (5 + n) 0)
    if !s.linkUp port || decide (frame.typ ≠ 0x41) then s
    else
    let s := s.giveCredit port
    if s.flue.excess then s
    else if kind = 0 then
      let back : EnumSt := { parent := port, todo := [], pass := pass, given := given, base := w.getD 3 0, table := table }
      if s.flue.lastPass = pass ∨ s.flue.enumSt.isSome then s.flueOn port (enumFrame 1 back s.myId)
      else
        let s := s.updFlue (fun x => { x with lastPass := pass })
        let r := s.numberMe back.base table given
        if r.1.flue.excess then r.1.flueOn port (enumFrame 2 { back with given := r.2 } r.1.myId)
        else r.1.enumNext { back with todo := s.portsUp.filter (fun p => decide (p ≠ port.val)), given := r.2 }
    else match s.flue.enumSt with
      | some e =>
        if e.pass = pass then
          let s := if kind = 2 then
              ((s.updLink port (fun x => { x with admitted := false, peerExcess := true })).setN (0x8110 + port) 2 5).linkEvent
            else s
          s.enumNext { e with given := given }
        else s
      | none => s) s

end Sys2Proof.Machine
end

