-- ==== Sys2Proof/Machine/Memory.lean ====
section
/-!
DEFINITION. The commands of memory (chapter 12): command slots, errors, poison and its consumers, scrub, retraining,
temperature, refresh, and on-chip SRAM.
-/
namespace Sys2Proof.Machine

/-- DRAM_COMMAND_SLOT (R295 to R298): the requests that reach the subchannel, then one command. -/
def execDramCommandSlot (t : Nat) (ch : Fin 8) (sub : Fin 2) (arrivals : List DramReq) (s : State) : Host.Outcome State Fault Refusal :=
  if arrivals.any (fun r => decide (2 ^ 36 ≤ r.addr)) then .fault .noSuchAddress else
  act t (fun s =>
    if !s.dramAlive ch then s else
    let mine := arrivals.filter (fun r => let p := spotOf s.comm r.addr
      decide (p.ch = ch.val) && decide (p.sub = sub.val))
    let s := s.dramArrive ch sub (mine.map (fun r => { req := r, at_ := s.now, order := 0 }))
    if s.dramIssues ch then s.dramSlot ch sub else s) s

/-- DRAM_CORRECTED_ERROR (R290, R300): written back, counted by channel and device; an injected one is not counted for wear
(R332). `scrub` when a scrub read found it. -/
def execDramCorrectedError (t : Nat) (addr : Nat) (rank : Fin 2) (dev : Fin 3) (scrub : Bool) (s : State) : Host.Outcome State Fault Refusal :=
  act t (fun s =>
    let p := spotOf s.comm addr
    if !s.dramAlive p.ch || decide (2 ^ 36 ≤ addr) then s else
    let r := s.takeInj 1 (fun u => decide (u % 32 = p.ch + 16 * p.sub)) (fun v => decide (v = 1 ∨ v = 2))
    let i := 6 * rank.val + 3 * p.sub + dev.val
    let s := (r.1.inc (dramIdx p.ch) 3).dramSend p.ch p.sub (.wr rank p.bank p.col false) none
    let s := s.setB (dramIdx p.ch) 0xF (bumpU32 (s.lvb (dramIdx p.ch) 0xF) i)
    let s := if r.2 then s else s.updDram p.ch (fun x => { x with ceHour := x.ceHour.upd 0 i (· + 1) })
    s.raise { source := dramSrc p.ch 0, dom := domDram p.ch, init := dramInit p.ch, access := if scrub then 4 else 1, addr := some addr, inj := r.2 }) s

/-- DRAM_UNCORRECTABLE (R303, R304): the first in the usable rank of channel 0 or 4 retires it; the line is poisoned. -/
def execDramUncorrectable (t : Nat) (addr : Nat) (access : Nat) (s : State) : Host.Outcome State Fault Refusal :=
  act t (fun s =>
    let p := spotOf s.comm addr
    if !s.dramAlive p.ch || decide (2 ^ 36 ≤ addr) then s else
    let r := s.takeInj 1 (fun u => decide (u % 32 = p.ch + 16 * p.sub)) (fun v => decide (v = 3))
    let s := r.1.poisonLine addr
    if s.rankState p.ch = 1 ∧ access ≠ 5 then s.retireRank p.ch r.2 else s) s

/-- Layers of running channels that have a captured frame or a library item latched: channel and layer. -/
def State.latchedBy (s : State) (from_ : Nat) (id : Option Nat) : List (Nat × Nat) :=
  s.runningChans.flatMap (fun c => ((List.range 16).filter (fun l =>
    decide ((s.layer c l).from_ = from_) && (match (s.layer c l).latched with
      | some f => id.isNone || decide (some f.id = id)
      | none => false))).map (fun l => (c, l)))

/-- Flows of a channel whose group a layer's output covers in part. -/
def State.flowsUnder (s : State) (c l : Nat) : List Nat :=
  match s.layerDraw c l with
  | some d => (flowsOf s.comm c).filter (fun n =>
      decide ((flow s.comm n 5 : Int) < d.x + (d.w : Int)) && decide (d.x < ((flow s.comm n 5 + flow s.comm n 7 : Nat) : Int)) &&
      decide ((flow s.comm n 6 : Int) < d.y + (d.h : Int)) && decide (d.y < ((flow s.comm n 6 + flow s.comm n 8 : Nat) : Int)))
  | none => []

/-- A source frame or library item has a poisoned line (Table 12-7), where layers have latched it and where frames in composition draw it:
the samples that the line holds are poisoned as they are read (R147). -/
def State.poisonLayers (s : State) (from_ : Nat) (id : Option Nat) (line : Nat) : State :=
  let hit := fun (f : Nat) => id.isNone || decide (some f = id)
  { s with comp := s.comp.map (fun (e : Nat × Comp) => (e.1, { e.2 with
      layers := e.2.layers.map (fun (l : Nat × Layer) => (l.1, if l.2.from_ = from_
        then { l.2 with latched := l.2.latched.map (fun f => if hit f.id then { f with poisoned := line :: f.poisoned } else f) } else l.2)),
      frames := e.2.frames.map (fun g => { g with look := (g.look.1.map (fun d =>
        if d.pic.isSome && decide (d.src.1 = from_) && hit d.src.2 then { d with poisoned := line :: d.poisoned } else d), g.look.2) }) })) }

/-- What a consumer of a poisoned line does (Table 12-7), its initiator, and the flows affected. -/
def State.consume (s : State) (line : Nat) (u : PoisonUser) : State × Nat × List Nat :=
  match u with
  | .frame p input id =>
    let ls := s.latchedBy input (some id)
    let s := s.updInput input (fun x => { x with ring := x.ring.map (fun f => if f.id = id then { f with poisoned := line :: f.poisoned } else f) })
    (s.poisonLayers input (some id) line, pipeInit p, (ls.flatMap (fun e => s.flowsUnder e.1 e.2)).eraseDups)
  | .item p n =>
    let ls := s.latchedBy (32 + n) none
    let s := s.updItem n (fun x => { x with cur := x.cur.map (fun c => { c with poisoned := line :: c.poisoned }) })
    (s.poisonLayers (32 + n) none line, pipeInit p, (ls.flatMap (fun e => s.flowsUnder e.1 e.2)).eraseDups)
  | .withy wid skip =>
    match s.current wid with
    | some b =>
      if skip && (s.flowSt b.flow).spans.any (fun q => q.holds b.f && q.blind) then (s.setJob b (fun b => { b with refPoisoned := true }), withyInit wid, [])
      else ((s.setJob b (fun b => { b with poisoned := true, refPoisoned := true })), withyInit wid, [b.flow])
    | none => (s, withyInit wid, [])
  | .slice n f j seg =>
    let h := (s.activeHearth n).getD 0
    (s.updPipe (fun q => { q with slices := q.slices.map (fun x =>
      if x.flow = n.val ∧ x.f = f ∧ x.j = j ∧ x.seg = seg then { x with poisoned := true } else x) }), blockInit (h / 4) 50, [n.val])
  | .firmware st => (s.raise { source := src 19 3, init := blockInit st 44, access := 3 }, blockInit st 44, [])

/-- Whether the reference that a withy's job reads holds poisoned lines. -/
def State.refBad (s : State) (wid : Nat) : Bool :=
  match s.current wid with
  | some b => s.pipe.refs.any (fun r => decide (r.h = b.h) && decide (r.flow = b.flow) && r.poisoned)
  | none => false

/-- POISONED_READ (R304, R305). -/
def execPoisonedRead (t : Nat) (addr : Nat) (user : PoisonUser) (s : State) : Host.Outcome State Fault Refusal :=
  act t (fun s =>
    let p := spotOf s.comm addr
    let ref := match user with | .withy wid _ => s.refBad wid | _ => false
    if !s.dramAlive p.ch || !(s.mem.poison.get false (lineBase addr) || ref) then s else
    let c := s.consume (lineBase addr) user
    let ev := fun (k dom : Nat) => ({ source := dramSrc p.ch k, dom := dom, init := c.2.1, access := 1, addr := some addr } : Ev)
    let s := (c.1.inc (dramIdx p.ch) 4).raise (ev 5 (domDram p.ch))
    eachIn c.2.2 (fun n s => s.raise (ev 6 (domFlow n))) s) s

/-- RANK_MIGRATION_DONE (R303): every line has been copied. -/
def execRankMigrationDone (t : Nat) (ch : Fin 8) (s : State) : Host.Outcome State Fault Refusal :=
  act t (fun s =>
    if decide (s.rankState ch = 2) && decide (rankLines ≤ (s.dramSub ch 0).copied) && decide (rankLines ≤ (s.dramSub ch 1).copied) then
      (s.setN (dramIdx ch) 7 3).setN (dramIdx ch) 8 1024
    else s) s

/-- Lines that one pass of scrub reads on a channel. -/
def State.scrubLines (s : State) (ch : Nat) : Nat := 2 * rankLines * (s.ranksOf ch).length

/-- SCRUB_PASS (R300): the next line falls due and its read is queued in class 4. -/
def execScrubPass (t : Nat) (ch : Fin 8) (s : State) : Host.Outcome State Fault Refusal :=
  act t (fun s =>
    let x := s.dramCh ch
    if s.dramAlive ch && decide (x.scrubAt ≤ s.now) && decide (s.pwr.sag = 0) then
      let n := x.scrub
      let s := s.updDram ch (fun x => { x with
        scrub := (n + 1) % s.scrubLines ch, scrubAt := x.scrubAt + tuSec (3600 * s.cm 0x8000 4) / s.scrubLines ch })
      let place := (n / (2 * rankLines), n / 64 % 16, n / 1024 % 65536, n % 64)
      s.dramArrive ch (n / rankLines % 2) [DReq.mk ⟨0, 4, 0, none⟩ s.now 0 (some place)]
    else s) s

/-- CA_PARITY_ALERT (R301): the retry buffer is issued again; three alerts on a channel within 1 ms start retraining. -/
def execCaParityAlert (t : Nat) (ch : Fin 8) (sub : Fin 2) (s : State) : Host.Outcome State Fault Refusal :=
  act t (fun s =>
    if !s.dramIssues ch then s else
    let r := s.takeInj 4 (fun u => decide (u % 32 = ch.val + 16 * sub.val)) (fun _ => true)
    let ev := fun (k : Nat) => ({ source := dramSrc ch k, dom := domDram ch, init := dramInit ch, inj := r.2 } : Ev)
    let s := ((r.1.inc (dramIdx ch) 5).raise (ev 1)).replayAll ch sub
    let as := ((s.dramCh ch).alerts.filter (fun a => decide (s.now < a + tuMs 1))) ++ [s.now]
    if as.length < 3 then s.updDram ch (fun x => { x with alerts := as })
    else ((s.updDram ch (fun x => { x with alerts := [], retraining := true })).inc (dramIdx ch) 6).raise (ev 2)) s

/-- DRAM_RETRAIN_DONE (R301): a channel that fails is out of service. -/
def execDramRetrainDone (t : Nat) (ch : Fin 8) (ok : Bool) (s : State) : Host.Outcome State Fault Refusal :=
  act t (fun s =>
    if !(s.dramCh ch).retraining then s else
    let s := s.updDram ch (fun x => { x with retraining := false, out := !ok })
    if ok then s else s.cond { source := dramSrc ch 3, dom := domDram ch, init := dramInit ch } true) s

/-- The band of R306 after a reading: up at 85 °C and 95 °C, down at 83 °C and 93 °C. -/
def dramBand (b : Nat) (temp : Int) : Nat :=
  if 95 ≤ temp then 2
  else if b = 2 ∧ 93 < temp then 2
  else if 85 ≤ temp then 1
  else if 1 ≤ b ∧ 83 < temp then 1
  else 0

/-- DRAM_TEMP_POLL (R306, R308): the hottest device of the channel. -/
def execDramTempPoll (t : Nat) (ch : Fin 8) (temps : List Int) (s : State) : Host.Outcome State Fault Refusal :=
  act t (fun s =>
    match temps with
    | [] => s
    | x :: xs =>
      if !s.dramAlive ch then s else
      let top := xs.foldl max x
      let s := eachIn (s.ranksOf ch) (fun r s => (s.emit (.dram ch 0 (.mr4 r))).emit (.dram ch 1 (.mr4 r))) s
      let s := (s.setN (dramIdx ch) 2 (unsigned 16 top)).setN (dramIdx ch) 1 (dramBand (s.lv (dramIdx ch) 1) top)
      let s := s.cond { source := dramSrc ch 7, dom := domDram ch, init := dramInit ch, access := 0xA } (decide (s.lv (dramIdx ch) 1 = 2))
      s.cond { source := src 2 (24 + ch), dom := domDram ch, init := dramInit ch, access := 0xA } (decide (105 ≤ top))) s

/-- DRAM_REFRESH_DUE (R306): an interval's refresh is owed; it begins unless it is postponed. -/
def execDramRefreshDue (t : Nat) (ch : Fin 8) (sub : Fin 2) (s : State) : Host.Outcome State Fault Refusal :=
  act t (fun s =>
    let x := s.dramSub ch sub
    if s.dramAlive ch && decide (x.refAt ≤ s.now) then
      let s := s.updSub ch sub (fun x => { x with refAt := x.refAt + s.trefi ch })
      if !s.dramIssues ch then s else
      let s := s.updSub ch sub (fun x => { x with owed := x.owed + 4 })
      if s.refreshNow ch sub then s.refreshStep ch sub else s
    else s) s

/-- RFM_DUE (R307): the bank's row is closed and its activate count falls by the threshold. -/
def execRfmDue (t : Nat) (ch : Fin 8) (sub : Fin 2) (rank : Fin 2) (bank : Fin 16) (s : State) : Host.Outcome State Fault Refusal :=
  act t (fun s =>
    let b := 16 * rank.val + bank.val
    let th := Config.rfmThreshold ch sub
    if s.dramIssues ch && decide (th ≤ (s.dramSub ch sub).acts.get 0 b) then
      let s := if ((s.dramSub ch sub).rows.get none b).isSome then s.dramClose ch sub b else s
      ((s.dramSend ch sub (.rfm rank bank) none).updSub ch sub (fun x => { x with acts := x.acts.upd 0 b (· - th) })).inc (dramIdx ch) 0xD
    else s) s

/-! On-chip SRAM (R310, R311). -/

/-- Row of Table 12-8 that holds an offset. -/
def sramRegion (off : Nat) : Nat :=
  let ends := [0x2000000, 0x3000000, 0x4000000, 0x4800000, 0x5000000, 0x5800000, 0x6000000, 0x6800000, 0x6C00000]
  (ends.filter (fun e => decide (e ≤ off))).length

/-- Module address of an SRAM offset (Table 12-3). -/
def sramAddr (stove off : Nat) : Nat := 0x1000000000 + stove * 0x100000000 + off

/-- Part that holds an offset: the skein's reference cache, the hearth's shared memory, else a block of Table 1-6. -/
def sramInit (stove off : Nat) : Nat :=
  match sramRegion off with
  | 0 => cacheInit (16 * stove + off / 0x200000)
  | 1 => hearthInit (4 * stove + (off - 0x2000000) / 0x400000) 15
  | 2 => blockInit stove 48
  | 3 => blockInit stove 50
  | 4 => blockInit stove (24 + (off - 0x4800000) / 0x200000)
  | 5 => blockInit stove (28 + (off - 0x5000000) / 0x200000)
  | 6 => blockInit stove (44 + (off - 0x5800000) / 0x400000)
  | 7 => blockInit stove 55
  | 8 => blockInit stove 52
  | _ => blockInit stove 58

def sramDom (stove off : Nat) : Nat :=
  match sramRegion off with
  | 0 => domSkein (16 * stove + off / 0x200000)
  | 1 => domHearth (4 * stove + (off - 0x2000000) / 0x400000)
  | _ => domModule

def sramEv (stove off k access : Nat) (inj : Bool) : Ev :=
  { source := src 15 (8 * stove + k), dom := sramDom stove off, init := sramInit stove off, access := access,
    addr := some (sramAddr stove off), inj := inj }

/-- Whether the SRAM of the module is in use: all but retention is off in BANKED (R312). -/
def State.sramOn (s : State) (off : Nat) : Bool :=
  s.isUp && decide (off < 0x7000000) && (decide (s.sys.mode ≠ .banked) || decide (sramRegion off = 7))

def State.sramInj (s : State) (stove off pattern : Nat) : State × Bool :=
  s.takeInj 2 (fun u => decide (u % 512 = sramRegion off + 256 * stove)) (fun v => decide (v = pattern))

/-- SRAM_CORRECTED (R311). -/
def execSramCorrected (t : Nat) (stove : Fin 2) (off : Nat) (s : State) : Host.Outcome State Fault Refusal :=
  act t (fun s =>
    if !s.sramOn off then s else
    let r := s.sramInj stove off 1
    let s := r.1.inc (0x8020 + stove) 1
    let s := if r.2 then s else s.updMem (fun m => { m with rowHour := m.rowHour.upd 0 (stove.val * 2 ^ 27 + Config.sramRow off) (· + 1) })
    s.raise (sramEv stove off 0 1 r.2)) s

/-- SRAM_UNCORRECTABLE (R311): the event, and what the word's consumer does: the hearth under R270, a withy of the cache's own skein (R9) under R111, the
output stage under R87, a pipe under R147; retention, housekeeping and collector memory are class 4. -/
def execSramUncorrectable (t : Nat) (stove : Fin 2) (off : Nat) (user : SramUser) (s : State) : Host.Outcome State Fault Refusal :=
  act t (fun s =>
    if !s.sramOn off then s else
    let r := s.sramInj stove off 3
    let s := (r.1.inc (0x8020 + stove) 2).raise (sramEv stove off 1 1 r.2)
    let g := sramRegion off
    if g = 6 ∨ g = 7 ∨ (g = 9 ∧ user = .collector) then s.raise (sramEv stove off 2 1 r.2)
    else if g = 1 then s.hearthFault (4 * stove.val + (off - 0x2000000) / 0x400000) 15
    else match user with
      | .withy wid => if g = 0 ∧ withySkein wid = 16 * stove.val + off / 0x200000 ∧ s.wState wid < 3 then s.withyFault wid 1 none else s
      | .pipe p => if g = 4 ∧ s.running then s.pipeChecker p else s
      | .slice n f j seg => if g = 2 ∨ g = 3 then (s.consume 0 (.slice n f j seg)).1 else s
      | _ => s) s

end Sys2Proof.Machine
end

