-- ==== Sys2Proof/Machine/FaultCmd.lean ====
section
/-!
DEFINITION. What ends an occurrence and a recovery (R315, R321, R324), and what host software does to the fault collector and
the injection slots (R316, R319, R324, R330, R331): the operations, and the commands that carry no request.
-/
namespace Sys2Proof.Machine

/-- DAMPED ends (R321, R414, R417): the module returns to the state it left; each running channel's pictures so far stay
whole-picture stand-ins, so that its next ones follow as under R94, and its layers latch afresh. -/
def State.leaveDamped (s : State) : State :=
  let lit := decide (s.sys.dampedFrom = .lit) && !s.sys.stopInDamped
  let s := (s.setMode (if lit then .lit else .laid)).dampedCond
  let s := { s with sys := { s.sys with dampedMute := false, dampedGasp := false, stopInDamped := false } }
  if lit then
    let s := s.updPipe (fun p => { p with stripes := p.stripes.map (fun x => if x.dead then x else { x with whole := some (x.whole.getD 8) }) })
    eachIn s.runningChans (fun c s => s.updChan c (fun x => { x with whole := some (x.whole.getD 8) })) s
  else
    let s := (eachIn s.runningChans (fun c s => s.dropChannel c) s).stopAudio.settleCommit
    if s.sys.startFrom.isSome then { s with sys := { s.sys with modeReq := .lit } } else s

/-- What its owning rule has a domain do when its recovery ends: a skein's withies are tested (R326), a hearth runs its
self-test (R274), the module leaves DAMPED. -/
def State.returnDomain (s : State) (dom : Nat) : State :=
  if dom = domModule then (if s.sys.mode = .damped then s.leaveDamped else s)
  else if dom / 0x1000 = 1 then s.skeinReturn (dom % 0x1000)
  else if dom / 0x1000 = 2 then s.startHearthTest (dom % 0x1000)
  else s

def State.finishRecovery (s : State) (r : Recovery) (kind : Nat) : State := (s.endRecovery r kind).returnDomain r.dom

/-- Running recoveries: the slots in order, then the module's. -/
def State.recoveries (s : State) : List Recovery :=
  (List.range 4).filterMap (fun i => s.flt.slots.get none i) ++ s.flt.module.toList

/-- PRESENT_PULSE_END (R315): 1 ms after an occurrence; quiet periods may begin (R324). -/
def execPresentPulseEnd (t : Nat) (s : State) : Host.Outcome State Fault Refusal :=
  act t (fun s =>
    let left := s.flt.present.filter (fun p => match p.till with | some m => decide (s.now < m) | none => true)
    if left.length = s.flt.present.length then s else { s with flt := { s.flt with present := left } }.requiet) s

/-- QUIET_PERIOD_END (R324): the recovery of a domain whose quiet period has passed. -/
def execQuietPeriodEnd (t : Nat) (dom : Fin 65536) (s : State) : Host.Outcome State Fault Refusal :=
  act t (fun s =>
    match s.recoveryOf dom with
    | some r => match r.quietEnd with
      | some m => if m ≤ s.now ∧ r.host = false then s.finishRecovery r 4 else s
      | none => s
    | none => s) s

/-! What host software writes. -/

/-- A write of STATUS (R316): bits whose source is present stay. -/
def State.clearStatus (s : State) (g v : Nat) : State :=
  let old := s.lv (0x9000 + g) 1
  let present := s.presentBits g
  s.setN (0x9000 + g) 1 (sumList ((List.range 32).map (fun b => if old.testBit b && (!(v.testBit b) || present.testBit b) then 2 ^ b else 0)))

/-- CAPTURE_CLEAR (R319). -/
def State.clearCapture (s : State) (g : Nat) : State :=
  { s with flt := { s.flt with captures := s.flt.captures.filter (fun e => decide (e.1 ≠ g)) } }

/-- RELEASE (R324): 0 or an abort code. -/
def State.releaseAsk (s : State) (cls v : Nat) : State × Nat :=
  let able := fun (r : Recovery) => decide (r.cls = cls) && r.awaiting && !s.holdsBack r
  if v = 0xFFFF then (eachIn (s.recoveries.filter able) (fun r s => s.finishRecovery r 5) s, 0)
  else match s.recoveryOf v with
    | some r => if able r then (s.finishRecovery r 5, 0) else (s, 7)
    | none => (s, 7)

/-- A capture record as its bytes (Table 13-2). -/
def Capture.bytes (c : Capture) (valid : Bool) : List Byte :=
  let flags := (if valid then 1 else 0) + (if c.addrValid then 2 else 0) + (if c.escalated then 4 else 0) + (if c.injected then 8 else 0)
  leBytes 1 c.overflow ++ leBytes 1 flags ++ leBytes 1 c.cls ++ leBytes 1 c.access ++ leBytes 2 c.source ++ leBytes 2 c.init ++
    leBytes 6 c.addr ++ leBytes 10 c.ts

/-- An Ash record as its bytes (Table 13-6). -/
def AshRec.bytes (r : AshRec) : List Byte :=
  leBytes 2 r.reps ++ leBytes 1 r.state ++ leBytes 1 r.kind ++ leBytes 4 r.seq ++ r.cap.bytes true

/-- ASH_READ (R330): the records returned and the cursor after them. -/
def State.ashRead (s : State) : State × List Byte :=
  let i := (s.flt.ash.findIdx? (fun r => decide (r.seq = s.lv 0x9400 1))).getD 0
  let i := if s.flt.ash.any (fun r => decide (r.seq = s.lv 0x9400 1)) then i
    else if decide ((s.lv 0x9400 1 + 2 ^ 32 - s.flt.nextSeq) % 2 ^ 32 < 2 ^ 31) then s.flt.ash.length else i
  let rs := (s.flt.ash.drop i).take 128
  let s := { s with flt := { s.flt with ash := (List.range s.flt.ash.length).map (fun j =>
    let r := s.flt.ash.getD j ⟨{}, 0, 0, 0, 0, false, 0⟩
    if i ≤ j ∧ j < i + 128 then { r with wasRead := true } else r) } }
  match rs.getLast? with
  | some r => (s.setN 0x9400 1 ((r.seq + 1) % 2 ^ 32), rs.flatMap AshRec.bytes)
  | none => (s, [])

/-- ASH_CLEAR (Table 13-12). -/
def State.ashClear (s : State) : State := { s with flt := { s.flt with ash := [] } }

/-- A target and pattern that Table 13-7 gives. -/
def injTargetOk (target : Nat) : Bool :=
  let u := target % 2 ^ 24
  match target / 2 ^ 24 with
  | 1 | 4 => decide (u < 32) && decide (u % 16 < 8)
  | 2 => decide (u < 512) && decide (u % 256 < 10)
  | 3 => (List.range 288).any (fun w => decide (withyInit w = u))
  | 5 => decide (u < 10)
  | 6 => decide (u < 64) && decide (u % 16 < 3) && decide (u / 16 < 3)
  | 7 => decide (u < 3)
  | 8 => decide (u < 2)
  | _ => false

def injPatternOk (target pattern : Nat) : Bool :=
  match target / 2 ^ 24 with
  | 1 => decide (1 ≤ pattern ∧ pattern ≤ 3)
  | 2 | 3 | 5 | 6 => decide (pattern = 1 ∨ pattern = 3)
  | _ => decide (pattern = 1)

/-- INJ_ARM (R331): 0 or an abort code. -/
def State.injArm (s : State) (i v : Nat) : State × Nat :=
  let target := s.lv (0xF010 + i) 1
  if v = 0 then ((s.setN (0xF010 + i) 4 0).showInj, 0)
  else if !injTargetOk target || !injPatternOk target (s.lv (0xF010 + i) 2) then (s, 5)
  else if (List.range 4).any (fun j => decide (j ≠ i) && decide (s.lv (0xF010 + j) 4 = 1) && decide (s.lv (0xF010 + j) 1 = target)) then (s, 10)
  else ((s.setN (0xF010 + i) 4 1).showInj, 0)

/-- INJ_STOP (R331). -/
def State.injStop (s : State) : State := (eachBelow 4 (fun i s => s.setN (0xF010 + i) 4 0) s).showInj

end Sys2Proof.Machine
end

