-- ==== Sys2Proof/Machine/Power.lean ====
section
/-!
DEFINITION. Power, heat and wear (chapter 14, R28 to R30): measurement, supply sag and last gasp, the power loop, the thermal
model with its diodes and thresholds, retention bands, and the wear monitors.
-/
namespace Sys2Proof.Machine

def State.updPwr (s : State) (f : Power → Power) : State := { s with pwr := f s.pwr }
def State.updHeat (s : State) (st : Nat) (f : Heat → Heat) : State :=
  s.updPwr (fun p => if st = 0 then { p with heatA := f p.heatA } else { p with heatB := f p.heatB })

def damperEv (source access : Nat) : Ev := { source := source, init := moduleInit, access := access }

/-- The Damper measures: not before the collector runs, nor in BANKED and COLD (Table 1-6). -/
def State.damperRuns (s : State) : Bool := s.isUp && decide (s.sys.mode ≠ .banked ∧ s.sys.mode ≠ .cold)

/-! Supply sag (R336 to R339). -/

def sagEnterAt : List Nat := [35000, 33500, 32000, 30500, 29000]
def sagLeaveAt : List Nat := [36000, 34500, 33000, 31500, 30000]

/-- The highest level whose threshold lies above VIN, and the highest whose restore threshold is not below it. -/
def sagEntered (vin : Nat) : Nat := (sagEnterAt.filter (fun v => decide (vin < v))).length
def sagHeld (vin : Nat) : Nat := (sagLeaveAt.filter (fun v => decide (vin ≤ v))).length

/-- The last gasp (R339): notice on every Flue port, in-band interrupt, DAMPED or COLD by class, DRAM in self-refresh. -/
def State.lastGasp (s : State) (vin : Nat) : State :=
  let s := eachBelow 3 (fun p s => s.flueOn p { dest := 0xFFFF, src := s.myId, cls := 0, typ := 4, pay := [s.myId, vin, s.lv 0xA040 4] }) s
  let s := { s with gran := { s.gran with gaspIbi := true } }
  (s.cond (damperEv (src 1 4) 0xA) true).dramSleep

def State.enterLevel (s : State) (l vin : Nat) : State :=
  let s := (s.updPwr (fun p => { p with sag := l })).setN 0xA000 3 l
  let s := s.setB 0xA000 5 (bumpU32 (s.lvb 0xA000 5) (l - 1))
  if !s.damperRuns then s
  else if l = 5 then s.lastGasp vin else s.cond (damperEv (src 1 (l - 1)) 0xA) true

def State.leaveLevel (s : State) (l : Nat) : State :=
  let s := (s.updPwr (fun p => { p with sag := l - 1 })).setN 0xA000 3 (l - 1)
  if !s.damperRuns then s else
  let s := s.cond (damperEv (src 1 (l - 1)) 0xA) false
  if l = 5 then s.dramWake else s

/-- The power stage stops converting: the module is unpowered. -/
def State.powerOff (s : State) : State := { s with sys := { s.sys with boot := .off } }.unpowered

/-- SAG_LEVEL_ENTER (R336, Table 14-2): the levels whose threshold VIN has fallen below, in ascending order; below 27.0 V the
module is unpowered. -/
def execSagLevelEnter (t vin : Nat) (s : State) : Host.Outcome State Fault Refusal :=
  actAny t (fun s =>
    if s.sys.boot = .off ∨ s.pwr.latched then s
    else if vin < 27000 then s.powerOff
    else
      let s := s.updPwr (fun p => { p with vin := vin })
      let old := s.pwr.sag
      let new := sagEntered vin
      if new ≤ old ∨ s.isUp = false then s
      else (eachIn ((List.range (new - old)).map (fun i => old + 1 + i)) (fun l s => s.enterLevel l vin) s).settleIdle) s

/-- SAG_LEVEL_LEAVE (R336): levels left at one detection are undone in descending order. -/
def execSagLevelLeave (t vin : Nat) (s : State) : Host.Outcome State Fault Refusal :=
  act t (fun s =>
    if s.sys.boot = .off ∨ s.pwr.latched then s else
    let s := s.updPwr (fun p => { p with vin := vin })
    let old := s.pwr.sag
    let new := min old (sagHeld vin)
    if new = old then s
    else (eachIn ((List.range (old - new)).map (fun i => old - i)) (fun l s => s.leaveLevel l) s).settleIdle) s

/-! Measurement (R335). -/

/-- A mean over the samples of a millisecond. -/
def meanOf (f : RailSmp → Nat) (xs : List RailSmp) : Nat := roundDiv (sumList (xs.map f)) (max 1 xs.length)

/-- The 1 ms means reported. -/
def State.showMeans (s : State) (xs : List RailSmp) : State :=
  let rail := fun (i : Nat) => meanOf (fun x => x.rails.getD i 0) xs
  let rails := fun (st : Nat) => (List.range 8).map (fun i => rail (8 * st + i))
  let vaux := meanOf RailSmp.vaux xs
  let input := meanOf RailSmp.input xs
  let total := sumList (rails 0) + sumList (rails 1)
  let s := ((s.setN 0xA000 1 (meanOf RailSmp.vin xs)).setN 0xA000 7 input).setN 0xA000 9 (min 750 vaux)
  let s := s.setN 0xA000 8 (input - (total + vaux * 33 / 10))
  eachBelow 2 (fun st s => (s.setN (0xA010 + st) 1 (sumList (rails st))).setB (0xA010 + st) 2 ((rails st).flatMap (leBytes 4))) s

/-- RAIL_SAMPLE (R335): VIN_MIN holds the lowest sample; ten samples give the means. -/
def execRailSample (t : Nat) (smp : RailSmp) (s : State) : Host.Outcome State Fault Refusal :=
  act t (fun s =>
    if !s.damperRuns then s else
    let low := if s.pwr.sampled then min (s.lv 0xA000 2) smp.vin else smp.vin
    let xs := smp :: s.pwr.samples
    let s := (s.setN 0xA000 2 low).updPwr (fun p => { p with sampled := true, vin := smp.vin, samples := if xs.length < 10 then xs else [] })
    if xs.length < 10 then s else s.showMeans xs) s

/-- RAIL_OUT_OF_REGULATION (R335). -/
def execRailOutOfRegulation (t : Nat) (stove : Fin 2) (outside : Bool) (s : State) : Host.Outcome State Fault Refusal :=
  act t (fun s => if s.damperRuns then s.cond { damperEv (src 1 (7 + stove)) 0xA with init := blockInit stove 59 } outside else s) s

/-- VAUX33_CURRENT_LIMIT (R335). -/
def execVaux33CurrentLimit (t : Nat) (limiting : Bool) (s : State) : Host.Outcome State Fault Refusal :=
  act t (fun s => if s.damperRuns then s.cond (damperEv (src 1 11) 0xA) limiting else s) s

/-! Budget and power loop (R28 to R30, R341, R342). -/

/-- Pixel rate that a configuration allocates to hearths on a stove, standby hearths included, times 1001: of the flows it enables, those
that a commit made while LIT adds to a running channel among them. -/
def State.stoveRate (s : State) (m : Tbl Val) (st : Nat) : Nat :=
  sumList ((flowsOn m).map (fun n => match (s.pipe.placed.find? (fun p => decide (p.1 = n))) with
    | some p => if decide (p.2 / 4 = st) || decide (cfg m 0x8200 1 ≠ 0) then pix1001 m n else 0
    | none => 0))

/-- ALLOWANCE_A, ALLOWANCE_B and LEND with the lend in force. -/
def State.showAllowance (s : State) : State :=
  let l := s.pwr.lend
  ((s.setN 0xA000 0xB ((s.pwr.baseA : Int) - l).toNat).setN 0xA000 0xC ((s.pwr.baseB : Int) + l).toNat).setN 0xA000 0xD (unsigned 32 l)

/-- Core budget and allowances (R28) that a commit sets for its configuration `m`. The spec gives the unit mW and no rounding: Pc / 2 and the
allowances are rounded down (DESIGN CHOICE, assumption 112). It does not say whether unused allowance from before a commit counts toward
the 10 ms of R29: both histories are emptied, and a lend ends (DESIGN CHOICE, assumption 113). -/
def State.setBudget (s : State) (m : Tbl Val) : State :=
  let pc : Int := (cfg m 0xA000 6 * 1000 : Nat) - (s.lv 0xA000 8 : Nat) - (s.lv 0xA000 9 * 33 / 10 : Nat)
  let ra := s.stoveRate m 0
  let rb := s.stoveRate m 1
  let share := fun (r : Nat) => if ra + rb = 0 then (pc / 2).toNat else (20000 + (pc - 40000) * r / (ra + rb : Nat)).toNat
  let s := s.setN 0xA000 0xA pc.toNat
  (s.updPwr (fun p => { p with baseA := share ra, baseB := share rb, lend := 0, unusedA := [], unusedB := [] })).showAllowance

def State.stovePower (s : State) (st : Nat) : Nat := s.lv (0xA010 + st) 1

/-- What a stove may lend (R29): its smallest unused allowance of 10 ms, at most a quarter of its allowance. -/
def lendable (base : Nat) (unused : List Int) : Int :=
  if unused.length < 10 then 0
  else match unused with
    | [] => 0
    | x :: xs => min (xs.foldl min x) (base / 4 : Nat)

/-- Lending (R29, R342): a lend ends when the lender draws more than 2 W below what is left to it, or the borrower is in WARN; what
may be lent is lent to a stove above its allowance (assumption 61). -/
def State.lendStep (s : State) : State :=
  let pa : Int := s.stovePower 0
  let pb : Int := s.stovePower 1
  let p := s.pwr
  let ua := ((p.baseA : Int) - pa - 2000) :: p.unusedA.take 9
  let ub := ((p.baseB : Int) - pb - 2000) :: p.unusedB.take 9
  let keep := (decide (0 < p.lend) && decide (pa + 2000 ≤ (p.baseA : Int) - p.lend) && !p.heatB.warn) ||
    (decide (p.lend < 0) && decide (pb + 2000 ≤ (p.baseB : Int) + p.lend) && !p.heatA.warn)
  let lend := if keep then p.lend
    else if p.lend ≠ 0 then 0
    else if (p.baseB : Int) < pb ∧ p.heatB.warn = false ∧ 0 < lendable p.baseA ua then lendable p.baseA ua
    else if (p.baseA : Int) < pa ∧ p.heatA.warn = false ∧ 0 < lendable p.baseB ub then - lendable p.baseB ub
    else 0
  (s.updPwr (fun p => { p with unusedA := ua, unusedB := ub, lend := lend })).showAllowance

def State.allowance (s : State) (st : Nat) : Nat := s.lv 0xA000 (0xB + st)

/-- Whether a channel comes before another for lowering: lowest priority, highest number on a tie. -/
def State.lowerFirst (s : State) (a b : Nat) : Bool :=
  let pa := s.pwr.prioNow.get 0 a
  let pb := s.pwr.prioNow.get 0 b
  decide (pa < pb) || (decide (pa = pb) && decide (b < a))

def pickBy (before : Nat → Nat → Bool) : List Nat → Option Nat
  | [] => none
  | x :: xs => match pickBy before xs with
    | some y => if before x y then some x else some y
    | none => some x

def State.setDemand (s : State) (c v : Nat) : State :=
  s.updPwr (fun p => { p with demand := p.demand.put 0 c v, demandAt := p.demandAt.put 0 c s.now })

/-- A stove above its allowance (R341): one channel lowered by one step, or the event that nothing is left to lower. -/
def State.lowerOne (s : State) (st : Nat) : State :=
  let cs := s.runningChans.filter (fun c => (s.stovesOf c).contains st)
  let able := cs.filter (fun c => decide (s.powerDemand c < 3))
  match pickBy s.lowerFirst (able.filter (fun c => decide (s.powerDemand c = 0) && decide (s.pwr.demandAt.get 0 c = 0) ||
      decide (s.pwr.demandAt.get 0 c + tuMs 10 ≤ s.now))) with
  | some c => (s.setDemand c (s.powerDemand c + 1)).updPwr (fun p => { p with lowered := c :: p.lowered })
  | none =>
    if able.isEmpty && (match s.pwr.overAt.getD st none with | some m => decide (m + tuSec 1 ≤ s.now) | none => true) then
      (s.updPwr (fun p => { p with overAt := p.overAt.set st (some s.now) })).raise { damperEv (src 1 (9 + st)) 0xA with init := blockInit st 59 }
    else s

/-- 100 ms more than 5 W below the allowance (R341): the most recently lowered channel of the stove is raised. -/
def State.raiseOne (s : State) (st : Nat) (busts : List Bool) : State :=
  let ok := fun (c : Nat) => (s.stovesOf c).contains st && (s.stovesOf c).all (fun x => !(busts.getD x false))
  match s.pwr.lowered.find? ok with
  | some c => (s.setDemand c (s.powerDemand c - 1)).updPwr (fun p => { p with lowered := p.lowered.erase c, under := p.under.set st 0 })
  | none => s

/-- POWER_LOOP_TICK (R29, R30, R341). -/
def execPowerLoopTick (t : Nat) (s : State) : Host.Outcome State Fault Refusal :=
  act t (fun s =>
    if !s.running then s else
    let s := s.lendStep
    let busts := (List.range 2).map (fun st => decide (s.allowance st < s.stovePower st))
    eachBelow 2 (fun st s =>
      if busts.getD st false then (s.lowerOne st).updPwr (fun p => { p with under := p.under.set st 0 })
      else if s.stovePower st + 5000 < s.allowance st then
        let n := s.pwr.under.getD st 0 + 1
        let s := s.updPwr (fun p => { p with under := p.under.set st n })
        if 100 ≤ n then s.raiseOne st busts else s
      else s.updPwr (fun p => { p with under := p.under.set st 0 })) s) s

/-! Heat (R343 to R348). -/

/-- Nodes of the active diodes d0 to d3 (Table 14-4). -/
def diodeNode (d : Nat) : Nat := 1 + 4 * d

/-- The active diode that a reading stands for, by position: itself, or the one a spare serves. -/
def Heat.servedBy (h : Heat) (d : Nat) : Option Nat := if d < 4 then some d else h.stands.getD (d - 4) none

/-- Junction estimate of a node without guard (R343): model and correction. -/
def Heat.raw (h : Heat) (n : Nat) : Int := h.model.getD n 0 + h.corr.getD n 0 / 1048576

/-- No diode of the stove is left (R345). -/
def Heat.blind (h : Heat) : Bool := h.diode.all (fun v => decide (3 ≤ v))

/-- Guard of a node: 6 °C (R345). -/
def Heat.guardOf (h : Heat) (n : Nat) : Int :=
  if h.blind then 96
  else if (List.range 4).any (fun d => decide (diodeNode d = n) && h.guard.getD d false) then 96 else 0

def Heat.estimate (h : Heat) (n : Nat) : Int := h.raw n + h.guardOf n

def maxInt : List Int → Int
  | [] => 0
  | x :: xs => xs.foldl max x

/-- T_HOT: the hottest node, and its number. -/
def Heat.hot (h : Heat) : Int := maxInt ((List.range 24).map h.estimate)
def Heat.hotNode (h : Heat) : Nat := (firstBelow 24 (fun n => decide (h.estimate n = h.hot))).getD 0

/-- A junction band (R348): up at 85 °C and 95 °C, down at 83 °C and 93 °C. -/
def junctionBand (b : Nat) (t16 : Int) : Nat :=
  if 95 * 16 ≤ t16 then 2
  else if b = 2 ∧ 93 * 16 < t16 then 2
  else if 85 * 16 ≤ t16 then 1
  else if 1 ≤ b ∧ 83 * 16 < t16 then 1
  else 0

/-- Rail powers and activity of a stove, of which the model's network makes use. -/
def State.railList (s : State) (st : Nat) : List Nat := (List.range 8).map (fun i => let b := s.lvb (0xA010 + st) 2
  fieldAt b (4 * i + 3) (4 * i))
def State.activity (s : State) (st : Nat) : List Nat := (List.range 16).map (fun k =>
  ((skeinWithies (16 * st + k)).filter (fun w => (s.current w).isSome)).length)

/-- The node whose temperature a position measures: 24 and 25 are the spares' own. -/
def diodePlace (d : Nat) : Nat := if d < 4 then diodeNode d else 20 + d

/-- What the model expects a diode to read: its node's estimate, or a spare's position with its node's correction. -/
def Heat.expects (h : Heat) (d : Nat) : Int :=
  if d < 4 then h.raw (diodeNode d)
  else h.spare.getD (d - 4) 0 + (match h.servedBy d with | some n => h.corr.getD (diodeNode n) 0 / 1048576 | none => 0)

/-- The model advanced by 1 ms, corrections pulled toward in-service readings with a time constant of 1 s (R343). -/
def State.heatStep (s : State) (st : Nat) (rd : List Int) : State :=
  let h := s.heat st
  let temps := h.model ++ h.spare
  let next := (List.range 26).map (fun n => Config.thermalStep st n temps (s.railList st) (s.activity st))
  let model := next.take 24
  let spare := next.drop 24
  let pulled := fun (d : Nat) =>
    let c := h.corr.getD (diodeNode d) 0
    if h.guard.getD d false then c else
    let seen : Option Int := if h.diode.getD d 0 = 1 then some (rd.getD d 0)
      else match (List.range 2).find? (fun i => decide (h.diode.getD (4 + i) 0 = 1) && decide (h.stands.getD i none = some d)) with
        | some i => some (rd.getD (4 + i) 0 + model.getD (diodeNode d) 0 - spare.getD i 0)
        | none => none
    match seen with
    | some v => c + ((v - model.getD (diodeNode d) 0) * 1048576 - c) / 1000
    | none => c
  let four := (List.range 4).map pulled
  let corr := (List.range 24).map (fun n => match firstBelow 4 (fun d => decide (diodeNode d = n)) with
    | some d => four.getD d 0
    | none => Config.corrBetween st n four)
  s.updHeat st (fun h => { h with model := model, spare := spare, corr := corr })

/-- Group 2 conditions of failed diodes, pinning and a stove without diodes (R344, R345). -/
def State.diodeConds (s : State) (st : Nat) : State :=
  let ev := fun (b : Nat) => ({ damperEv (src 2 b) 0xA with init := blockInit st 59 } : Ev)
  let h := s.heat st
  let failed := ((List.range 6).filter (fun d => decide (3 ≤ h.diode.getD d 0))).length
  let s := eachBelow 6 (fun d s => s.cond (ev (6 + 6 * st + d)) (decide (3 ≤ h.diode.getD d 0))) s
  let s := s.cond (ev (18 + st)) (decide (2 ≤ failed))
  s.cond (ev (20 + st)) h.blind

/-- A spare to qualify for node `d`: the idle one on its side, else the other (R345). -/
def Heat.pickSpare (h : Heat) (d : Nat) : Option Nat :=
  let own := if d < 2 then 0 else 1
  if h.diode.getD (4 + own) 3 = 0 then some own
  else if h.diode.getD (5 - own) 3 = 0 then some (1 - own) else none

/-- A diode leaves service (R345), with state 3, or 4 by the wear record: its node takes a guard and a spare is qualified. -/
def State.failDiode (s : State) (st d v : Nat) : State :=
  let h := s.heat st
  if 3 ≤ h.diode.getD d 0 then s else
  let node := h.servedBy d
  let h := { h with diode := h.diode.set d v, hold60 := h.hold60 || h.throttle,
                    stands := if d < 4 then h.stands else h.stands.set (d - 4) none }
  let h := match node with
    | none => h
    | some n =>
      let h := { h with guard := h.guard.set n true }
      match h.pickSpare n with
      | some i => { h with diode := h.diode.set (4 + i) 2, stands := h.stands.set i (some n), agreeFrom := h.agreeFrom.set i none }
      | none => h
  (s.updHeat st (fun _ => h)).diodeConds st

/-- A timer that runs while a condition holds. -/
def since (s : State) (on : Bool) (m : Option Nat) : Option Nat := if on then some (m.getD s.now) else none
def passed (s : State) (m : Option Nat) (d : Nat) : Bool := match m with
  | some v => decide (v + d ≤ s.now)
  | none => false

/-- Tests of R344 on one diode, and a qualifying spare's agreement (R345). -/
def State.testDiode (s : State) (st d : Nat) (rd : List Int) : State :=
  let h := s.heat st
  if 3 ≤ h.diode.getD d 0 then s else
  let r := rd.getD d 0
  let off := (r - h.expects d).natAbs
  let judged := decide (d < 4) || decide (h.diode.getD d 0 ≠ 0)
  let same := decide (r = h.last.getD d 0)
  let power := Config.nodePower st (diodePlace d) (s.railList st) (s.activity st)
  let sameFrom := if same then some ((h.sameFrom.getD d none).getD s.now) else some s.now
  let then_ := if same && (h.sameFrom.getD d none).isSome then h.powerThen.getD d 0 else power
  let far := since s (judged && decide (240 < off)) (h.farFrom.getD d none)
  let near := since s (judged && decide (128 ≤ off) && decide (off ≤ 240)) (h.nearFrom.getD d none)
  let agree := if d < 4 then none else since s (decide (h.diode.getD d 0 = 2) && decide (off ≤ 48)) (h.agreeFrom.getD (d - 4) none)
  let warn := passed s near (tuSec 1)
  let s := s.updHeat st (fun h => { h with
    last := h.last.set d r, sameFrom := h.sameFrom.set d sameFrom, powerThen := h.powerThen.set d then_,
    farFrom := h.farFrom.set d far, nearFrom := h.nearFrom.set d (if warn then some s.now else near),
    agreeFrom := if d < 4 then h.agreeFrom else h.agreeFrom.set (d - 4) agree })
  let s := if warn then s.raise { damperEv (src 2 (22 + st)) 0xA with init := blockInit st 59 } else s
  let stuck := same && passed s sameFrom (tuSec 10) && decide (then_ < 10 * (if power < then_ then then_ - power else power - then_))
  if r < -640 ∨ 2400 < r ∨ stuck ∨ passed s far (tuSec 1) then (s.failDiode st d 3).wearEnter 8 1 (8 * st + d) 0x8000 else s

/-- Whether a DRAM channel of the stove is above 95 °C (R347). -/
def State.dramHot (s : State) (st : Nat) : Bool := (List.range 4).any (fun i => decide (s.lv (dramIdx (4 * st + i)) 1 = 2))

/-- At or above THROTTLE_LIMIT (R346). -/
def State.aboveThrottle (s : State) (st : Nat) : Bool := decide ((s.lv 0xA020 2 * 16 : Int) ≤ (s.heat st).hot)

/-- Whether a stove in THROTTLE counts as entering it again: at or above the limit, or a DRAM channel in band 0x02 (R346, R347). A stove
outside THROTTLE enters it by its temperature alone. -/
def State.throttleHot (s : State) (st : Nat) : Bool := s.aboveThrottle st || s.dramHot st

/-- Demand of the stove one step lower in effort, down to EMBER (R346). -/
def State.demandDown (s : State) (st : Nat) : State :=
  s.updHeat st (fun h => { h with demand := min 3 (h.demand + 1), stepAt := s.now })

/-- The thresholds of Table 14-5. -/
def State.thresholds (s : State) (st : Nat) : State :=
  let ev := fun (b : Nat) => ({ damperEv (src 2 (b + st)) 0xA with init := blockInit st 59 } : Ev)
  let t := (s.heat st).hot
  let wl : Int := s.lv 0xA020 1
  let tl : Int := s.lv 0xA020 2
  let warn := if wl * 16 ≤ t then true else if t ≤ (wl - 5) * 16 then false else (s.heat st).warn
  let s := (s.updHeat st (fun h => { h with warn := warn })).cond (ev 0) warn
  let cool := decide (t ≤ (tl - 5) * 16) && !s.dramHot st
  let h := s.heat st
  let s := if !h.throttle && s.aboveThrottle st then
      ((s.updHeat st (fun h => { h with throttle := true, recovering := false, holdFrom := none })).demandDown st).cond (ev 2) true
    else if h.throttle && cool then
      let from_ := h.holdFrom.getD s.now
      if h.hold60 && decide (s.now < from_ + tuSec 60) then s.updHeat st (fun h => { h with holdFrom := some from_ })
      else (s.updHeat st (fun h => { h with
        throttle := false, recovering := decide (h.demand ≠ 0), hold60 := false, holdFrom := none, stepAt := s.now })).cond (ev 2) false
    else if h.throttle then s.updHeat st (fun h => { h with holdFrom := none })
    else s
  let s := if (s.heat st).throttle then s.inc (0xA010 + st) 0xB else s
  if 115 * 16 ≤ t ∧ h.shutdown = false then (s.updHeat st (fun h => { h with shutdown := true })).raise (ev 4) else s

/-- At a band change the active lanes of a stove's Flue ports re-adapt, each on the spare where the port has one; the link
delay is then measured again (R239, R348). -/
def State.readapt (s : State) (st : Nat) : State :=
  eachIn (if st = 0 then [0, 2] else [1]) (fun p s => if s.linkUp p && decide ((s.link p).spare ≠ 3) then s.remeasure p else s) s

def i16 (v : Int) : List Byte := leBytes 2 (unsigned 16 v)

/-- Table 14-12 of a stove. -/
def State.showHeat (s : State) (st : Nat) (rd : List Int) : State :=
  let h := s.heat st
  let i := 0xA010 + st
  let was := s.lv i 9
  let band := junctionBand was h.hot
  let flags := (if h.warn then 1 else 0) + (if h.throttle then 2 else 0) + (if s.isPresent (src 2 (18 + st)) then 4 else 0) +
    (if h.guard.any id || h.blind then 8 else 0) + (if h.holdFrom.isSome then 16 else 0) + (if h.blind then 32 else 0)
  let s := ((s.setN i 3 (unsigned 16 h.hot)).setN i 4 h.hotNode).setB i 5 ((List.range 24).flatMap (fun n => i16 (h.estimate n)))
  let s := s.setB i 6 ((List.range 6).flatMap (fun d => if 3 ≤ h.diode.getD d 0 then leBytes 2 0x8000 else i16 (rd.getD d 0)))
  let s := (s.setB i 7 (h.diode.flatMap (leBytes 1))).setN i 8 flags
  let s := (s.setN i 9 band).setN i 0xA h.demand
  if band ≠ was then s.readapt st else s

/-- THERMAL_MODEL_TICK (R343 to R348): `readings` are d0 to d5 of stove A, then of stove B, in 1/16 °C. -/
def execThermalModelTick (t : Nat) (readings : List Int) (s : State) : Host.Outcome State Fault Refusal :=
  act t (fun s =>
    if !s.damperRuns then s else
    eachBelow 2 (fun st s =>
      let rd := (List.range 6).map (fun d => readings.getD (6 * st + d) 0)
      let s := s.heatStep st rd
      let s := eachBelow 6 (fun d s => s.testDiode st d rd) s
      (s.thresholds st).showHeat st rd) s) s

/-- SPARE_DIODE_TAKEOVER (R345). -/
def execSpareDiodeTakeover (t : Nat) (stove : Fin 2) (diode : Fin 6) (s : State) : Host.Outcome State Fault Refusal :=
  act t (fun s =>
    let h := s.heat stove
    if s.damperRuns && decide (4 ≤ diode.val) && decide (h.diode.getD diode 0 = 2) && passed s (h.agreeFrom.getD (diode - 4) none) (tuSec 10) then
      match h.stands.getD (diode - 4) none with
      | some n => s.updHeat stove (fun h => { h with diode := h.diode.set diode 1, guard := h.guard.set n false })
      | none => s
    else s) s

/-- THROTTLE_STEP (R346). -/
def execThrottleStep (t : Nat) (stove : Fin 2) (s : State) : Host.Outcome State Fault Refusal :=
  act t (fun s =>
    let h := s.heat stove
    if s.damperRuns && h.throttle && s.throttleHot stove && decide (h.stepAt + tuMs 20 ≤ s.now) then
      let s := s.demandDown stove
      s.setN (0xA010 + stove) 0xA (s.heat stove).demand
    else s) s

/-- THROTTLE_RECOVERY_STEP (R347). -/
def execThrottleRecoveryStep (t : Nat) (stove : Fin 2) (s : State) : Host.Outcome State Fault Refusal :=
  act t (fun s =>
    let h := s.heat stove
    if s.damperRuns && h.recovering && decide (h.stepAt + tuMs 200 ≤ s.now) then
      let d := h.demand - 1
      (s.updHeat stove (fun h => { h with demand := d, stepAt := s.now, recovering := decide (d ≠ 0) })).setN (0xA010 + stove) 0xA d
    else s) s

/-- Retention voltage of a band (R312), in mV. -/
def retentionMv (band : Nat) : Nat := if band = 0 then 550 else if band = 1 then 600 else 650

/-- RETENTION_BAND_CHECK (R312): the hottest diode of each stove, in 1/16 °C. -/
def execRetentionBandCheck (t : Nat) (temps : List Int) (s : State) : Host.Outcome State Fault Refusal :=
  act t (fun s =>
    if !(s.isUp && decide (s.sys.mode = .banked)) then s else
    eachBelow 2 (fun st s =>
      let b := junctionBand (s.lv (0xA010 + st) 9) (temps.getD st 0)
      (s.setN (0xA010 + st) 9 b).updPwr (fun p => { p with retention := p.retention.set st (retentionMv b) })) s) s

/-! Wear monitors (R352). -/

/-- Rows that wait for repair, on each stove (Table 12-13). -/
def State.showPending (s : State) : State :=
  eachBelow 2 (fun st s => s.setN (0x8020 + st) 4 ((s.wear.entries.filter (fun e =>
    (e.kind = 2 || e.kind = 3) && e.flags.testBit 2 && decide (e.unit / 2 ^ 27 % 2 = st))).length)) s

/-- Number of a part: its place in WEAR_TABLE, or one above. -/
def wearIndex : WearPart → Nat
  | .withy w => w
  | .flueLane p l => 288 + 3 * p + l
  | .ethLane n l => 297 + 4 * n + l
  | .dramDevice ch rank sub dev => 512 + 12 * ch + 6 * rank + 3 * sub + dev
  | .sramRow st off => 2 ^ 32 + 2 ^ 27 * st + off
  | .withyRow w row => 2 ^ 40 + 2 ^ 16 * w + row

def wearInterval : WearPart → Nat
  | .withy _ => tuSec 10
  | .flueLane _ _ => tuSec 1
  | .ethLane _ _ => tuSec 1
  | _ => tuSec 3600

/-- A margin, in 1/256 %, of a part in WEAR_TABLE: entered as worn below WEAR_WARN. -/
def State.margin (s : State) (i kind unit : Nat) (m : Int) : State :=
  let s := { s with wear := { s.wear with margins := s.wear.margins.put 0x8000 i (unsigned 16 m) } }
  if m < (s.lv 0xA040 3 * 256 : Nat) then s.wearEnter kind 8 unit (unsigned 16 m) else s

/-- Measurements in a row that meet the retirement condition. -/
def State.countLow (s : State) (i : Nat) (low : Bool) : State × Nat :=
  let n := if low then s.wear.low.get 0 i + 1 else 0
  ({ s with wear := { s.wear with low := s.wear.low.put 0 i n } }, n)

/-- A row with 16 corrected words in its hour: repair pending, or only worn. -/
def State.rowWorn (s : State) (kind unit n : Nat) : State :=
  if n < 16 then s else (s.wearEnter kind (if s.lv 0xA040 1 = 1 then 4 else 8) unit 0x8000).showPending

/-- WEAR_MEASUREMENT (R352, Table 14-8): `measure` is the margin in 1/256 %, or a withy row's corrected words; corrected DRAM
lines and SRAM words are those the module has counted. -/
def execWearMeasurement (t : Nat) (part : WearPart) (measure : Int) (s : State) : Host.Outcome State Fault Refusal :=
  act t (fun s =>
    let i := wearIndex part
    let dueNow := match s.wear.lastAt.get none i with | some m => decide (m + wearInterval part ≤ s.now) | none => true
    if !(s.isUp && decide (s.sys.mode = .laid ∨ s.sys.mode = .lit) && decide (s.pwr.sag = 0) && dueNow) then s else
    let s := { s with wear := { s.wear with lastAt := s.wear.lastAt.put none i (some s.now) } }
    let auto := decide (s.lv 0xA040 1 = 1)
    match part with
    | .withy w =>
      let r := (s.margin i 1 (withyInit w) measure).countLow i (decide (measure < (s.lv 0xA040 2 * 256 : Nat)))
      if auto && decide (3 ≤ r.2) && decide (r.1.wState w < 2) then r.1.updWithy w (fun x => { x with marked := true })
      else if decide (3 ≤ r.2) then r.1.wearEnter 1 8 (withyInit w) (unsigned 16 measure) else r.1
    | .flueLane p l =>
      let unit := p.val + 16 * l.val
      let r := (s.margin i 6 unit measure).countLow i (decide (measure < (s.lv 0xA040 5 * 256 : Nat)))
      if r.2 < 60 then r.1
      else if auto then (r.1.retireLane p l).1.wearEnter 6 1 unit (unsigned 16 measure)
      else r.1.wearEnter 6 8 unit (unsigned 16 measure)
    | .ethLane n l => s.margin i 7 (n.val + 16 * l.val) measure
    | .dramDevice ch rank sub dev =>
      let d := 6 * rank.val + 3 * sub.val + dev.val
      let n := (s.dramCh ch).ceHour.get 0 d
      let s := s.updDram ch (fun x => { x with ceHour := x.ceHour.put 0 d 0 })
      if n < 256 then s
      else if auto && decide (s.rankState ch = 1) && decide (rank.val = 0) then s.retireRank ch false
      else s.wearEnter 5 8 (ch.val + 16 * rank.val + 32 * sub.val + 64 * dev.val) 0x8000
    | .sramRow st off =>
      let k := st.val * 2 ^ 27 + Config.sramRow off
      let n := s.mem.rowHour.get 0 k
      (s.updMem (fun m => { m with rowHour := m.rowHour.put 0 k 0 })).rowWorn 2 k n
    | .withyRow w row => s.rowWorn 3 (withyInit w * 2 ^ 16 + row) measure.toNat) s

/-! The wear record written back (R354). -/

/-- A flagged entry of the record applied; injected ones are not. -/
def State.applyEntry (s : State) (e : WearEntry) : State :=
  if e.flags.testBit 1 then s
  else if e.flags.testBit 0 then
    match e.kind with
    | 1 => match firstBelow 288 (fun w => decide (withyInit w = e.unit)) with
      | some w =>
        if s.wState w < 4 then
          let spare := decide (s.wState w = 1)
          let s := s.updWithy w (fun x => { x with st := 5, testEnd := none, marked := false })
          (if spare then s else s.testSpare (withySkein w) true).countWithies (withyHearth w) true
        else s
      | none => s
    | 4 =>
      let ch := e.unit % 16
      if bitAt e.unit 8 then (if s.rankState ch = 1 then s.setN (dramIdx ch) 7 4 else s)
      else if s.rankState ch = 1 then s.setN (dramIdx ch) 7 3
      else { s with sys := { s.sys with dramUsable := setBit s.sys.dramUsable ch false } }
    | 6 =>
      let p := e.unit % 4
      let l := e.unit / 16 % 4
      if s.linkUp p then (s.retireLane p l).1 else s.updLink p (fun x => { x with retired := setBit x.retired l true })
    | 8 => s.failDiode (e.unit / 8 % 2) (e.unit % 8) 4
    | _ => s
  else s

/-- Pending repairs made: the flag clears. -/
def repaired (e : WearEntry) : WearEntry :=
  if e.flags.testBit 2 ∧ (e.kind = 2 ∨ e.kind = 3) ∧ ¬ e.flags.testBit 1 then { e with flags := e.flags - 4 } else e

/-- A record applied: spares that replace retired usable ranks are judged after the spares' own retirements. -/
def State.applyWear (s : State) : State :=
  let es := s.wear.entries
  let first := es.filter (fun e => decide (e.kind = 4) && bitAt e.unit 8)
  let rest := es.filter (fun e => !(decide (e.kind = 4) && bitAt e.unit 8))
  let s := eachIn (first ++ rest) (fun e s => s.applyEntry e) s
  ({ s with wear := { s.wear with entries := s.wear.entries.map repaired } }).showPending

/-- The checks of R354 that a record's bytes decide: 0, or the code. -/
def State.wearCheck (s : State) (b : List Byte) : Nat :=
  let n := fieldAt b 3 2
  let es := readEntries b
  let plain := leBytes 28 (leNat (b.take 28)) ++ leBytes 4 0 ++ b.drop 32
  if b.length ≠ 32 + 16 * n ∨ b.length > 16416 then 4
  else if s.sys.mode ≠ .kindling ∨ s.sys.wearWritten then 7
  else if crc32c plain ≠ fieldAt b 31 28 ∨ fieldAt b 1 0 ≠ 1 ∨ fieldAt b 7 4 ≠ 0 ∨ fieldAt b 27 24 ≠ 0 ∨
      es.any (fun e => decide (e.kind = 0) || decide (8 < e.kind) || decide (15 < e.flags)) ∨
      (List.range n).any (fun i => decide (fieldAt (b.drop (32 + 16 * i)) 5 2 ≠ 0)) then 5
  else if fieldAt b 15 8 ≠ s.serial then 0xB
  else 0

/-- The module's own findings merged into a written record: flags join, a full record drops as R353 says. -/
def State.mergeEntry (s : State) (e : WearEntry) : State :=
  let put := fun (es : List WearEntry) => { s with wear := { s.wear with entries := es } }
  match s.wear.entries.find? (fun x => decide (x.kind = e.kind) && decide (x.unit = e.unit)) with
  | some _ => put (s.wear.entries.map (fun x => if x.kind = e.kind ∧ x.unit = e.unit
      then { x with flags := x.flags ||| e.flags, margin := if e.margin = 0x8000 then x.margin else e.margin } else x))
  | none =>
    if s.wear.entries.length < 1024 then put (s.wear.entries ++ [e])
    else match dropIndex s.wear.entries with
      | some i => put (s.wear.entries.eraseIdx i ++ [e])
      | none => s.raise { source := src 19 10, init := blockInit 0 59, access := 0xB }

/-- WEAR_RECORD written (R354): 0 or the abort code. -/
def State.wearWrite (s : State) (b : List Byte) : State × Nat :=
  let code := s.wearCheck b
  if code ≠ 0 then (s, code) else
  let own := s.wear.entries
  let s := { s with wear := { s.wear with entries := readEntries b, seq := fieldAt b 19 16 + s.wear.changes, hours0 := fieldAt b 23 20 },
                    sys := { s.sys with wearWritten := true } }
  let s := eachIn own (fun e s => s.mergeEntry e) s
  (s.applyWear, 0)

end Sys2Proof.Machine
end

