-- ==== Sys2Proof/Machine/Commit.lean ====
section
/-!
DEFINITION. Commits (R406 to R411, R417): the request, the end of validation, and how an accepted configuration applies in each
state, with everything the chapters have a commit report (R24, R50, R119 to R121, R134, R150, R184, R188, R192, R244).
-/
namespace Sys2Proof.Machine

/-! What each chapter does at a commit. Every operation follows the new configuration `m`, and `lit` says that the commit was made
while LIT, when running channels, flows and entries keep what R63 lets them keep. -/

/-- Whether an SX object of an index differs between two configurations. -/
def sxDiffers (old new : Tbl Val) (idx : Nat) : Bool :=
  (dictRows.filter (fun r => r.atIdx idx && decide (r.acc = .rs) && decide (r.apply = 5))).any (fun r =>
    (List.range (r.subHi + 1 - r.sub)).any (fun d => decide (objGet old (key idx (r.sub + d)) ≠ objGet new (key idx (r.sub + d)))))

/-- Reports of a channel (Table 2-7), with the look-ahead `lc`; they are updated at every commit, for disabled channels too (R61). -/
def State.reportChannel (s : State) (m : Tbl Val) (c lc : Nat) : State :=
  let i := 0x4000 + c
  let s := ((s.setN i 0xF (nStripes m c)).setN i 0x10 (stripePs m c)).setN i 0x11 (dMin m c lc)
  let s := ((s.setN i 0x12 lc).setN i 0x13 (canvasDelayNs m c)).setN i 0x14 (encRate m c)
  let late := (flowsOf m c).any (fun n => (List.range (gNf m n)).any (fun j =>
    let k := belongs m n j
    let k' := belongs m n (min (gNf m n - 1) (j + reach m n))
    decide ((nStripes m c : Int) * ts16 m c < ((chan m c 9 : Int) - 2 - lc + k' - k) * ts16 m c + 20000 * 65536)))
  s.setN (0xC020 + c) 4 (if late then 1 else 0)

/-- Reports of a flow (Table 2-8). -/
def State.reportFlow (s : State) (m : Tbl Val) (pl : List (Nat × Nat)) (n : Nat) : State :=
  let i := 0x5000 + n
  let w := segWidth m n (chan m (flow m n 2) 9) (s.lcOf (flow m n 2))
  let h := match pl.find? (fun p => decide (p.1 = n)) with | some p => p.2 | none => 0
  (((((s.setN i 0xF (subpicIndex m n)).setN i 0x10 h).setN i 0x11 w).setN i 0x12 (gNf m n)).setN i 0x13 (((s.flowSt n).params).getD (paramsOf m n w)).profileLevel)

/-- Reports of composition (R119 to R121, R134); a channel that a commit disables while it runs keeps its own until it stops. -/
def State.reportCompose (s : State) (m : Tbl Val) (pl : List (Nat × Nat)) : State :=
  let r := pipePlacement m pl
  let s := eachBelow 16 (fun c s =>
    let i := 0x3000 + c
    let on := (chanOn m).contains c
    if !on && s.chRunning c then s else
    let w := if on then window m c else ⟨0, 0, 0, 0⟩
    let ps := if on then pipesIn r.1 c else []
    let s := (s.setN i 0xA (sumList (ps.map (fun p => 2 ^ p)))).setN i 0xB w.x
    let s := ((s.setN i 0xC w.y).setN i 0xD w.w).setN i 0xE w.h
    let s := (s.setN i 0xF (if on then compRate m c else 0)).setB i 0x10
      ((List.range ps.length).flatMap (fun b => leBytes 2 (bandEdge m c ps.length b)))
    eachBelow 16 (fun l s => s.setN (layerIdx c l) 0x18 (if on then scalersOf m c ps.length l else 0)) s) s
  eachBelow 8 (fun p s =>
    let cs := (chanOn m).filter (fun c => (pipesIn r.1 c).contains p)
    ((s.setN (0x3830 + p) 1 (r.2.getD p 0 / 1001)).setN (0x3830 + p) 2 (scalersUsed m r.1 p)).setN (0x3830 + p) 3
      (sumList (cs.map (fun c => 2 ^ c)))) s

/-- Reports of the hearths and of memory (R115, R292, R299). -/
def State.reportMemory (s : State) (m : Tbl Val) (pl : List (Nat × Nat)) : State :=
  let s := eachBelow 8 (fun h s => s.setN (0xC010 + h) 3 (placedRate m pl h / 1001)) s
  let s := (s.setN 0x8000 6 (s.dramDemand m pl 0)).setN 0x8000 7 (s.dramDemand m pl 1)
  (s.setN 0x8000 8 (s.dramUse m pl 0)).setN 0x8000 9 (s.dramUse m pl 1)

/-- Capture inputs (R150, R151): units, states; an input that is newly in use starts without frames. -/
def State.commitInputs (s : State) (old m : Tbl Val) : State :=
  let start := fun (i : Nat) (s : State) =>
    s.updInp (fun x => { x with ins := x.ins.upd {} i (fun (y : Input) =>
      { ({} : Input) with nextId := y.nextId, since := s.mono, unit := y.unit, w := y.w, h := y.h, samp := y.samp, depth := y.depth, colour := y.colour, periodNs := y.periodNs }) })
  let fresh := fun (idx : Nat) => decide (cfg old idx 1 ≠ cfg m idx 1) || sxDiffers old m idx
  let s := eachBelow 2 (fun st s => eachIn (placeCaptures (s.captures m st)) (fun e s =>
    let s := s.updInput e.2.1 (fun x => { x with unit := 4 * st + e.1 })
    if e.2.1 < 16 then s.setN (0x2100 + e.2.1) 0x16 (4 * st + e.1) else s) s) s
  let s := eachBelow 16 (fun i s =>
    let s := if fresh (0x2100 + i) then start i s else s
    if cfg m (0x2100 + i) 1 = 1 then s.showIngest i else s.setN (0x2100 + i) 0x15 0) s
  let s := eachBelow 8 (fun r s =>
    if fresh (0x2190 + r) then (start (18 + r) s).setN (0x2190 + r) 7 (if cfg m (0x2190 + r) 1 = 1 then 1 else 0) else s) s
  let s := eachBelow 2 (fun p s =>
    let i := 0x2000 + p
    let s := if cfg m i 1 = 0 ∧ ((s.hdmi p).locked || (s.hdmi p).unsup) then s.loseHdmi p else s
    let s := if cfg old i 1 = 1 ∧ cfg m i 1 = 1 ∧ cfg old i 3 ≠ cfg m i 3 then (s.pulseHpd p).inputBoundary p else s
    s.showHdmi p) s
  let s := eachBelow 8 (fun r s => s.setN (0x2180 + r) 5 (if cfg m (0x2180 + r) 1 = 1 then s.relayRate m r else 0)) s
  s.showLib

/-- Ethernet ports (R172, R174, R175): those in use report their link, resolve their destinations and join their groups. -/
def State.commitPorts (s : State) (old m : Tbl Val) : State :=
  let s := eachBelow 10 (fun p s =>
    let runs := portOn m p && portCarries m p
    let was := portOn old p && portCarries old p
    let moved := runs && was && sxDiffers old m (0x6000 + p)
    let s := if !runs || !was || moved then s.updPort p (fun (x : Port) =>
        { ({} : Port) with link := x.link && runs && was, gate := x.gate, histAt := x.histAt, histLen := x.histLen, depth := x.depth, sojourn := x.sojourn })
      else s
    (s.showLink p).showWindows p) s
  let s := s.linkConds
  eachBelow 10 (fun p s => if s.portRuns p && (s.ethPort p).link then (s.igmpReport p).arpAll p else s) s

/-- The closed interval of a configuration's legs as the last commit used it (R187). -/
def State.gcBefore (s : State) (m : Tbl Val) (e : Nat) : Nat :=
  maxList ((txCfg m e).legs.map (fun p => s.outp.gcUsed.get 0 (8 * p + (txCfg m e).cls)))

/-- Shapers, sequence numbers and loads (R184, R187, R188, R192, R414). A shaper changes when a field of its entry or its automatic rate
does, whatever value the field resolves to (R188). -/
def State.commitEntries (s : State) (old m : Tbl Val) (lit : Bool) : State :=
  let before := fun (e : Nat) => autoRate old e (s.gcBefore old e)
  let autos := (entries m).map before
  let s := eachBelow 80 (fun i s => s.updOutp (fun o => { o with gcUsed := o.gcUsed.put 0 i (s.gcOf (i / 8) (i % 8)) })) s
  let s := eachIn ((entries m).zip autos) (fun ea s =>
    let e := ea.1
    let a := txCfg old e
    let b := txCfg m e
    let isNew := !(entryOn old e)
    let sh := shaperOf m e (s.gcEntry m e)
    let changed := decide ((a.rate, a.burst, a.cls, a.flags) ≠ (b.rate, b.burst, b.cls, b.flags)) ||
      decide (ea.2 ≠ autoRate m e (s.gcEntry m e))
    let s := if isNew || changed
      then s.updEnt e (fun y => { y with due := some sh }) else s
    let s := if isNew ∨ a.seqInit ≠ b.seqInit ∨ a.ssrc ≠ b.ssrc then s.updEnt e (fun y => { y with nextSeq := none, sentSeq := none }) else s
    if lit && !isNew then s else s.shaperDue e) s
  eachBelow 10 (fun p s =>
    let on := portOn m p && portCarries m p
    (s.setN (0x6000 + p) 0x17 (if on then 1000 * portPeak m p (fun e => s.gcEntry m e) (fun _ => true) else 0)).setN (0x6000 + p) 0x18
      (if on then roundDiv (tailPs m p) 1000 else 0)) s

/-- PTP instances (R207): those that run listen, the others are disabled; then the source order (R210). -/
def State.commitTime (s : State) (old m : Tbl Val) : State :=
  let s := eachBelow 4 (fun i s =>
    let n := i % 2
    let st := s.lv (0x7010 + n) (7 + i / 2)
    let same := !(sxDiffers old m (0x7010 + n)) && decide (cfg old (0x6000 + n) 2 = cfg m (0x6000 + n) 2)
    if !s.ptpRuns i then (if st = 5 then s else s.losePtp i 5)
    else if st = 5 ∨ !same then
      (if st = 5 then s else s.losePtp i 1).setPtpState i (if (s.ethPort (s.ptpPort n)).link then 1 else 4)
    else s) s
  s.reselect

/-- Audio ports and flows (R227, R230, R231); a port starts acquiring when it comes into use or its format changes. -/
def State.commitAudio (s : State) (old m : Tbl Val) : State :=
  let s := eachBelow 16 (fun p s =>
    let i := 0x7100 + p
    if cfg m i 1 = 0 then (s.updAPort p (fun _ => {})).setN i 0xB 0
    else if cfg old i 1 = 0 ∨ sxDiffers old m i then (s.updAPort p (fun _ => {})).setN i 0xB 1
    else s) s
  let s := eachBelow 32 (fun a s =>
    let i := 0x7120 + a
    s.setN i 7 (if cfg m i 1 = 0 then 0 else if cfg m i 2 = 0 then 1 else if cfg m i 4 ≤ 8 then 2 else 3)) s
  s.showLeads.showMclk

/-- Flue ports held down or let up, and the reservations of this module (R236, R244, R245). -/
def State.commitFlue (s : State) (old m : Tbl Val) : State :=
  let rs := s.reservedBy m
  let s := s.updFlue (fun x => { x with reserves := x.reserves.filter (fun r => decide (r.origin ≠ s.myId)) ++ rs.filter Reserve.held })
  let s := eachBelow 8 (fun r s =>
    if cfg m (0x2180 + r) 1 = 0 ∧ (s.inp.relay.get {} r).suspended then
      { s with inp := { s.inp with relay := s.inp.relay.upd {} r (fun x => { x with suspended := false }) } }.cond
        { source := src 4 14, dom := domRelay r, init := blockInit 0 46, access := 7 } false
    else s) s
  (eachBelow 3 (fun p s =>
    if cfg old (0x8110 + p) 1 = cfg m (0x8110 + p) 1 then s
    else if cfg m (0x8110 + p) 1 = 0 then s.dropLink p (s.link p).signal
    else s.setN (0x8110 + p) 2 1) s).showReserved

/-- Hearth pairs (R263 to R265): roles and states in a commit made in KINDLING or LAID; planned switch-overs while LIT. -/
def State.commitPairs (s : State) (m : Tbl Val) (lit : Bool) : State :=
  let side := cfg m 0x8200 2
  if cfg m 0x8200 1 = 0 then
    (if lit then s else eachBelow 4 (fun i s => (s.setN (0x8201 + i) 1 0).updPair i (fun _ => {})) (s.setN 0x8200 3 0))
  else if lit then
    eachBelow 4 (fun i s => (s.mirrorParams m i).updPair i (fun x => { x with planned := decide (side.testBit i ≠ (s.lv 0x8200 3).testBit i) })) s
  else
    eachBelow 4 (fun i s =>
      let out := decide (s.pairState i = 5) && s.paired && (s.hearthSt (otherSide (i + (if side.testBit i then 4 else 0)))).fenced
      ((s.updPair i (fun _ => {})).setN (0x8201 + i) 1 (if out then 5 else 1)).mirrorParams m i) (s.setN 0x8200 3 (side % 16))

/-- The module twin (R279 to R283): role, hash, its exchange, and a planned handoff while LIT. -/
def State.commitTwin (s : State) (m : Tbl Val) (lit : Bool) : State :=
  let h := twinHashOf m
  let role := cfg m 0x8210 3
  if cfg m 0x8210 1 = 0 then
    let s := s.updPairs (fun p => { pairs := p.pairs })
    let s := if (s.inp.relay.get {} 8).suspended then
        { s with inp := { s.inp with relay := s.inp.relay.upd {} 8 (fun x => { x with suspended := false }) } }.cond
          { source := src 4 14, dom := domTwin, init := blockInit 0 46, access := 7 } false
      else s
    let s := (((s.setN 0x8210 7 0).setN 0x8210 8 0).setN 0x8210 9 0xFFFF).setN 0x8210 0xA h
    (s.setN 0x8210 0xC 0).cond { source := src 4 15, dom := domTwin, init := blockInit 0 46, access := 0xB } false
  else
    let cs := (List.range 16).filter (fun c => (cfg m 0x8210 4).testBit c)
    let s := (s.setN 0x8210 0xA h).setN 0x8210 0xC (mirrorRate m)
    let s := if lit then s else
      (s.setN 0x8210 7 role).updPairs (fun p => { pairs := p.pairs, twinHash := p.twinHash, muted := if role = 1 then cs else [] })
    let s := s.twinReach
    let s := s.flueTo { dest := cfg m 0x8210 2, src := s.myId, cls := 2, typ := 0x20, pay := [3, h] }
    let bad := decide (s.pair.twinHash.isSome) && decide (s.pair.twinHash ≠ some h)
    let s := s.cond { source := src 4 15, dom := domTwin, init := blockInit 0 46, access := 0xB } bad
    let st := s.lv 0x8210 8
    let s := s.setN 0x8210 8 (if bad then 7 else if lit ∧ st ≠ 7 then st else if s.pair.twinHash.isSome then 1 else 0)
    if lit ∧ role ≠ s.lv 0x8210 7 then s.askHandoff 5 else s

/-! Applying (R411, R61, R63, R64). -/

/-- The configuration in force right after a commit made while LIT: channels that run, or are to start, keep their part until
their next frame start. -/
def State.inForceLit (s : State) (new : Tbl Val) : Tbl Val :=
  (chanOn s.comm).foldl (fun m c => mergeChan m s.comm c ((flowsOf s.comm c ++ flowsOf new c).eraseDups)) new

/-- A channel of a commit made while LIT: its change falls due at its next frame start, at its stop, or at its start. -/
def State.commitChannelLit (s : State) (old new : Tbl Val) (c : Nat) : State :=
  let was := (chanOn old).contains c
  let will := (chanOn new).contains c
  if was then
    let s := s.updChan c (fun x => { x with staged := some new, changeDue := true, errPending := x.errPending || decide (chan old c 0xA ≠ chan new c 0xA) })
    let gone := (flowsOf old c).filter (fun n => !((flowsOf new c).contains n))
    let s := if s.chRunning c then eachIn gone (fun n s => s.updFlow n (fun x => { x with lastFrame := some (x.lastFrame.getD (s.frameNo c)) })) s else s
    if will then s
    else if s.chRunning c then s.updChan c (fun x => { x with stopping := true })
    else s.dropChannel c
  else if will then
    (eachIn (flowsOf new c) (fun n s => s.setFlowState n 1) (s.startChannel c 0)).updChan c (fun x => { x with changeDue := true })
  else s

/-- Audio entries of a commit made while LIT: those newly enabled start, those disabled end. -/
def State.commitAudioLit (s : State) (old new : Tbl Val) : State :=
  eachBelow 32 (fun a s =>
    let e := 4096 + a
    if entryOn new e then (if entryOn old e then s else s.armAudio a s.mono)
    else if entryOn old e then
      ((s.updEnt e (fun x => { x with armed := false, queue := [] })).setN (0x7120 + a) 8 0).updAudio (fun x => { x with next := x.next.put none a none })
    else s) s

/-- Channels and flows outside LIT: armed or off (R411). -/
def State.commitArmed (s : State) (old new : Tbl Val) : State :=
  let s := eachBelow 16 (fun c s => s.setN (0x4000 + c) 0x15 (if (chanOn new).contains c then 1 else 0)) s
  let s := eachIn ((flowsOn old).filter (fun n => !((flowsOn new).contains n))) (fun n s => s.endFlow n 0) s
  eachIn (flowsOn new) (fun n s => s.setFlowState n 1) s

/-- A START that is pending takes the channels and entries of the configuration now committed (R413). -/
def State.restart (s : State) : State :=
  match s.sys.startFrom with
  | some (some m) =>
    let left := usCtr 1000 - (s.now - m) * 2 ^ 40 / 36
    let s := eachBelow 16 (fun c s =>
      if !((chanOn s.comm).contains c) then s.updChan c (fun x => { x with startAt := none })
      else s.startChannel c left) s
    eachBelow 32 (fun a s => if entryOn s.comm (4096 + a) then s.armAudio a (s.mono + left) else s) s
  | _ => s

/-- An accepted configuration applies (R411). `dev` is what the touch device's descriptor answers, if it is asked. -/
def State.applyCommit (s : State) (new : Tbl Val) (dev : Option TouchDev) : State :=
  let lit := s.litNow
  let old := s.comm
  let kept := s.kept new
  let pl := placement new kept
  let drains := s.pipe.placed.filter (fun p => lit && (flowsOn old).contains p.1 && !((flowsOn new).contains p.1))
  let lcs := (List.range 16).map (fun c => s.lcIn new c)
  let held := (List.range 16).filter s.chanHeld
  let s := { s with committed := new, comm := if lit then s.inForceLit new else new }
  let s := eachBelow 16 (fun c s => s.reportChannel new c (lcs.getD c 0)) s
  let s := s.updPipe (fun p => { p with placed := pl ++ drains })
  let s := eachIn (flowsOn new) (fun n s => s.reportFlow new pl n) s
  let s := ((s.reportCompose new pl).reportMemory new pl).commitPairs new lit
  let s := (s.commitInputs old new).commitPorts old new
  let s := ((s.commitEntries old new lit).commitTime old new).commitAudio old new
  let s := (s.commitFlue old new).commitTwin new lit
  let s := eachIn ((chanOn new).filter (fun c => !(held.contains c))) (fun c s => s.councilForm c) s
  let s := eachIn ((List.range 16).filter (fun c => !(held.contains c))) (fun c s => s.setN (0x4100 + c) 0xF (defHash new c)) s
  let s := if lit then (eachBelow 16 (fun c s => s.commitChannelLit old new c) s).commitAudioLit old new else (s.commitArmed old new).restart
  let touch := (List.range 4).any (fun i => decide (cfg old 0xB002 (1 + i) ≠ cfg new 0xB002 (1 + i)))
  let s := if touch then s.touchInit dev else s
  s.gateHearths.settleIdle.setBudget new

/-! The request and its end. -/

/-- COMMIT_REQ (R407): 0 or the abort code. A commit takes the pending copies as they stand (R408). -/
def State.commitAsk (s : State) (v : Nat) : State × Nat :=
  if s.sys.mode = .damped ∨ s.sys.mode = .cold ∨ (s.sys.mode = .kindling ∧ s.sys.fwRuns = false) then (s, 7)
  else if s.sys.validating.isSome then (s, 8)
  else if s.lv 0x1F00 2 = 4 then (s, 0xA)
  else ({ s with sys := { s.sys with validating := some (v, s.pend) } }.setN 0x1F00 2 1, 0)

/-- A refused commit (R409, R410). -/
def State.refuseCommit (s : State) (es : List CErr) : State :=
  let s := ((s.setN 0x1F00 2 3).inc 0x1F00 0xB).setB 0x1F01 1 ((es.take 16).flatMap CErr.bytes)
  (s.setN 0x1F01 2 (min 65535 es.length)).note (src 0 1)

/-- The commit's own reports (R411): count, instant, no writes pending, no error. -/
def State.countCommit (s : State) : State :=
  let s := (s.inc 0x1F00 0xA).setN 0x1F00 0xC (ctrTime s.ctrNow)
  let s := ((s.setN 0x1F00 9 0).setB 0x1F01 1 []).setN 0x1F01 2 0
  { s with sys := { s.sys with everAccepted := true } }

/-- An accepted commit (R411). -/
def State.acceptCommit (s : State) (new : Tbl Val) (dev : Option TouchDev) : State :=
  let lit := s.litNow
  let s := (s.countCommit.applyCommit new dev).makeSdp new
  if lit then (s.setN 0x1F00 2 4).settleCommit
  else if s.sys.mode = .kindling then ((s.setN 0x1F00 2 2).setMode .laid).showMclk
  else s.setN 0x1F00 2 2

/-- Whether the self-test of a spare that the wear record called for still runs: a commit counts withies once it has ended (R10, R115). -/
def State.awaitsSpares (s : State) : Bool :=
  (List.range 288).any (fun w => decide (s.wState w = 2) && (s.withySt w).wearTest && !(s.withySt w).passed)

/-- COMMIT_VALIDATION_DONE (R408 to R411, R417): `dev` is what the touch device's descriptor answers, if it is asked. Validation does not
end while the self-tests of R115 run. -/
def execCommitValidationDone (t : Nat) (dev : Option TouchDev) (s : State) : Host.Outcome State Fault Refusal :=
  act t (fun s =>
    match s.sys.validating with
    | none => s
    | some (v, new) =>
      if s.awaitsSpares then s else
      let s := { s with sys := { s.sys with validating := none } }
      match s.commitErrors v new with
      | [] => s.acceptCommit new dev
      | es => s.refuseCommit es) s

end Sys2Proof.Machine
end

