-- ==== Sys2Proof/Machine/Clocks.lean ====
section
/-!
DEFINITION. The 120 clock domains of Table 1-6 (R24, R25): which of them run. A hearth's domains are gated and ungated at boundaries and
stand in `Hearth.gated`; the others follow the state and the configuration in force (assumption 111).
-/
namespace Sys2Proof.Machine

/-- The KINDLING column of Table 1-6: domains of a stove that run there. -/
def kindlingRuns (n : Nat) : Bool :=
  decide (32 ≤ n ∧ n ≤ 47) || [51, 52, 55, 56, 58, 59].contains n

/-- Domains of functions that stove B has no contacts for (R15, Table 1-6). -/
def notBonded (st n : Nat) : Bool := decide (st = 1) && [47, 53, 54].contains n

/-- Whether a configured function uses a domain of a stove outside KINDLING, BANKED and COLD (R24). -/
def State.domainUsed (s : State) (st n : Nat) : Bool :=
  let m := s.comm
  if n < 16 then !(s.hearthSt (4 * st + n / 4)).gated
  else if n < 24 then !(s.hearthSt (4 * st + n % 4)).gated
  else if n < 28 then (chanOn m ++ s.runningChans).any (fun c => (s.lv (0x3000 + c) 0xA).testBit (4 * st + (n - 24)))
  else if n < 32 then (placeCaptures (s.captures m st)).any (fun e => decide (e.1 = n - 28))
  else if n = 46 ∨ n = 47 then decide (cfg m (0x8110 + (if st = 1 then 1 else 2 * (n - 46))) 1 = 1)
  else if n = 48 then decide (cfg m (0x6000 + st) 1 = 1)
  else if n = 49 then decide (cfg m (0x2000 + st) 1 = 1)
  else if n = 50 then (entries m).any (fun e => (txCfg m e).legs.any (fun p => decide (portSide p = st))) ||
    s.pipe.placed.any (fun p => decide (p.2 / 4 = st))
  else if n = 53 then (List.range 16).any (fun p => decide (cfg m (0x7100 + p) 1 = 1)) ||
    (List.range 32).any (fun a => decide (cfg m (0x7120 + a) 1 = 1)) || decide (cfg m 0x7110 1 ≠ 0) || decide (cfg m 0x7110 3 ≠ 0)
  else if n = 57 then s.pipe.placed.any (fun p => decide (p.2 / 4 = st))
  else true

/-- Whether a module-wide domain number, 64 × stove + n, names a domain that runs (Table 1-6). -/
def State.domainRuns (s : State) (d : Nat) : Bool :=
  let st := d / 64
  let n := d % 64
  if 2 ≤ st ∨ 60 ≤ n ∨ s.sys.boot = .off ∨ notBonded st n then false
  else if n = 55 then true
  else match s.sys.mode with
    | .kindling => s.isUp && kindlingRuns n
    | .banked | .cold => false
    | .laid | .lit | .damped => s.isUp && s.domainUsed st n

end Sys2Proof.Machine
end

