-- ==== Sys2Proof/Machine/Bringup.lean ====
section
/-!
DEFINITION. Power-up, reset, START, STOP, HOLD_N, BANKED and wake (R22, R23, R309, R334, R349 to R351, R399 to R405, R412 to R417), the
firmware image, and the pins of R317, R349 and R432.
-/
namespace Sys2Proof.Machine

/-! From power to KINDLING (Table 17-1). -/

/-- What manufacture gives the identity objects. -/
def State.fixedObjects (s : State) : State :=
  ((s.setN 0x1000 3 Config.serial.toNat).setN 0x1000 4 (Config.hwRevision.toNat / 256 * 256)).setN 0x1000 5 Config.romVersion.toNat

/-- POWER_STAGE_START (R334, R399): a +5V that already stands is debounced from now (R160). -/
def execPowerStageStart (t vin : Nat) (s : State) : Host.Outcome State Fault Refusal :=
  actAny t (fun s =>
    if s.sys.boot ≠ .off ∨ s.pwr.latched ∨ vin < 34000 then s else
    let s := s.updPwr (fun p => { p with vin := vin })
    let s := { s with inp := { s.inp with hdmi := s.inp.hdmi.map (fun (e : Nat × Hdmi) => (e.1, { e.2 with debounceAt := some (s.now + tuMs 100) })) } }
    { s with sys := { s.sys with boot := .converting, upAt := s.now }, wear := { s.wear with from_ := s.now } }.fixedObjects) s

/-- PG_ASSERTED (R399): the always-on domain runs, and samples HOLD_N (R415). -/
def execPgAsserted (t : Nat) (s : State) : Host.Outcome State Fault Refusal :=
  actAny t (fun s =>
    if s.sys.boot = .converting then
      { s with sys := { s.sys with boot := .pg } }.setN 0x1F00 8 (if s.sys.holdN then 1 else 0)
    else s) s

/-- ROOT_PLL_LOCK (R22, R202, R238, R400): not while RST_N is low; the time counter starts at 0 and Flue training begins. -/
def execRootPllLock (t : Nat) (s : State) : Host.Outcome State Fault Refusal :=
  actAny t (fun s =>
    if s.sys.boot = .pg ∧ s.sys.rstLow = false ∧ s.sys.mode ≠ .cold then
      { s with sys := { s.sys with boot := .pll }, clk := { ({} : Clock) with at_ := s.now, run := true } }
    else s) s

/-- Levels in force at power-up and on wake (R336): those whose restore threshold lies above VIN. -/
def sagAtStart (vin : Nat) : Nat := (sagLeaveAt.filter (fun v => decide (vin < v))).length

def State.startSag (s : State) : State :=
  let l := sagAtStart s.pwr.vin
  let s := (s.updPwr (fun p => { p with sag := l })).setN 0xA000 3 l
  (eachBelow l (fun i s => s.cond (damperEv (src 1 i) 0xA) true) s).settleIdle

/-- An event of an SRAM array out of spare rows (R311), found by the self-test. -/
def sparesOut (stove k dom init : Nat) : Ev := { source := src 15 (8 * stove + k), dom := dom, init := init, access := 8 }

/-- What the SRAM self-test found (R311). -/
def State.takeTest (s : State) (test : SramTest) : State :=
  let s := eachBelow 2 (fun st s => s.setN (0x8020 + st) 3 (test.repaired.getD st 0)) s
  let drop := fun (w : Nat) (s : State) => if s.wState w < 4 then s.retireWithy w else s
  let s := eachIn test.withies (fun w s =>
    ((drop w s).raise (sparesOut (w.val / 144) 3 (domSkein (withySkein w)) (withyInit w))).countWithies (withyHearth w) true) s
  let s := eachIn test.skeins (fun k s =>
    ((eachIn (skeinWithies k) drop s).raise (sparesOut (k.val / 16) 3 (domSkein k) (cacheInit k))).countWithies (k.val / 4) true) s
  let s := eachIn test.hearths (fun h s =>
    ((s.updHearth h (fun x => { x with badMem := true })).raise (sparesOut (h.val / 4) 4 (domHearth h) (hearthInit h 0xF))).countWithies h true) s
  eachIn test.others (fun st s => s.raise (sparesOut st 5 domModule (blockInit st 44))) s

/-- KINDLING_ENTERED (R311, R399, R416): self-test and row repair done; a wear record kept across a reset applies again. -/
def execKindlingEntered (t : Nat) (test : SramTest) (s : State) : Host.Outcome State Fault Refusal :=
  actAny t (fun s =>
    if s.sys.boot = .pll ∧ s.sys.rstLow = false ∧ s.sys.mode ≠ .cold then
      let s := { s with sys := { s.sys with boot := .up, mode := .kindling, modeReq := .kindling, modeLast := .kindling },
                            gran := { s.gran with hotJoinAt := s.now + tuMs 10 } }
      let s := eachBelow 8 (fun h s => s.countWithies h false) s
      let s := (s.startSag.takeTest test).applyWear
      if s.sys.testRstHigh then s.cond { source := src 19 8, init := moduleInit } true else s
    else s) s

/-- DRAM_TRAINING_DONE (R289, R399, R401): `usable` and `spare` are the channels whose usable and spare rank trained. -/
def execDramTrainingDone (t usable spare : Nat) (s : State) : Host.Outcome State Fault Refusal :=
  act t (fun s =>
    if s.isUp && decide (s.sys.mode = .kindling) && decide (s.sys.dramUsable = 0) then
      let s := { s with sys := { s.sys with dramUsable := usable % 256, dramSpare := spare % 256 &&& 0x11 } }
      let s := eachBelow 8 (fun ch s =>
        let s := if ch % 4 = 0 then s.setN (dramIdx ch) 7 (if spare.testBit ch then 1 else 4) else s
        if usable.testBit ch then s
        else s.cond { source := dramSrc ch 3, dom := domDram ch, init := dramInit ch, access := 8 } true) s
      let ranks := s.wear.entries.filter (fun e => decide (e.kind = 4))
      let s := eachIn (ranks.filter (fun e => bitAt e.unit 8)) (fun e s => s.applyEntry e) s
      (eachIn (ranks.filter (fun e => !bitAt e.unit 8)) (fun e s => s.applyEntry e) s).dramWake
    else s) s

/-! Faults of the supply and of the clock. -/

/-- The power stage latches off (R334): the module enters COLD and nothing but the always-on domain runs. -/
def State.latchOff (s : State) (source : Nat) : State :=
  let s := s.raise { source := source, init := moduleInit, access := 0xA }
  let s := s.enterCold.syncClk
  { s with pwr := { s.pwr with latched := true }, clk := { s.clk with run := false } }

/-- INPUT_OVERVOLTAGE (R334): VIN above 80.0 V for 1 µs. -/
def execInputOvervoltage (t vin : Nat) (s : State) : Host.Outcome State Fault Refusal :=
  act t (fun s => if s.sys.boot = .off ∨ s.pwr.latched ∨ vin ≤ 80000 then s else (s.updPwr (fun p => { p with vin := vin })).latchOff (src 1 5)) s

/-- POWER_STAGE_FAULT (R334). -/
def execPowerStageFault (t : Nat) (s : State) : Host.Outcome State Fault Refusal :=
  act t (fun s => if s.sys.boot = .off ∨ s.pwr.latched then s else s.latchOff (src 1 6)) s

/-- OVERVOLTAGE_LATCH_RELEASE (R322, R334): VIN below 27.0 V. -/
def execOvervoltageLatchRelease (t vin : Nat) (s : State) : Host.Outcome State Fault Refusal :=
  actAny t (fun s => if s.pwr.latched && decide (vin < 27000) then s.powerOff else s) s

/-- ROOT_PLL_LOCK_LOST (R23): `forwarded` when it is the forwarded root clock at stove B that is lost. -/
def execRootPllLockLost (t : Nat) (forwarded : Bool) (s : State) : Host.Outcome State Fault Refusal :=
  act t (fun s =>
    if (s.sys.boot = .pll ∨ s.sys.boot = .up) ∧ s.sys.mode ≠ .cold ∧ s.sys.mode ≠ .banked then
      let b := if forwarded then 1 else 0
      let s := s.raise { source := src 3 b, init := blockInit b 55 }
      let s := s.enterCold.syncClk
      { s with clk := { s.clk with run := false } }
    else s) s

/-- The clock domain that a crossing's FIFO belongs to, module-wide. -/
def crossingDomain : Crossing → Nat
  | .eth n => 64 * n + 48
  | .flue p => if p.val = 1 then 64 + 46 else 46 + p.val / 2
  | .hdmi p => 64 * p + 49
  | .i3c => 44
  | .i2s _ => 53
  | .refPps => 51

/-- The clock domain of a block, module-wide (Table 1-6). -/
def blockDomain : Block → Nat
  | .rateCouncil st => 64 * st + 57
  | .dieBridge st => 64 * st + 52
  | .standInBuilder st => 64 * st + 50
  | .shaper => 50
  | .audio => 53
  | .housekeeping n => 44 + n
  | .tables => 44
  | .collector => 58

/-- CROSSING_FIFO_ERROR (R26): a gated domain reports nothing (assumption 111). -/
def execCrossingFifoError (t : Nat) (x : Crossing) (s : State) : Host.Outcome State Fault Refusal :=
  act t (fun s =>
    if !s.domainRuns (crossingDomain x) then s else
    s.raise (match x with
      | .eth n => { source := src (5 + n) 12, dom := domEth n, init := ethInit n }
      | .flue p => flueEv p (9 + p) 8
      | .hdmi p => { source := src 7 (28 + p), dom := domInput (16 + p), init := blockInit p 49 }
      | .i3c => { source := src 19 4, init := blockInit 0 44 }
      | .i2s p => { source := src 17 (16 + p), dom := domAudio p, init := blockInit 0 53 }
      | .refPps => { source := src 3 15, init := timeInit })) s

/-- BLOCK_CHECKER_EVENT (R315): a checker of a block that has no step of its own, or a retry of the die bridge (R331); none in a gated
domain (assumption 111). -/
def execBlockCheckerEvent (t : Nat) (b : Block) (s : State) : Host.Outcome State Fault Refusal :=
  act t (fun s =>
    if !s.domainRuns (blockDomain b) then s else
    match b with
    | .rateCouncil st => s.raise { source := src (9 + st) 20, init := blockInit st 57 }
    | .dieBridge st =>
      let r := s.takeInj 8 (fun u => decide (u % 2 = (if st.val = 1 then 0 else 1))) (fun _ => true)
      r.1.raise { source := src (9 + st) 21, init := blockInit st 52, inj := r.2 }
    | .standInBuilder st => s.raise { source := src (9 + st) 22, init := blockInit st 50 }
    | .shaper => s.raise { source := src 12 3, init := blockInit 0 50 }
    | .audio => s.raise { source := src 17 24, init := blockInit 0 53 }
    | .housekeeping n => s.raise { source := src 19 (1 + n), init := blockInit 0 (44 + n) }
    | .tables => s.raise { source := src 19 3, init := blockInit 0 44, access := 1 }
    | .collector => s.raise { source := src 19 9, init := blockInit 0 58 }) s

/-- UNCORRECTABLE_FEC_CODEWORD (R240, R315): counted; on Ethernet an event, on the Flue the 16th in a row takes the link down. -/
def execUncorrectableFecCodeword (t : Nat) (port : FecPort) (s : State) : Host.Outcome State Fault Refusal :=
  act t (fun s =>
    match port with
    | .eth p =>
      if s.portRuns p && (s.ethPort p).link then
        (s.inc (0x6000 + p) 0x12).raise { source := src (portGroup p) 11, dom := domEth p, init := ethInit p, access := 6 }
      else s
    | .flue p =>
      if (s.link p).trainedAt.isNone then s else
      let s := (s.inc (0x8110 + p) 0xC).updLink p (fun x => { x with badRun := x.badRun + 1 })
      if 16 ≤ (s.link p).badRun then s.dropLink p true else s) s

/-! Reset (R400, R416, R433). -/

/-- A reset: identity, wear record, HOURS and serial stay, as do what lies outside the reset (VIN, contacts, test port). -/
def State.resetTo (s : State) (cause : Nat) : State :=
  let w := s.wear
  let r : State := { State.reset with
    now := s.now, out := s.out, pending := s.pending, free := s.free,
    sys := { ({} : Sys) with boot := .pg, rstLow := s.sys.rstLow, upAt := s.now, wearWritten := s.sys.wearWritten, holdN := s.sys.holdN,
                             testRstHigh := s.sys.testRstHigh, tapA := s.sys.tapA, tapB := s.sys.tapB },
    pwr := { ({} : Power) with vin := s.pwr.vin },
    wear := { ({} : Wear) with entries := w.entries, seq := w.seq, changes := w.changes, hours0 := w.hours0, from_ := w.from_ },
    inp := { ({} : Inputs) with hdmi := s.inp.hdmi.map (fun (e : Nat × Hdmi) =>
      (e.1, { ({} : Hdmi) with fiveV := e.2.fiveV, debounceAt := if e.2.fiveV then some (s.now + tuMs 100) else none })) },
    flue := { ({} : Flue) with links := s.flue.links.map (fun (e : Nat × Link) => (e.1, { ({} : Link) with signal := e.2.signal, retired := e.2.retired })) } }
  ((r.fixedObjects.setN 0x8100 7 s.myId).setN 0x1F00 0xE cause).setN 0x1F00 8 (if s.sys.holdN then 1 else 0)

/-- RST_N_LOW (R400, R416, R433): COLD takes no reset from it, and the contact's level stands until it rises. -/
def execRstNLow (t : Nat) (s : State) : Host.Outcome State Fault Refusal :=
  actAny t (fun s =>
    let s := { s with sys := { s.sys with rstLow := true } }
    if s.sys.mode ≠ .cold ∧ (s.sys.boot = .pll ∨ s.sys.boot = .up) then s.resetTo 1 else s) s

/-- RST_N_RELEASE (R400). -/
def execRstNRelease (t : Nat) (s : State) : Host.Outcome State Fault Refusal :=
  actPin t (fun s => { s with sys := { s.sys with rstLow := false } }) (fun s => { s with sys := { s.sys with rstLow := false } }) s

/-- RESET written (R416, R388): 0 or the abort code. -/
def State.resetAsk (s : State) : State × Nat := if s.sys.mode = .banked ∨ s.sys.mode = .cold then (s, 7) else (s.resetTo 2, 0)

/-! START, STOP and HOLD_N (R413 to R415, R417). -/

/-- START (R413, R415, R417): 0 or the abort code. -/
def State.startAsk (s : State) : State × Nat :=
  if s.sys.validating.isSome then (s, 8)
  else if s.sys.mode ≠ .laid ∨ s.sys.startFrom.isSome ∨ s.sys.banking then (s, 7)
  else if s.sys.holdN then ({ s with sys := { s.sys with startFrom := some none, modeReq := .lit } }, 0)
  else (s.startAll, 0)

/-- A pending or deferred START is cancelled (R414, R415). -/
def State.cancelStart (s : State) : State :=
  let s := { s with sys := { s.sys with startFrom := none, modeReq := s.sys.mode } }
  (eachBelow 16 (fun c s => if (s.chanOf c).startAt.isSome then s.dropChannel c else s) s).stopAudio

/-- Every channel to stop (R414). -/
def State.stopLit (s : State) : State := { s with sys := { s.sys with modeReq := .laid } }.stopChannels

/-- STOP (R414, R417): 0 or the abort code. -/
def State.stopAsk (s : State) : State × Nat :=
  if s.sys.validating.isSome then (s, 8)
  else if s.sys.mode = .lit then
    let s := { s with sys := { s.sys with holdStop := false } }
    (if s.sys.stopping then s else s.stopLit, 0)
  else if s.sys.mode = .damped then
    let s := { s with sys := { s.sys with stopInDamped := true } }
    (if s.sys.startFrom.isSome then s.cancelStart else s, 0)
  else if s.sys.mode = .laid ∧ s.sys.startFrom.isSome then (s.cancelStart, 0)
  else (s, 7)

/-- HOLD_N is sampled by the always-on domain (R415); COLD and a latched stage are unchanged by it (R322). -/
def State.holdServed (s : State) : Bool :=
  decide (s.sys.boot ≠ .off ∧ s.sys.boot ≠ .converting) && decide (s.sys.mode ≠ .cold)

/-- HOLD_N_ASSERTED (R415): the contact's level is known from the moment the module samples it. -/
def execHoldNAsserted (t : Nat) (s : State) : Host.Outcome State Fault Refusal :=
  actPin t (fun s => { s with sys := { s.sys with holdN := true } }) (fun s =>
    if s.sys.holdN then s else
    let s := { s with sys := { s.sys with holdN := true } }
    if !s.holdServed then s else
    let s := s.setN 0x1F00 8 1
    if s.sys.mode = .lit ∧ s.sys.stopping = false then { s with sys := { s.sys with holdStop := true } }.stopLit else s) s

/-- HOLD_N_RELEASED (R413, R415). -/
def execHoldNReleased (t : Nat) (s : State) : Host.Outcome State Fault Refusal :=
  actPin t (fun s => { s with sys := { s.sys with holdN := false } }) (fun s =>
    if s.sys.holdN = false then s else
    let s := { s with sys := { s.sys with holdN := false } }
    if !s.holdServed then s else
    let s := s.setN 0x1F00 8 0
    if s.sys.startFrom = some none then s.startAll else s) s

/-- START_NO_CHANNEL_TIMER (R413, R415): 1 ms after START takes effect. -/
def execStartNoChannelTimer (t : Nat) (s : State) : Host.Outcome State Fault Refusal :=
  act t (fun s =>
    match s.sys.startFrom with
    | some (some m) =>
      if decide (chanOn s.comm = []) && decide (m + tuMs 1 ≤ s.now) then
        let s := { s with sys := { s.sys with startFrom := none } }
        if s.sys.mode = .laid then
          let s := s.setMode .lit
          if s.sys.holdN then { s with sys := { s.sys with holdStop := true } }.stopLit else s
        else if s.sys.mode = .damped then { s with sys := { s.sys with dampedFrom := .lit } }
        else s
      else s
    | _ => s) s

/-! BANKED and wake (R309, R312, R349 to R351). -/

/-- BANK (R349, R388, R417): 0 or the abort code; from here to the end of the wake no request is answered. -/
def State.bankAsk (s : State) : State × Nat :=
  if s.sys.validating.isSome then (s, 8)
  else if s.sys.mode = .lit then
    let s := { s with sys := { s.sys with banking := true, holdStop := false, modeReq := .banked } }
    (if s.sys.stopping then s else s.stopChannels, 0)
  else if s.sys.mode = .laid then
    let s := if s.sys.startFrom.isSome then s.cancelStart else s
    ({ s with sys := { s.sys with banking := true, modeReq := .banked } }, 0)
  else (s, 7)

/-- Ports stop: their links are down, nothing waits on them. -/
def State.stopPorts (s : State) : State :=
  let s := s.updOutp (fun o => { o with ports := o.ports.map (fun (e : Nat × Port) =>
    (e.1, { ({} : Port) with gate := e.2.gate, histAt := e.2.histAt, histLen := e.2.histLen, depth := e.2.depth, sojourn := e.2.sojourn })) })
  let s := eachBelow 10 (fun p s => s.showLink p) s
  let s := s.updFlue (fun x => { ({} : Flue) with
    timeSeq := x.timeSeq, reserves := x.reserves, lastPass := x.lastPass,
    links := x.links.map (fun (e : Nat × Link) => (e.1, { ({} : Link) with retired := e.2.retired })) })
  eachBelow 3 (fun p s =>
    let i := 0x8110 + p
    let s := (s.setN i 2 (if s.cm i 1 = 0 then 0 else 1)).showLanes p
    ((s.setN i 4 0xFFFF).setN i 5 0xFF).setN i 0xE 0) s

/-- BANKED_ENTRY (R309, R312, R349, R350). -/
def execBankedEntry (t : Nat) (s : State) : Host.Outcome State Fault Refusal :=
  act t (fun s =>
    if !(s.sys.banking && decide (s.sys.mode = .laid ∨ s.sys.mode = .lit) && decide (s.runningChans = [])) then s else
    let s := s.stopPorts.dramSleep.syncClk
    let s := { s with clk := { s.clk with run := false } }
    let volt := fun (st : Nat) => retentionMv (junctionBand (s.lv (0xA010 + st) 9) (s.heat st).hot)
    let s := { s with pwr := { s.pwr with retention := [volt 0, volt 1], samples := [], lend := 0 } }
    let s := (s.setN 0x8020 5 (volt 0)).setN 0x8021 5 (volt 1)
    let s := { s with gran := { ({} : Gran) with intOn := s.gran.intOn, hjOn := s.gran.hjOn, payload := s.gran.payload } }
    let s := { s with sys := { s.sys with banking := false, stopping := false, startFrom := none, holdStop := false } }
    ((s.inc 0xA050 3).setMode .banked).showMclk) s

/-- WAKE_SOURCE (R351): an enabled source ends BANKED; the wake waits while VIN is below 34.0 V. -/
def execWakeSource (t : Nat) (bit : Fin 13) (s : State) : Host.Outcome State Fault Refusal :=
  act t (fun s =>
    if s.isUp && decide (s.sys.mode = .banked) && s.sys.wakeFrom.isNone && (s.lv 0xA050 1).testBit bit then
      { s with sys := { s.sys with wakeFrom := some s.now, wakeHeld := decide (s.pwr.vin < 34000), modeReq := .laid } }.setN 0xA050 2 (2 ^ bit.val)
    else s) s

/-- WAKE_DEFERRAL_END (R336, R351). -/
def execWakeDeferralEnd (t vin : Nat) (s : State) : Host.Outcome State Fault Refusal :=
  act t (fun s =>
    if s.sys.wakeHeld && decide (34000 ≤ vin) then { s with sys := { s.sys with wakeHeld := false }, pwr := { s.pwr with vin := vin } } else s) s

/-- What BANKED loses (R350, Table 14-6). -/
def State.loseBanked (s : State) : State :=
  let s := eachBelow 20 (fun g s => s.setN (0x9000 + g) 1 0) s
  let s := { s with
    flt := { ({} : Faults) with nextSeq := s.flt.nextSeq },
    comp := [], oper := { ({} : Oper) with nextSeq := s.oper.nextSeq, plugged := s.oper.plugged },
    pipe := { s.pipe with
      chans := [], stripes := [], jobs := [], done := [], slices := [], refs := [], outs := [], obsChan := none, standinsClear := false,
      flows := s.pipe.flows.map (fun (e : Nat × FlowSt) => (e.1, e.2.fresh none)),
      hearths := s.pipe.hearths.map (fun (e : Nat × Hearth) => (e.1, { e.2 with credit := [], enteredAt := none })) },
    outp := { s.outp with ents := s.outp.ents.map (fun (e : Nat × TxEnt) => (e.1, { e.2 with armed := false, credit := 0, queue := [], m := 1 })) },
    inp := { s.inp with
      ins := s.inp.ins.map (fun (e : Nat × Input) => (e.1, { ({} : Input) with nextId := e.2.nextId })), ref := {},
      hdmi := s.inp.hdmi.map (fun (e : Nat × Hdmi) => (e.1, { e.2 with locked := false, unsup := false, fmtBad := false, training := false, lowUntil := none })) },
    audio := {},
    pwr := { s.pwr with samples := [], sampled := false, unusedA := [], unusedB := [], demand := [], demandAt := [], lowered := [] },
    wear := { s.wear with low := [], lastAt := [] },
    servo := { ({} : Servo) with tsq := [] } }
  ((s.inputBoundary 0).inputBoundary 1).freeOld.startServo

/-- WAKE_COMPLETE (R351, Table 14-7): the committed configuration in LAID, stove B's counter loaded from stove A's as the time domain
starts (R27). `dev` is what the touch device's descriptor answers. -/
def execWakeComplete (t : Nat) (dev : Option TouchDev) (s : State) : Host.Outcome State Fault Refusal :=
  act t (fun s =>
    match s.sys.wakeFrom with
    | none => s
    | some from_ =>
      if s.sys.wakeHeld then s else
      let s := { s with clk := { s.clk with run := true, at_ := s.now, diffB := 0, reloadB := false } }.loseBanked.dramWake
      let s := { s with sys := { s.sys with wakeFrom := none }, comm := s.committed }
      let s := (s.setMode .laid).setN 0xA050 4 (min 0xFFFFFFFF ((s.now - from_) / tuUs 1))
      let s := s.startSag
      let s := eachBelow 16 (fun c s => (s.setN (0x4000 + c) 0x15 (if (chanOn s.comm).contains c then 1 else 0)).setN (0x3000 + c) 9 0) s
      let s := eachIn (flowsOn s.comm) (fun n s => s.setFlowState n 1) s
      let s := (s.commitInputs [] s.comm).linkConds
      let s := eachBelow 4 (fun i s => s.setPtpState i (if s.ptpRuns i then 4 else 5)) s
      let s := (((s.setN 0x7010 9 0).setN 0x7011 9 0).reselect).commitAudio [] s.comm
      let s := eachIn (chanOn s.comm) (fun c s => s.councilForm c) s
      let s := s.chimneyState
      (if s.cm 0xB002 1 = 1 then s.touchInit dev else s).gateHearths.setBudget s.comm) s

/-! The firmware image (R403 to R405). -/

/-- The first check of R404 that an image fails, as its code of Table 17-4; 0x03 when it passes. -/
def State.checkImage (s : State) (b : List Byte) : Nat :=
  let h := b.take 256
  let body := fieldAt h 31 28
  let sig := b.drop (256 + body)
  let key := fieldAt h 7 7
  let rev := s.lv 0x1000 4 / 2 ^ 24
  let zero := fun (hi lo : Nat) => decide (fieldAt h hi lo = 0)
  if b.length < 352 ∨ b.length ≠ 352 + body ∨ body % 4096 ≠ 0 ∨ 24 * 2 ^ 20 < b.length then 0x10
  else if fieldAt h 3 0 ≠ 0x484D4657 ∨ fieldAt h 5 4 ≠ 1 ∨ !(zero 6 6 && zero 15 8 && zero 63 32 && zero 255 112) then 0x11
  else if 3 < key ∨ Config.keyRevoked key ∨ !(Config.signatureOk key h sig) then 0x12
  else if !(Config.bodyHashOk ((h.drop 64).take 48) ((b.drop 256).take body)) then 0x13
  else if s.lv 0x1000 5 < fieldAt h 27 24 ∨ 32 ≤ rev ∨ !((fieldAt h 23 20).testBit rev) then 0x14
  else 0x03

/-- FIRMWARE_CHECK_DONE (R404). -/
def execFirmwareCheckDone (t : Nat) (s : State) : Host.Outcome State Fault Refusal :=
  act t (fun s =>
    if !s.isUp || decide (s.lv 0x1F11 1 ≠ 2) then s else
    let v := fieldAt s.sys.image 19 16
    let code := s.checkImage s.sys.image
    let s := (s.setN 0x1F11 1 code).setN 0x1F11 2 v
    if code = 3 then { s with sys := { s.sys with fwRuns := true } }.setN 0x1000 6 v
    else ({ s with sys := { s.sys with image := [] } }.inc 0x1F11 3).note (src 19 0)) s

end Sys2Proof.Machine
end

