-- ==== Sys2Proof/Machine/Views.lean ====
section
/-!
DEFINITION. What a READ returns (R369 to R373): stored values, and the objects that the module computes as they are
read.
-/
namespace Sys2Proof.Machine

/-- The entries and ports as FLOW_TX_STATE shows them: as they stood at the last whole millisecond (Table 7-9, assumption 102). -/
def State.txShown (s : State) : State := { s with outp := { s.outp with ents := s.outp.shownEnts, ports := s.outp.shownPorts } }

/-- TX_STATE of an entry (Table 7-10); one that is enabled and not armed sends nothing. -/
def State.txStateOf (s : State) (e : Nat) : Nat :=
  let c := txCfg s.comm e
  let x := s.ent e
  if !(s.running && entryOn s.comm e && x.armed) then 0
  else if x.muted then 2
  else if c.legs.any (fun p => (s.macFor p (destOf c p)).isNone) then 4
  else if c.legs.any (fun p => !(s.ethPort p).link) then 3
  else 1

/-- A record of FLOW_TX_STATE (Table 7-10). -/
def State.txRecord (s : State) (e : Nat) : List Byte :=
  let x := s.ent e
  leBytes 1 (s.txStateOf e) ++ leBytes 1 0 ++ leBytes 2 (min x.bodyLate 65535) ++ leBytes 2 (min x.tooLong 65535) ++
    leBytes 2 (x.nextSeq.getD (txCfg s.comm e).seqInit) ++ leBytes 4 x.sent ++ leBytes 4 x.rate

/-- A record of FLOW_STANDINS (Table 3-8), as it was at the last frame start (R99). -/
def FlowSt.standRecord (x : FlowSt) : List Byte :=
  leBytes 4 x.shown.1 ++ leBytes 4 x.shown.2.1 ++ leBytes 4 x.shown.2.2.1 ++ leBytes 1 x.shown.2.2.2 ++ leBytes 3 0

/-- A record of REGION_STATUS (Table 5-11). -/
def Region.record (x : Region) : List Byte :=
  leBytes 4 x.crc ++ leBytes 1 x.run ++ leBytes 1 ((if x.matched then 1 else 0) + (if x.inForce then 2 else 0)) ++ leBytes 2 0 ++
    leBytes 4 x.mismatches ++ leBytes 4 x.lastFrame

/-- A record of PATH_TABLE (Table 10-11). -/
def State.pathRecord (s : State) (id : Nat) : List Byte :=
  let e := if id = s.myId then { s.path id with hops := 0, port := 0xFF } else s.path id
  let up := decide (e.hops ≠ 0xFFFF) && decide (e.port < 3) && decide (e.port = s.lv 0x8100 0xE)
  leBytes 1 ((if e.hops = 0xFFFF then 0 else 1) + (if up then 2 else 0) + (if e.dup then 4 else 0)) ++ leBytes 1 e.port ++ leBytes 2 e.hops

/-- A record of TOPOLOGY (Table 10-11): the module's own neighbours, the others' from their adverts. -/
def State.topoRecord (s : State) (id : Nat) : List Byte :=
  let ns := if id = s.myId then (List.range 3).map (fun p => (s.peerId p).getD 0xFFFF)
    else match s.flue.adverts.get none id with
      | some a => a.neigh
      | none => []
  leBytes 2 (ns.getD 0 0xFFFF) ++ leBytes 2 (ns.getD 1 0xFFFF) ++ leBytes 2 (ns.getD 2 0xFFFF) ++ leBytes 2 0

/-- A record of RECOVERY_TABLE (Table 13-11). -/
def State.recoveryRecord (s : State) (i : Nat) : List Byte :=
  match s.flt.slots.get none i with
  | none => leBytes 16 0
  | some r =>
    let st := if r.switchOver then 3 else if r.awaiting then 2 else 1
    let left := if r.awaiting then 0xFFFFFFFF else match r.quietEnd with
      | none => 0xFFFFFFFF
      | some m => ceilDiv (m - s.now) (tuMs 1)
    leBytes 4 0 ++ leBytes 2 (min (s.doneCount r.dom r.cls) 65535) ++ leBytes 1 st ++ leBytes 1 r.cls ++ leBytes 2 r.cap.source ++
      leBytes 2 r.dom ++ leBytes 4 left

/-- OBJECT_INFO of the object that OBJECT_SEL names (R377); `none` where it names none. -/
def infoOf (sel : Nat) : Option Nat :=
  let idx := sel / 256
  let sub := sel % 256
  if !idxDefined idx then none
  else if sub = 0 then some infoSub0
  else (rowOf (key idx sub)).map (fun r => r.info idx)

/-- PID (R391). -/
def State.pid (s : State) : Nat := 0x01D5 * 2 ^ 33 + 2 ^ 32 + s.serial % 2 ^ 32

/-- Sessions of management, and all sessions but I3C's. -/
def State.mgmtSessions (s : State) : Nat := (s.gran.sessions.filter (fun x => match x.who with | .mgmt _ _ _ => true | _ => false)).length
def State.otherSessions (s : State) : Nat := (s.gran.sessions.filter (fun x => decide (x.who ≠ .i3c))).length

/-- Objects of 0x1000 to 0x11FF that are computed as they are read. -/
def State.viewOwn (s : State) (x : Sess) (idx sub : Nat) : Option Val :=
  match idx, sub with
  | 0x1001, 1 => some (.n s.sys.mode.code)
  | 0x1001, 2 => some (.n s.sys.modeReq.code)
  | 0x1001, 3 => some (.n s.sys.modeLast.code)
  | 0x1001, 5 => some (.n ((s.now - s.sys.upAt) / tuMs 1))
  | 0x1002, 1 => some (.n x.level)
  | 0x1003, 1 => some (.n x.sel)
  | 0x1003, 2 => some (.n ((infoOf x.sel).getD 0))
  | 0x1100, 4 => some (.n (1 + s.otherSessions))
  | 0x1100, 5 => some (.n (s.gran.sessions.filter (fun x => match x.xfer with | some f => f.write | none => false)).length)
  | 0x1110, 2 => some (.n s.pid)
  | 0x1120, 6 => some (.n s.mgmtSessions)
  | 0x1F20, 1 => some (.b s.wearBytes)
  | _, _ => none

/-- Objects of the pictures, the output and the operator that are computed as they are read. -/
def State.viewPictures (s : State) (idx sub : Nat) : Option Val :=
  if idx = 0x4211 ∧ sub = 1 then some (.b ((List.range 4096).flatMap (fun n => (s.flowSt n).standRecord)))
  else if 0x5000 ≤ idx ∧ idx < 0x6000 ∧ sub = 0x14 then some (.b (s.paramSets (idx - 0x5000)))
  else if 0x3900 ≤ idx ∧ idx < 0x3910 ∧ sub = 3 then
    some (.b ((List.range 64).flatMap (fun r => ((s.compOf (idx - 0x3900)).regions.get {} r).record)))
  else if idx = 0x2301 ∧ sub = 1 then some (.b ((List.range 1024).flatMap (fun n => (s.item n).entry)))
  else if idx = 0x6100 ∧ sub = 2 then some (.b ((List.range 4128).flatMap s.txShown.txRecord))
  else if idx = 0x6103 ∧ sub = 2 then some (.b (s.outp.sdp.get [] (s.lv 0x6103 1)))
  else none

/-- Objects of time, the chimney, faults and wear that are computed as they are read. -/
def State.viewModule (s : State) (idx sub : Nat) : Option Val :=
  if 0x6800 ≤ idx ∧ idx < 0x6805 ∧ sub = 1 then some (.b (((s.servo.tsq.get [] (idx - 0x6800)).take 64).flatMap TsEnt.bytes))
  else if 0x6800 ≤ idx ∧ idx < 0x6805 ∧ sub = 2 then some (.n (s.servo.tsq.get [] (idx - 0x6800)).length)
  else if 0x6808 ≤ idx ∧ idx < 0x680A ∧ sub = 2 then some (.b (s.servo.rx.get [] (idx - 0x6808)).flatten)
  else if idx = 0x7000 ∧ sub = 1 then some (.n (ctrTime s.ctrNow))
  else if idx = 0x7020 ∧ sub = 3 then some (.n (s.audioClock.lv 0x7020 3))
  else if idx = 0x7001 ∧ sub = 0x10 then
    some (.n (match s.servo.holdFrom with | some m => (s.now - m) / tuSec 1 | none => 0))
  else if idx = 0x8101 ∧ sub = 1 then some (.b ((List.range 1024).flatMap s.pathRecord))
  else if idx = 0x8101 ∧ sub = 2 then some (.b ((List.range 1024).flatMap s.topoRecord))
  else if 0x9000 ≤ idx ∧ idx < 0x9014 ∧ sub = 2 then some (.n (s.presentBits (idx - 0x9000)))
  else if 0x9000 ≤ idx ∧ idx < 0x9014 ∧ sub = 5 then
    some (.b (match s.flt.captures.find? (fun e => decide (e.1 = idx - 0x9000)) with
      | some e => e.2.bytes true
      | none => ({} : Capture).bytes false))
  else if 0x9000 ≤ idx ∧ idx < 0x9014 ∧ sub = 7 then
    some (.b ((List.range 32).flatMap (fun b => leBytes 2 (s.flt.counts.get 0 (src (idx - 0x9000) b)))))
  else if idx = 0x9100 ∧ sub = 3 then some (.n ((List.range 4).filter (fun i => (s.flt.slots.get none i).isSome)).length)
  else if idx = 0x9100 ∧ sub = 4 then some (.b ((List.range 4).flatMap s.recoveryRecord))
  else if (idx = 0x9103 ∨ idx = 0x9104) ∧ sub = 7 then
    some (.n (s.recoveries.filter (fun r => decide (r.cls = idx - 0x9100) && r.awaiting)).length)
  else if idx = 0x9400 ∧ sub = 2 then some (.b s.ashRead.2)
  else if idx = 0x9400 ∧ sub = 3 then some (.n (match s.flt.ash.getLast? with | some r => r.seq | none => 0xFFFFFFFF))
  else if idx = 0xA040 ∧ sub = 6 then some (.n s.wearHours)
  else if idx = 0xA041 ∧ sub = 1 then some (.b ((List.range 305).flatMap (fun i => leBytes 2 (s.wear.margins.get 0x8000 i))))
  else none

/-- The stored value of an object: the pending or the committed copy of an RS object (R372), and of an RW object the value
last written, also while it waits for its boundary. -/
def State.stored (s : State) (row : Row) (committed : Bool) (k : Nat) : Val :=
  match row.acc with
  | .rs => objGet (if committed then s.committed else s.pend) k
  | .rw => match s.wait.reverse.find? (fun e => decide (e.1 = k)) with
    | some e => e.2.1
    | none => objGet s.live k
  | _ => objGet s.live k

/-- The value that a READ in a session returns. -/
def State.view (s : State) (x : Sess) (row : Row) (committed : Bool) (idx sub : Nat) : Val :=
  match s.viewOwn x idx sub with
  | some v => v
  | none => match s.viewPictures idx sub with
    | some v => v
    | none => match s.viewModule idx sub with
      | some v => v
      | none => s.stored row committed (key idx sub)

/-- What reading an object does (R206, R209, R318, R330). -/
def State.readEffect (s : State) (idx sub : Nat) : State :=
  if 0x9000 ≤ idx ∧ idx < 0x9014 ∧ sub = 1 then { s with flt := { s.flt with ibiOut := s.flt.ibiOut.erase (idx - 0x9000) } }
  else if 0x6800 ≤ idx ∧ idx < 0x6805 ∧ sub = 1 then
    s.updServo (fun v => { v with tsq := v.tsq.put [] (idx - 0x6800) ((v.tsq.get [] (idx - 0x6800)).drop 64) })
  else if 0x6808 ≤ idx ∧ idx < 0x680A ∧ sub = 2 then s.updServo (fun v => { v with rx := v.rx.put [] (idx - 0x6808) [] })
  else if idx = 0x9400 ∧ sub = 2 then s.ashRead.1
  else s

/-- Where a READ is not allowed as the module stands (R206, R209), or names nothing (R377). -/
def State.readStop (s : State) (x : Sess) (idx sub : Nat) : Nat :=
  if 0x6800 ≤ idx ∧ idx < 0x6805 ∧ sub = 1 then (if s.ownsQueue (idx - 0x6800) then 7 else 0)
  else if 0x6808 ≤ idx ∧ idx < 0x680A ∧ sub = 2 then (if s.cm (0x7010 + (idx - 0x6808)) 1 = 2 then 0 else 7)
  else if idx = 0x1003 ∧ sub = 2 then (if (infoOf x.sel).isSome then 0 else 0xB)
  else 0

end Sys2Proof.Machine
end

