-- ==== Sys2Proof/Machine/Checks.lean ====
section
/-!
DEFINITION. What a written value must satisfy (R370, R373, R441): the Range column of its object, the reserved fields
of its layout, and the other objects that its range names.
-/
namespace Sys2Proof.Machine

/-- Values of a list of bytes as 16-bit numbers, each within 0 to 1023. -/
def idsOk (b : List Byte) : Bool := (u16List b).all (fun v => decide (v < 1024))

/-- Table 5-1. -/
def layerSourceOk (v : Nat) : Bool := decide (v = 1 ∨ (0x10 ≤ v ∧ v ≤ 0x21) ∨ v = 0x30 ∨ v = 0x40)

/-- R137: every |M| is below 8.0. -/
def matrixOk (b : List Byte) : Bool := (List.range 9).all (fun i => decide ((matEntry b i).natAbs < 8 * 65536))

/-- R133: each value from −512 to +511, the taps of each phase sum to 256. -/
def coefBankOk (b : List Byte) : Bool :=
  let phase := fun (v : Bool) (n p : Nat) =>
    let taps := (List.range n).map (fun t => coefOf b v p t)
    taps.all (fun c => decide (-512 ≤ c ∧ c ≤ 511)) && decide (taps.foldl (· + ·) 0 = 256)
  (List.range 64).all (fun p => phase false 8 p && phase true 6 p)

/-- Table 5-11: reserved fields and multiples of 8 of every record; size and K of an enabled one. -/
def regionTableOk (b : List Byte) : Bool :=
  (List.range 64).all (fun r =>
    let e := recAt b 16 r
    let f := fun (hi lo : Nat) => fieldAt e hi lo
    let on := decide (f 9 9 = 1)
    decide (f 15 12 = 0) && decide (f 8 8 = 0) && decide (f 9 9 < 2) && decide (f 11 11 < 3) &&
    decide (f 1 0 % 8 = 0 ∧ f 1 0 ≤ 32760) && decide (f 3 2 % 8 = 0 ∧ f 3 2 ≤ 32760) &&
    decide (f 5 4 % 8 = 0 ∧ f 5 4 ≤ 32768) && decide (f 7 6 % 8 = 0 ∧ f 7 6 ≤ 32768) &&
    (!on || (decide (8 ≤ f 5 4) && decide (8 ≤ f 7 6) && decide (1 ≤ f 10 10))))

/-- R159: each 128-byte block sums to 0. -/
def edidOk (b : List Byte) : Bool :=
  (List.range 4).all (fun i => decide (sumList ((recAt b 128 i).map BitVec.toNat) % 256 = 0))

/-- A colour code with [7] full range (Table 5-5). -/
def colourFullOk (v : Nat) : Bool := decide (1 ≤ v % 128 ∧ v % 128 ≤ 7)

/-- Fields of an entry of FLOW_TX_TABLE that name no other object (Table 7-10). -/
def flowTxEntryOk (e : List Byte) : Bool :=
  let f := fun (hi lo : Nat) => fieldAt e hi lo
  decide (1 ≤ f 23 22) && decide (1 ≤ f 21 20) && decide (f 19 18 = 0 ∨ 1024 ≤ f 19 18) && decide (f 17 17 < 64) && decide (f 16 16 < 4) &&
  decide (f 15 15 < 10) && decide (f 14 14 < 10 ∨ f 14 14 = 0xFF) && decide (f 13 13 < 8) && decide (96 ≤ f 12 12 ∧ f 12 12 ≤ 127) &&
  decide (f 7 4 ≤ 2200000)

/-- An entry of FLOW_RC_TABLE (Table 3-8). -/
def flowRcEntryOk (v : Nat) : Bool := decide (v < 1024) && decide (64 ≤ v % 256)

def blockAll (b : List Byte) (w : Nat) (ok : List Byte → Bool) : Bool := (List.range (b.length / w)).all (fun i => ok (recAt b w i))

/-- Table 10-11. -/
def enumEntryOk (e : List Byte) : Bool := decide (fieldAt e 15 10 = 0) && decide (fieldAt e 9 8 < 1024)

/-- VALUE, LAYER, ACTION and EVENT_LINE of an action record (R356, Table 15-1). -/
def actionOk (line action layer value : Nat) : Bool :=
  decide (line < 16 ∨ line = 0xFF) && decide (action ≤ 6) && decide (layer < 16) && decide (action ≠ 4 ∨ value ≤ 1024)

def actionRecOk (e : List Byte) : Bool :=
  actionOk (fieldAt e 0 0) (fieldAt e 1 1) (fieldAt e 2 2) (fieldAt e 7 4) && decide (fieldAt e 3 3 < 16)

/-- Table 15-4. -/
def zoneOk (e : List Byte) : Bool :=
  let g := fieldAt e 11 11
  decide (fieldAt e 1 0 ≤ 32768) && decide (fieldAt e 3 2 ≤ 32768) && decide (fieldAt e 5 4 ≤ 32768) && decide (fieldAt e 7 6 ≤ 32768) &&
  actionOk (fieldAt e 8 8) (fieldAt e 9 9) (fieldAt e 10 10) (fieldAt e 15 12) && decide (g % 4 ≠ 3) && decide (g / 4 % 32 = 0)

/-- Table 15-6. -/
def remoteOk (b : List Byte) : Bool :=
  decide (fieldAt b 3 0 = 0) && decide (fieldAt b 4 4 ≠ 3) && decide (fieldAt b 9 8 < 1024) &&
  actionOk 0xFF (fieldAt b 4 4) (fieldAt b 5 5) (fieldAt b 15 12)

/-- A meter's mode, CIR and PIR together (R197). -/
def meterTriple (mode cir pir : Nat) : Bool := if mode < 2 then decide (pir = 0) else decide (cir ≤ pir ∧ pir ≤ 400000000000)

/-- The checks of R441 that name other objects or the fields of a BLOCK. -/
def State.chkOk (s : State) (c : Chk) (idx : Nat) (v : Val) : Bool :=
  let n := v.nat
  let b := v.blk
  let u := fun (i : Nat) => s.lv idx i
  match c with
  | .members | .relayDest => idsOk b
  | .layerSource => layerSourceOk n
  | .matrix => matrixOk b
  | .coefBank => coefBankOk b
  | .regionTable => regionTableOk b
  | .edid => edidOk b
  | .colourFull => colourFullOk n
  | .frameSel => decide (n < s.lv 0x2300 8)
  | .lineSel => decide (n < s.lv 0x2300 5)
  | .portMode => decide (n < 2)
  | .flowTx => blockAll b 32 flowTxEntryOk
  | .adminList => gatesOk b
  | .adminExt => decide (n ≤ u 4)
  | .pir => meterTriple (u 2) (u 7) n
  | .meterActions => decide (n < 16) && decide (n % 4 = 0 ∨ n % 4 = 2) && decide (n / 4 = 0 ∨ n / 4 = 2)
  | .sourceOrder => b.all (fun x => decide (1 ≤ x.toNat ∧ x.toNat ≤ 7))
  | .channelMap => b.all (fun x => decide (x.toNat < 32 ∨ x.toNat = 0xFF))
  | .enumTable => blockAll b 16 enumEntryOk
  | .injTarget => injTargetOk n
  | .injPattern => decide (1 ≤ n ∧ n ≤ 3)
  | .throttleLimit => decide (80 ≤ n ∧ n ≤ 105) && decide (u 1 + 5 ≤ n)
  | .wearWarn => decide (u 2 ≤ n ∧ n ≤ 20)
  | .keyActions | .plugActions => blockAll b 8 actionRecOk
  | .ledOnTime => decide (n ≤ u 3)
  | .ledPeriod => decide (100 ≤ n ∧ n ≤ 10000)
  | .zoneTable => blockAll b 16 zoneOk
  | .remoteAction => remoteOk b
  | .mgmtAllow => decide (n < 2 ^ 40) && decide (n / 2 ^ 32 ≤ 32)
  | .flowRc => blockAll b 4 (fun e => flowRcEntryOk (fieldAt e 3 0))
  | .lut | .retireReq | .release | .levelReq => true

/-- Whether a value lies in a row's range. -/
def State.inRange (s : State) (row : Row) (idx : Nat) (v : Val) : Bool :=
  let n := v.nat
  match row.rng with
  | .any => true
  | .span lo hi => decide (lo ≤ n ∧ n ≤ hi)
  | .orSpan also lo hi => also.contains n || decide (lo ≤ n ∧ n ≤ hi)
  | .step lo hi m => decide (lo ≤ n ∧ n ≤ hi) && decide (n % m = 0)
  | .oneOf vs => vs.contains n
  | .int lo hi => let i := signed (8 * row.ty.size) n
                  decide (lo ≤ i ∧ i ≤ hi)
  | .mask reserved => decide (n &&& reserved = 0)
  | .chk c => s.chkOk c idx v

/-- Values that the type itself refuses (R370). -/
def typeOk (ty : Ty) (v : Val) : Bool :=
  match ty with
  | .bool => decide (v.nat < 2)
  | .time => decide (v.nat / 2 ^ 16 % 2 ^ 32 < 1000000000)
  | .str => utf8Ok v.blk
  | _ => true

/-- Ranges that a written value must keep together with the values already in force (R197, Table 14-5). -/
def State.keepsOthers (s : State) (idx sub : Nat) (v : Nat) : Bool :=
  let u := fun (i : Nat) => s.lv idx i
  if 0x6400 ≤ idx ∧ idx < 0x6800 ∧ (sub = 2 ∨ sub = 7) then
    meterTriple (if sub = 2 then v else u 2) (if sub = 7 then v else u 7) (u 9)
  else if idx = 0xA020 ∧ sub = 1 then decide (v + 5 ≤ u 2)
  else true

/-- Step 12 of Table 16-3. A counter is cleared by the value 1 alone; STATUS takes any bits (R373). -/
def State.rangeOk (s : State) (row : Row) (idx sub : Nat) (v : Val) : Bool :=
  if row.acc = .rc then (decide (0x9000 ≤ idx) && decide (idx < 0x9014)) || decide (v.nat = 1)
  else typeOk row.ty v && s.inRange row idx v && s.keepsOthers idx sub v.nat

end Sys2Proof.Machine
end

