-- ==== Sys2Proof/Machine/Effects.lean ====
section
/-!
DEFINITION. What an accepted write does, object by object (R372, R373 and the Effect columns of the owning tables). Each
effect answers the state after it and an abort code, 0 when the write is accepted.
-/
namespace Sys2Proof.Machine

/-- An RW value: at once, or at the boundary of the running channel it belongs to (R372), or of the HDMI sink whose frames arrive (R170). -/
def State.storeLive (s : State) (k : Nat) (v : Val) : State :=
  if (List.range 16).any (fun c => s.atFrames c && waitsFor c k true) || [0, 1].any (fun p => decide (keyIdx k = 0x2000 + p) && (s.hdmi p).locked) then { s with wait := s.wait ++ [(k, v, s.mono)] }
  else { s with live := objPut s.live k v, wait := s.wait.filter (fun e => decide (e.1 ≠ k)) }

/-- A write of an RS object changes the pending copy and counts (R372, R406). -/
def State.storePend (s : State) (k : Nat) (v : Val) : State := { s with pend := objPut s.pend k v }.inc 0x1F00 9

/-- An effect that cannot be refused. -/
def accept (s : State) : Option (State × Nat) := some (s, 0)

/-- Composition, rate control, the Grate and their observation (0x3000 to 0x4FFF, 0xC000 to 0xC0FF). -/
def State.effectPictures (s : State) (idx sub : Nat) (v : Val) : Option (State × Nat) :=
  let c := idx % 16
  if idx = 0x4211 ∧ sub = 2 then
    accept (if s.runningChans ≠ [] then s.updPipe (fun p => { p with standinsClear := true }) else s.clearStandIns)
  else if 0x3000 ≤ idx ∧ idx < 0x3010 ∧ sub = 8 then
    let s := s.updComp c (fun x => { x with release := some s.mono })
    accept (if s.atFrames c then s else s.applyRelease c none)
  else if 0x3900 ≤ idx ∧ idx < 0x3910 ∧ sub = 2 then
    let now := s.storeLive (key idx sub) v
    accept (if s.atFrames c then now else now.resetRuns c)
  else if idx = 0xC000 ∧ sub = 3 then accept (s.updPipe (fun p => { p with obsClear := true }))
  else if idx = 0xC041 ∧ sub = 1 then some (s.retireAsk v.nat)
  else none

/-- Inputs, references and the library (0x2000 to 0x23FF). -/
def State.effectInputs (s : State) (idx sub : Nat) (v : Val) : Option (State × Nat) :=
  let put := s.storeLive (key idx sub) v
  if (idx = 0x2000 ∨ idx = 0x2001) ∧ sub = 2 then accept (if (s.hdmi (idx - 0x2000)).locked then put else put.edidTaken (idx - 0x2000))
  else if idx = 0x2200 ∧ sub = 1 then
    accept (if (s.lv 0x2200 1 = 0) ≠ (v.nat = 0) then put.refRequalify else put.reselect)
  else if idx = 0x2200 ∧ (sub = 2 ∨ sub = 3 ∨ sub = 4) then accept put.refRequalify
  else if idx = 0x2300 ∧ sub = 3 then accept (s.selectItem v.nat)
  else if idx = 0x2300 ∧ sub = 0xC then some s.itemAlloc
  else if idx = 0x2300 ∧ sub = 0xF then some (s.itemData v.blk)
  else if idx = 0x2300 ∧ sub = 0x10 then some s.itemDone
  else if idx = 0x2300 ∧ sub = 0x11 then some s.itemDelete
  else none

/-- Output traffic (0x6000 to 0x67FF). -/
def State.effectOutput (s : State) (idx sub : Nat) (v : Val) : Option (State × Nat) :=
  let put := s.storeLive (key idx sub) v
  let p := idx - 0x6200
  if 0x6200 ≤ idx ∧ idx < 0x620A then
    if sub = 7 then some (s.configChange p)
    else if sub = 1 ∨ sub = 2 then accept ((put.showGates p).showWindows p)
    else none
  else if 0x6400 ≤ idx ∧ idx < 0x6800 ∧ sub ≤ 0xB then accept (put.fillMeter (idx - 0x6400))
  else none

/-- TIME_SET and TIME_ADJUST step the counter (R203): only without a servo source, and in LIT only with STEP_IN_LIT. -/
def State.stepAsk (s : State) (d : Int) : State × Nat :=
  if s.sourceNow ≠ 0 ∨ (s.sys.mode = .lit ∧ s.lv 0x7001 7 = 0) then (s, 7) else (s.stepCounter d, 0)

/-- PTP_TX (R209). -/
def State.ptpTxAsk (s : State) (q : Nat) (b : List Byte) : State × Nat :=
  if s.cm (0x7010 + q) 1 ≠ 2 then (s, 7)
  else
    let r := s.ptpTxFrame q b
    if r.2 then (r.1, 0) else (s, 5)

/-- HOST_SAMPLE (R211): a sample of source 0x06, in 2^-16 ns. -/
def State.hostSample (s : State) (v : Nat) : State :=
  (s.updServo (fun x => { x with hostAt := some s.now })).sample 6 (signed 64 v) (nsCtr 1000000000)

/-- Time (0x6800 to 0x70FF). A new SLEW_MAX slews the audio clock from its write on (R217). -/
def State.effectTime (s : State) (idx sub : Nat) (v : Val) : Option (State × Nat) :=
  if (idx = 0x6808 ∨ idx = 0x6809) ∧ sub = 1 then some (s.ptpTxAsk (idx - 0x6808) v.blk)
  else if idx = 0x7000 ∧ sub = 2 then some (s.stepAsk ((timeCtr v.nat : Int) - (s.ctrNow : Int)))
  else if idx = 0x7000 ∧ sub = 3 then some (s.stepAsk (signed 64 v.nat * 2 ^ 24))
  else if idx = 0x7001 ∧ sub = 0x12 then accept (s.hostSample v.nat)
  else if idx = 0x7020 ∧ sub = 2 then accept (s.audioClock.storeLive (key idx sub) v)
  else none

/-- A fixed identity is taken as it is set (R249). -/
def State.fixedId (s : State) : State :=
  if s.lv 0x8100 1 = 0 ∧ s.lv 0x8100 2 < 1024 then s.takeId (s.lv 0x8100 2) else s

/-- The chimney, pairs and twins, memory (0x8000 to 0x82FF). -/
def State.effectChimney (s : State) (idx sub : Nat) (v : Val) : Option (State × Nat) :=
  let put := s.storeLive (key idx sub) v
  if idx = 0x8100 ∧ (sub = 1 ∨ sub = 2) then accept put.fixedId
  else if idx = 0x8100 ∧ sub = 6 then some (if s.lv 0x8100 3 = 0 then (s, 0xB) else (s.enumerate, 0))
  else if 0x8110 ≤ idx ∧ idx < 0x8113 ∧ sub = 9 then
    let r := s.retireLane (idx - 0x8110) v.nat
    if r.2 then accept r.1 else some (s, 0xC)
  else if idx = 0x8200 ∧ sub = 6 then some (if v.nat < 4 then s.switchAsk v.nat else (s, 5))
  else if idx = 0x8210 ∧ sub = 0xF then some s.twinSwitchAsk
  else if idx = 0x8000 ∧ sub = 5 then
    some (if s.rankState v.nat = 1 then (s.retireRank v.nat false, 0) else (s, 0xC))
  else none

/-- Faults and injection (0x9000 to 0x94FF, 0xF000 to 0xF013). -/
def State.effectFaults (s : State) (idx sub : Nat) (v : Val) : Option (State × Nat) :=
  let g := idx - 0x9000
  if 0x9000 ≤ idx ∧ idx < 0x9014 ∧ sub = 1 then accept (s.clearStatus g v.nat)
  else if 0x9000 ≤ idx ∧ idx < 0x9014 ∧ sub = 6 then accept (s.clearCapture g)
  else if (idx = 0x9103 ∨ idx = 0x9104) ∧ sub = 6 then some (s.releaseAsk (idx - 0x9100) v.nat)
  else if idx = 0x9400 ∧ sub = 5 then accept s.ashClear
  else if idx = 0xF000 ∧ sub = 1 then accept s.injStop
  else if 0xF010 ≤ idx ∧ idx < 0xF014 ∧ sub = 4 then some (s.injArm (idx - 0xF010) v.nat)
  else none

/-- Operator input and output (0xB000 to 0xB0FF). -/
def State.effectOper (s : State) (idx sub : Nat) (v : Val) : Option (State × Nat) :=
  if idx = 0xB030 ∧ sub = 2 then accept (s.remote v.blk)
  else if 0xB008 ≤ idx ∧ idx < 0xB00C then
    accept ((s.storeLive (key idx sub) v).updOper (fun o => { o with leds := o.leds.put (true, 0) (idx - 0xB008) (true, s.now) }))
  else none

/-! Sessions (R375, R376, R390). -/

/-- The session a path names (Table 16-8). -/
def whoOf : Path → Who
  | .i3c => .i3c
  | .ddr => .i3c
  | .mgmt port _ ip udp => .mgmt port ip udp
  | .flue _ origin session => .flue origin session

/-- A session as it starts: I3C at level 2, the others at 0 (R375). -/
def newSess (w : Who) : Sess := { who := w, level := if w = .i3c then 2 else 0 }

def State.findSess (s : State) (w : Who) : Option Sess := s.gran.sessions.find? (fun x => decide (x.who = w))

def State.sess (s : State) (w : Who) : Sess := (s.findSess w).getD (newSess w)

def State.updGran (s : State) (f : Gran → Gran) : State := { s with gran := f s.gran }

/-- A session changed, or listed anew. -/
def State.updSess (s : State) (w : Who) (f : Sess → Sess) : State :=
  s.updGran (fun g => { g with
    sessions := if g.sessions.any (fun x => decide (x.who = w)) then g.sessions.map (fun x => if x.who = w then f x else x)
      else g.sessions ++ [f (newSess w)] })

def Who.isMgmt : Who → Bool
  | .mgmt _ _ _ => true
  | _ => false

def Who.isFlue : Who → Bool
  | .flue _ _ => true
  | _ => false

/-- LEVEL_REQ (R375, R376). -/
def State.levelAsk (s : State) (w : Who) (v : Nat) : State × Nat :=
  let x := s.sess w
  let lvl := v / 2 ^ 32
  let pin := s.lv 0x1002 (2 + lvl)
  let up := decide (x.level < lvl)
  if w.isFlue then (s, 3)
  else if decide (lvl = 3) && up && decide (s.sys.mode ≠ .kindling) then (s, 7)
  else if x.lockUntil.any (fun m => decide (s.now < m)) then (s, 0xA)
  else if 3 < lvl then (s, 5)
  else if up && w.isMgmt && decide (pin = 0 ∨ v % 2 ^ 32 ≠ pin) then
    let n := x.fails + 1
    ((s.updSess w (fun x => { x with
      fails := if 3 ≤ n then 0 else n,
      lockUntil := if 3 ≤ n then some (s.now + tuSec 10) else none })).inc 0x1002 6, 3)
  else
    let s := s.updSess w (fun x => { x with level := lvl, fails := 0, lockUntil := none })
    let s := if lvl = x.level then s else s.note (src 0 2)
    (if lvl = 3 ∧ x.level ≠ 3 then s.note (src 19 6) else s, 0)

/-- FIRMWARE_IMAGE whole (R404, R405): the check begins. -/
def State.imageAsk (s : State) (b : List Byte) : State × Nat :=
  let st := s.lv 0x1F11 1
  if st = 3 then (s, 7)
  else if st = 1 ∨ st = 2 then (s, 0xA)
  else ({ s with sys := { s.sys with image := b } }.setN 0x1F11 1 2, 0)

/-- Identity, Granil, commit and states (0x1000 to 0x1FFF). -/
def State.effectSystem (s : State) (w : Who) (idx sub : Nat) (v : Val) : Option (State × Nat) :=
  if idx = 0x1002 ∧ sub = 2 then some (s.levelAsk w v.nat)
  else if idx = 0x1003 ∧ sub = 1 then accept (s.updSess w (fun x => { x with sel := v.nat }))
  else if idx = 0x1110 ∧ sub = 5 then
    accept ((s.storeLive (key idx sub) v).updGran (fun g => { g with hotJoinAt := s.now + tuMs 10 }))
  else if idx = 0x1F00 ∧ sub = 1 then some (s.commitAsk v.nat)
  else if idx = 0x1F00 ∧ sub = 3 then some s.startAsk
  else if idx = 0x1F00 ∧ sub = 4 then some s.stopAsk
  else if idx = 0x1F00 ∧ sub = 5 then some s.bankAsk
  else if idx = 0x1F00 ∧ sub = 6 then some s.resetAsk
  else if idx = 0x1F10 ∧ sub = 1 then some (s.imageAsk v.blk)
  else if idx = 0x1F20 ∧ sub = 1 then some (s.wearWrite v.blk)
  else none

/-- Objects whose write does more than store a value. -/
def State.effectSpecial (s : State) (w : Who) (idx sub : Nat) (v : Val) : Option (State × Nat) :=
  if idx < 0x2000 then s.effectSystem w idx sub v
  else if idx < 0x3000 then s.effectInputs idx sub v
  else if idx < 0x6000 ∨ (0xC000 ≤ idx ∧ idx < 0xD000) then s.effectPictures idx sub v
  else if idx < 0x6800 then s.effectOutput idx sub v
  else if idx < 0x8000 then s.effectTime idx sub v
  else if idx < 0x9000 then s.effectChimney idx sub v
  else if idx < 0xA000 ∨ 0xF000 ≤ idx then s.effectFaults idx sub v
  else if 0xB000 ≤ idx ∧ idx < 0xC000 then s.effectOper idx sub v
  else none

/-- The effect of a write of a value (R372, R373): a cleared counter reads 0, VIN_MIN takes VIN (Table 14-11). -/
def State.effect (s : State) (w : Who) (row : Row) (idx sub : Nat) (v : Val) : State × Nat :=
  match s.effectSpecial w idx sub v with
  | some r => r
  | none => match row.acc with
    | .rs => (s.storePend (key idx sub) v, 0)
    | .rc => (s.setN idx sub (if idx = 0xA000 ∧ sub = 2 then s.lv 0xA000 1 else 0), 0)
    | _ => (s.storeLive (key idx sub) v, 0)

end Sys2Proof.Machine
end

