-- ==== Sys2Proof/Machine/Granil.lean ====
section
/-!
DEFINITION. Granil (R374 to R390, R395, R396): which frames are heard, the sessions, the order of checks, the reads, writes and
segmented transfers, the answers, and the forwarding to other modules.
-/
namespace Sys2Proof.Machine

/-- How a request ends (R380): with data, or with an abort code. -/
inductive Ans where
  | ok (data : List Byte)
  | abort (code : Nat)
deriving DecidableEq, Repr

/-! Which frames are heard. -/

/-- The I3C target works: the module is up, not in reset and not in BANKED, where its header is NACKed (R351). -/
def State.i3cLive (s : State) : Bool := s.isUp && !s.sys.rstLow && decide (s.sys.mode ≠ .banked)

def State.dynAddr (s : State) : Nat := s.lv 0x1110 1

/-- Requests are answered: not from the write of BANK to the end of the wake (R388). -/
def State.serving (s : State) : Bool := s.i3cLive && !s.sys.banking

/-- Whether the path carries requests as the module stands (R391, R393, R395, R396, R322). -/
def State.pathServes (s : State) : Path → Bool
  | .i3c => decide (s.dynAddr ≠ 0)
  | .ddr => decide (s.dynAddr ≠ 0) && s.gran.hdr
  | .mgmt p _ _ _ => decide (s.cm 0x1120 1 = 1) && (s.cm 0x1120 3).testBit p && s.portRuns p && (s.ethPort p).link
  | .flue p _ _ => decide (s.sys.mode ≠ .cold) && decide (p < 3) && s.linkUp p

/-- MGMT_ALLOW (R395, Table 16-12). -/
def State.allowed (s : State) : Path → Bool
  | .mgmt _ _ ip _ =>
    let v := s.cm 0x1120 4
    let p := v / 2 ^ 32
    decide (p = 0) || decide (ip / 2 ^ (32 - p) = v % 2 ^ 32 / 2 ^ (32 - p))
  | _ => true

def onFlue : Path → Bool
  | .flue _ _ _ => true
  | _ => false

/-- The response limit of a path (R381, R392, R395). -/
def State.respLimit (s : State) : Path → Nat
  | .i3c => min 4096 (s.lv 0x1110 7 - 14)
  | .ddr => min 4096 (s.lv 0x1110 7 - 14)
  | .mgmt p _ _ _ => min 4096 (Sys2Proof.Machine.port s.comm p 9 - 42)
  | .flue _ _ _ => 4096

/-- Step 1 of Table 16-3: byte count and CRC (R379); a private write keeps no byte beyond MWL (R392). -/
def State.frameOk (s : State) (op idx sub : Nat) (r : Req) : Bool :=
  decide (r.data.length = r.len) && decide (r.route.isSome = r.flags.testBit 0) &&
  (decide (r.path ≠ .i3c) || decide (10 + r.len + (if r.route.isSome then 4 else 0) ≤ s.lv 0x1110 6)) &&
  decide (r.crc = crc16 (granilBody op r.flags idx sub r.len r.seq r.route r.data))

/-- Step 2: the operation, the reserved FLAGS bits, VIA against DEST. -/
def formOk (op : Nat) (r : Req) : Bool :=
  [0x10, 0x20, 0x30, 0x31, 0x32, 0x3F].contains op && decide (r.flags &&& 0xC4 = 0) &&
  match r.route with
  | none => true
  | some q => if q.dest = 0xFFFE then decide (q.via < 3) else decide (q.via = 0xFF)

/-! Answers. -/

/-- The bytes of an answer (R380): the request's FLAGS [1:0], INDEX, SUBINDEX and SEQUENCE, and a route extension with this
module's identity when the request had one. -/
def State.answerBytes (s : State) (rop idx sub : Nat) (r : Req) (data : List Byte) : List Byte :=
  granilFrame rop (r.flags % 4) idx sub r.seq (r.route.map (fun q => { dest := s.myId, via := 0xFF, session := q.session })) data

def State.ansBytes (s : State) (op idx sub : Nat) (r : Req) : Ans → List Byte
  | .ok d => s.answerBytes (op + 0x80) idx sub r d
  | .abort c => s.answerBytes 0xBF idx sub r (leBytes 1 c ++ leBytes 1 op)

/-- A management answer in MGMT_CLASS (R182, R395). -/
def State.mgmtSend (s : State) (p mac ip udp : Nat) (b : List Byte) : State :=
  let q := s.cm 0x6102 2
  let f : EthFrame := {
    dstMac := mac, srcMac := Sys2Proof.Machine.port s.comm p 3, vlan := Sys2Proof.Machine.port s.comm p 7, pcp := q,
    srcIp := Sys2Proof.Machine.port s.comm p 4, dstIp := ip, ttl := Sys2Proof.Machine.port s.comm p 8,
    srcUdp := s.cm 0x1120 2, dstUdp := udp, payload := b }
  s.enqueue p { cls := q, eligible := s.mono, entry := 0xFFFF, len := ethLen f, frame := some f }

/-- A Granil frame on the Flue: class 4, TYPE 0x40 (R396). -/
def State.granilOnFlue (s : State) (dest : Nat) (b : List Byte) : FlueFrame :=
  { dest := dest, src := s.myId, cls := 4, typ := 0x40, pay := b.map BitVec.toNat, len := b.length }

/-- Sending an answer the way its request came (R258, R392, R394 to R396). A reset leaves nothing to send it. -/
def State.sendAnswer (s : State) (r : Req) (b : List Byte) : State :=
  let s := s.emit (.answer r.path b)
  if !s.isUp then s else
  match r.path with
  | .i3c => s.updGran (fun g => { g with resp := some b, respIbi := decide (s.lv 0x1100 3 = 1) })
  | .ddr => s.updGran (fun g => { g with resp := some b, respIbi := decide (s.lv 0x1100 3 = 1) })
  | .mgmt p mac ip udp => s.mgmtSend p mac ip udp b
  | .flue p origin _ =>
    if r.route.any (fun q => decide (q.dest = 0xFFFE)) then s.flueOn p (s.granilOnFlue 0xFFFE b)
    else s.flueTo (s.granilOnFlue origin b)

/-- Counting an answer in ABORTS_SENT. -/
def State.countAns (s : State) : Ans → State
  | .ok _ => s
  | .abort c => if c = 0 then s else s.inc 0x1100 7

/-- An answer that no session keeps. -/
def State.bare (s : State) (op idx sub : Nat) (r : Req) (code : Nat) : State :=
  (s.countAns (.abort code)).sendAnswer r (s.ansBytes op idx sub r (.abort code))

/-- Whether a request is kept for replay (R383). -/
def Ans.kept : Ans → Bool
  | .ok _ => true
  | .abort c => decide (c ≠ 8) && decide (c ≠ 0xA)

/-- The end of an executed request: it is kept, and its answer sent, unless it came by broadcast over the Flue (R259). -/
def State.conclude (s : State) (op idx sub : Nat) (r : Req) (silent : Bool) (a : Ans) : State :=
  let b := s.ansBytes op idx sub r a
  let s := if a.kept && s.isUp then s.updSess (whoOf r.path) (fun x => { x with lastReq := some (r.seq, r.crc), lastResp := b }) else s
  if silent then s else (s.countAns a).sendAnswer r b

/-! Sessions (R390) and transfers (R385, R387, R405). -/

/-- Sessions of the same kind. -/
def Who.like (a b : Who) : Bool := (a.isMgmt == b.isMgmt) && (a.isFlue == b.isFlue)

/-- Lowest free management session index. -/
def State.freeIndex (s : State) : Nat :=
  ((List.range 16).map (· + 1)).find? (fun i => !(s.gran.sessions.any (fun x => x.who.isMgmt && decide (x.index = i)))) |>.getD 0

/-- The session that has been idle longest. -/
def longestIdle : List Sess → Option Sess
  | [] => none
  | x :: xs => match longestIdle xs with
    | some y => if x.seen ≤ y.seen then some x else some y
    | none => some x

/-- A request's session, found or made; `false` where none can be made. A Flue session takes its level from the request. -/
def State.letIn (s : State) (r : Req) : State × Bool :=
  let w := whoOf r.path
  let lvl := fun (x : Sess) => if w.isFlue then r.flags / 16 % 4 else x.level
  let touch := fun (s : State) => s.updSess w (fun x => { x with seen := s.now, level := lvl x })
  let make := fun (s : State) => (touch s).updSess w (fun x => { x with index := if w.isMgmt then s.freeIndex else 0 })
  let same := s.gran.sessions.filter (fun x => x.who.like w)
  if (s.findSess w).isSome then (touch s, true)
  else if same.length < (if w.isFlue then 64 else 16) then (make s, true)
  else match longestIdle (same.filter (fun x => x.xfer.isNone && decide (x.seen + tuSec 1 ≤ s.now))) with
    | some x => (make (s.updGran (fun g => { g with sessions := g.sessions.filter (fun y => decide (y.who ≠ x.who)) })), true)
    | none => (s, false)

/-- The key of FIRMWARE_IMAGE. -/
def imageKey : Nat := key 0x1F10 1

/-- A session's transfer discarded; that of an image returns FIRMWARE_STATUS to 0x00 (R405). -/
def State.endXfer (s : State) (w : Who) (expired : Bool) : State :=
  let image := (s.sess w).xfer.any (fun f => f.write && decide (f.key = imageKey))
  let s := s.updSess w (fun x => { x with xfer := none, expired := expired })
  if image ∧ s.lv 0x1F11 1 = 1 then s.setN 0x1F11 1 0 else s

/-- A transfer idle for SEG_TIMEOUT (R385). -/
def State.overdue (s : State) (x : Sess) : Bool := x.xfer.any (fun f => decide (f.last + tuMs (s.lv 0x1100 1) ≤ s.now))

def State.expire (s : State) : State := eachIn (s.gran.sessions.filter s.overdue) (fun x s => s.endXfer x.who true) s

/-! Steps 3 to 10 of Table 16-3. -/

/-- Subindex 0 of an index (R369). -/
def sub0Row (idx : Nat) : Row := ⟨idx, 1, 0, 0, .u8, .ro, none, .num (topSub idx), .any, 1, 1, 1, 0⟩

/-- Steps 3 and 4: 0 where the object is defined. -/
def nameCode (idx sub : Nat) : Nat := if !idxDefined idx then 1 else if sub = 0 ∨ (rowOf (key idx sub)).isSome then 0 else 2

def objRow (idx sub : Nat) : Row := if sub = 0 then sub0Row idx else (rowOf (key idx sub)).getD (sub0Row idx)

/-- Step 5. -/
def mayRead (idx sub level : Nat) : Bool := decide (sub = 0) || ((objRow idx sub).readLevel idx).any (fun l => decide (l ≤ level))
def mayWrite (idx sub level : Nat) : Bool := decide (sub ≠ 0) && ((objRow idx sub).writeLevel idx).any (fun l => decide (l ≤ level))

/-- Objects the boot ROM serves (Table 17-2). -/
def romServes (idx sub : Nat) : Bool :=
  decide (0x1000 ≤ idx ∧ idx ≤ 0x1003) || [0x1100, 0x1110, 0x1F10, 0x1F11, 0x1F20].contains idx ||
  (decide (idx = 0x1F00) && [0, 6, 0xE].contains sub) || decide (0x8100 ≤ idx ∧ idx ≤ 0x8112) ||
  decide (0x9000 ≤ idx ∧ idx ≤ 0x9013) || [0x9100, 0x9400, 0xA000, 0xA010, 0xA011].contains idx

/-- Step 9 for every object: the boot ROM's (R402), and in COLD the reads of R322. -/
def State.served (s : State) (idx sub : Nat) (write : Bool) : Bool :=
  if s.sys.mode = .cold then !write && (decide (0x1000 ≤ idx ∧ idx ≤ 0x11FF) || decide (idx = 0x1F20) || decide (0x9000 ≤ idx ∧ idx ≤ 0x94FF))
  else s.sys.fwRuns || romServes idx sub

/-- Steps 9 and 10 for a write (R388): K objects only in KINDLING (R262), no staged object nor `1F00` while a commit validates. -/
def State.writeGate (s : State) (row : Row) (idx sub : Nat) : Nat :=
  if !s.served idx sub true then 7
  else if row.apply = 7 ∧ row.acc ≠ .rs ∧ s.sys.mode ≠ .kindling then 7
  else if s.sys.validating.isSome && (decide (row.acc = .rs) || decide (idx = 0x1F00)) then 8
  else 0

def Row.sizeOk (row : Row) (n : Nat) : Bool := decide (row.lo ≤ n ∧ n ≤ row.hi) && decide (n % row.unit = 0)

/-- The buffer limit of an object's type (R384). -/
def Row.buffer (row : Row) (idx : Nat) : Nat :=
  if row.ty = .block then (if idx = 0x1F10 then 24 * 2 ^ 20 else 16 * 2 ^ 20) else 4096

/-! Requests. -/

/-- The bytes a READ or a segmented read of an object carries. -/
def State.readBytes (s : State) (x : Sess) (idx sub : Nat) (committed : Bool) : List Byte :=
  let row := objRow idx sub
  valBytes (if sub = 0 then .n (topSub idx) else s.view x row committed idx sub) row.ty

/-- READ (R381). -/
def State.readReq (s : State) (x : Sess) (idx sub : Nat) (r : Req) : State × Ans :=
  let v := s.readBytes x idx sub (r.flags.testBit 1)
  if !mayRead idx sub x.level then (s, .abort 3)
  else if 4096 < r.len ∨ s.respLimit r.path < v.length then (s, .abort 6)
  else if r.data ≠ [] then (s, .abort 4)
  else if !s.served idx sub false then (s, .abort 7)
  else if s.readStop x idx sub ≠ 0 then (s, .abort (s.readStop x idx sub))
  else (s.readEffect idx sub, .ok v)

/-- A whole value written: steps 9 to 14 and the effect. A state, a busy resource and a level are answered before the range. -/
def State.writeValue (s : State) (w : Who) (idx sub : Nat) (b : List Byte) : State × Nat :=
  let row := objRow idx sub
  let v := row.ty.read b
  let g := s.writeGate row idx sub
  if g ≠ 0 then (s, g)
  else
    let e := s.effect w row idx sub v
    if [3, 7, 8, 0xA].contains e.2 then e
    else if !s.rangeOk row idx sub v then (s, 5)
    else e

def ansOf (r : State × Nat) : State × Ans := (r.1, if r.2 = 0 then .ok [] else .abort r.2)

/-- WRITE (R381). -/
def State.writeReq (s : State) (x : Sess) (idx sub : Nat) (r : Req) : State × Ans :=
  if !mayWrite idx sub x.level then (s, .abort 3)
  else if 4096 < r.len then (s, .abort 6)
  else if !(objRow idx sub).sizeOk r.data.length then (s, .abort 4)
  else ansOf (s.writeValue x.who idx sub r.data)

/-- Where a SEG_INIT of a write finds its resources taken (R387, R405). -/
def State.xferBusy (s : State) (x : Sess) (k : Nat) : Bool :=
  let others := s.gran.sessions.filter (fun y => decide (y.who ≠ x.who))
  let writing := fun (y : Sess) (p : Nat → Bool) => y.xfer.any (fun f => f.write && p f.key)
  (x.xfer.isSome && !(decide (k = imageKey) && writing x (fun j => decide (j = imageKey)))) ||
  others.any (fun y => writing y (fun j => decide (j = k))) ||
  (decide (k ≠ imageKey) && decide (4 ≤ (s.gran.sessions.filter (fun y => writing y (fun j => decide (j ≠ imageKey)))).length))

/-- States in which a SEG_INIT of a write is not taken: those of the object, of FIRMWARE_IMAGE (R405) and of WEAR_RECORD (R354). -/
def State.initStop (s : State) (idx sub : Nat) : Nat :=
  let g := s.writeGate (objRow idx sub) idx sub
  if g = 7 ∨ (g = 8 ∧ idx = 0x1F00) then g
  else if idx = 0x1F10 ∧ s.lv 0x1F11 1 = 3 then 7
  else if idx = 0x1F10 ∧ s.lv 0x1F11 1 = 2 then 0xA
  else if idx = 0x1F20 ∧ (s.sys.mode ≠ .kindling ∨ s.sys.wearWritten) then 7
  else 0

/-- SEG_INIT of a write (R384). -/
def State.initWrite (s : State) (x : Sess) (idx sub : Nat) (r : Req) : State × Ans :=
  let row := objRow idx sub
  let total := leNat r.data
  let k := key idx sub
  if !mayWrite idx sub x.level then (s, .abort 3)
  else if 4096 < r.len ∨ (r.data.length = 4 ∧ row.buffer idx < total) then (s, .abort 6)
  else if r.data.length ≠ 4 ∨ !row.sizeOk total then (s, .abort 4)
  else
    let stop := s.initStop idx sub
    if stop ≠ 0 then (s, .abort stop)
    else if s.xferBusy x k then (s, .abort 0xA)
    else
      let s := s.updSess x.who (fun y => { y with
        xfer := some { write := true, key := k, total := total, next := (r.seq + 1) % 256, last := s.now }, expired := false })
      (if k = imageKey then s.setN 0x1F11 1 1 else s, .ok [])

/-- SEG_INIT of a read (R386): a snapshot, with the side effects of reading. -/
def State.initRead (s : State) (x : Sess) (idx sub : Nat) (r : Req) : State × Ans :=
  if !mayRead idx sub x.level then (s, .abort 3)
  else if 4096 < r.len then (s, .abort 6)
  else if r.data ≠ [] then (s, .abort 4)
  else if !s.served idx sub false then (s, .abort 7)
  else if s.readStop x idx sub = 7 then (s, .abort 7)
  else if x.xfer.isSome then (s, .abort 0xA)
  else if s.readStop x idx sub ≠ 0 then (s, .abort (s.readStop x idx sub))
  else
    let v := s.readBytes x idx sub (r.flags.testBit 1)
    ((s.readEffect idx sub).updSess x.who (fun y => { y with
        xfer := some { write := false, key := key idx sub, total := v.length, data := v, next := (r.seq + 1) % 256, last := s.now },
        expired := false }),
      .ok (leBytes 4 v.length))

/-- The transfer that a SEG_DATA or SEG_END continues, or the code it is answered with (R385). -/
def Sess.xferFor (x : Sess) (idx sub : Nat) (r : Req) : Xfer ⊕ Nat :=
  match x.xfer with
  | none => .inr (if x.expired then 0xE else 0xD)
  | some f =>
    if f.key ≠ key idx sub then .inr 0xD
    else if f.write && !mayWrite idx sub x.level then .inr 3
    else if 4096 < r.len then .inr 6
    else if f.next ≠ r.seq % 256 then .inr 0xD
    else .inl f

/-- What a SEG frame that continues no transfer leaves: an expired transfer is answered once with 0x0E. -/
def State.segStop (s : State) (x : Sess) (code : Nat) : State × Ans :=
  (if code = 0xE then s.updSess x.who (fun y => { y with expired := false }) else s, .abort code)

/-- SEG_DATA (R384, R386). -/
def State.segData (s : State) (x : Sess) (idx sub : Nat) (r : Req) : State × Ans :=
  match x.xferFor idx sub r with
  | .inr c => s.segStop x c
  | .inl f =>
    let on := fun (g : Xfer) => s.updSess x.who (fun y => { y with xfer := some { g with next := (r.seq + 1) % 256, last := s.now } })
    if f.write then
      if f.total < f.data.length + r.data.length then (s.endXfer x.who false, .abort 6)
      else (on { f with data := f.data ++ r.data }, .ok [])
    else if r.data.length ≠ 2 then (s, .abort 4)
    else
      let want := leNat r.data
      if want = 0 ∨ 4096 < want then (s, .abort 5)
      else
        let n := min want (s.respLimit r.path)
        (on { f with data := f.data.drop n }, .ok (f.data.take n))

/-- A received image is no longer being received: its check takes it up. -/
def State.imageIn (s : State) (f : Xfer) : State := if f.key = imageKey then s.setN 0x1F11 1 0 else s

/-- SEG_END (R384, R386, R388): a write takes effect whole; answered 0x08 it leaves its transfer open. -/
def State.segEnd (s : State) (x : Sess) (idx sub : Nat) (r : Req) : State × Ans :=
  match x.xferFor idx sub r with
  | .inr c => s.segStop x c
  | .inl f =>
    if r.data ≠ [] then (s, .abort 4)
    else if !f.write then (s.endXfer x.who false, .ok [])
    else if f.data.length < f.total then (s.endXfer x.who false, .abort 4)
    else
      let e := ((s.updSess x.who (fun y => { y with xfer := none })).imageIn f).writeValue x.who idx sub f.data
      if e.2 = 8 then (s.updSess x.who (fun y => { y with xfer := some { f with last := s.now } }), .abort 8) else ansOf e

/-- ABORT (R385). -/
def State.abortReq (s : State) (x : Sess) (idx sub : Nat) : State × Ans :=
  if x.xfer.any (fun f => decide (f.key = key idx sub)) then (s.endXfer x.who false, .abort 0) else (s, .abort 0xD)

/-- A request executed here (R374). -/
def State.run (s : State) (op idx sub : Nat) (r : Req) : State × Ans :=
  let s := s.expire
  let x := s.sess (whoOf r.path)
  let n := nameCode idx sub
  if n ≠ 0 then (s, .abort n)
  else if op = 0x10 then s.readReq x idx sub r
  else if op = 0x20 then s.writeReq x idx sub r
  else if op = 0x30 then (if r.flags.testBit 3 then s.initRead x idx sub r else s.initWrite x idx sub r)
  else if op = 0x31 then s.segData x idx sub r
  else if op = 0x32 then s.segEnd x idx sub r
  else s.abortReq x idx sub

/-! Forwarding (R258, R259, R396). -/

/-- The frame as this module forwards it: the originating session's index and level written into it. -/
def State.forwardFrame (s : State) (op idx sub : Nat) (r : Req) (dest via : Nat) : FlueFrame :=
  let x := s.sess (whoOf r.path)
  s.granilOnFlue dest (granilFrame op (r.flags % 16 + 16 * x.level) idx sub r.seq (some { dest := dest, via := via, session := x.index }) r.data)

/-- A request for another module, held until its answer returns. -/
def State.forwardReq (s : State) (op idx sub : Nat) (r : Req) (q : Route) : State :=
  let f := s.forwardFrame op idx sub r q.dest q.via
  let near := decide (q.dest = 0xFFFE)
  if near && !s.linkUp q.via then s.bare op idx sub r 0xE
  else if !near && !(s.reaches q.dest && s.forwards f) then s.bare op idx sub r 0xE
  else if 64 ≤ s.gran.fwd.length then s.bare op idx sub r 0xA
  else
    let e : Fwd := { path := r.path, op := op, idx := idx, sub := sub, req := r, dest := q.dest, via := q.via,
                     session := (s.sess (whoOf r.path)).index, at_ := s.now }
    let s := (s.updGran (fun g => { g with fwd := g.fwd ++ [e] })).inc 0x1100 9
    if near then s.flueOn q.via f else s.flueTo f

/-- A broadcast of the image (R259). -/
def imageFrame (op idx sub : Nat) : Bool := [0x30, 0x31, 0x32].contains op && decide (idx = 0x1F10) && decide (sub = 1)

/-- A request broadcast by host software, or received as a broadcast over the Flue. -/
def State.broadcastReq (s : State) (op idx sub : Nat) (r : Req) : State :=
  if onFlue r.path then
    (if imageFrame op idx sub then
      let e := s.run op idx sub r
      e.1.conclude op idx sub r true e.2
    else s)
  else if imageFrame op idx sub then
    let s := s.flood (s.forwardFrame op idx sub r 0xFFFF 0xFF) 3
    let e := s.run op idx sub r
    e.1.conclude op idx sub r false e.2
  else s.inc 0x8100 0x11

/-- A request of a session: replayed, refused for its form, forwarded, or executed. -/
def State.handle (s : State) (op idx sub : Nat) (r : Req) : State :=
  let x := s.sess (whoOf r.path)
  let here := fun (s : State) => let e := s.run op idx sub r
                                 e.1.conclude op idx sub r false e.2
  if x.lastReq = some (r.seq, r.crc) then
    let s := s.inc 0x1100 8
    if onFlue r.path && r.route.any (fun q => decide (q.dest = 0xFFFF)) then s else s.sendAnswer r x.lastResp
  else if !formOk op r then s.conclude op idx sub r false (.abort 5)
  else match r.route with
    | none => here s
    | some q =>
      if q.dest = 0xFFFF then s.broadcastReq op idx sub r
      else if q.dest = s.myId ∨ onFlue r.path then here s
      else if s.sys.mode = .cold then s.conclude op idx sub r false (.abort 7)
      else s.forwardReq op idx sub r q

/-- An error on the I3C bus (Table 16-12, R393): counted, and the frame discarded. -/
def State.lineError (s : State) (p : Path) : State :=
  let s := s.updGran (fun g => { g with protoErr := true })
  match p with
  | .i3c => s.inc 0x1110 8
  | _ => s.inc 0x1110 0xA

/-- A Flue frame addressed to another module is not this module's to execute: its port relays it (R258). -/
def State.foreign (s : State) (r : Req) : Bool :=
  onFlue r.path && r.route.any (fun q => !(decide (q.dest = s.myId ∨ q.dest = 0xFFFE ∨ q.dest = 0xFFFF)))

/-- What the path does as a request frame arrives: a private write ends HDR (R393), a frame taken off the Flue gives its credit back
(R258). -/
def State.arrived (s : State) (r : Req) : State :=
  match r.path with
  | .i3c => s.updGran (fun g => { g with hdr := false })
  | .flue p _ _ => if s.foreign r then s else s.giveCredit p
  | _ => s

/-- A Granil request frame received (R374 to R396). -/
def State.request (op idx sub : Nat) (r : Req) (s : State) : State :=
  if !s.serving then s else
  let s := s.arrived r
  if !s.pathServes r.path || s.foreign r then s
  else if !s.allowed r.path then s.inc 0x1120 7
  else if r.lineErr then s.lineError r.path
  else if !s.frameOk op idx sub r then ((s.inc 0x1100 6).note (src 19 5)).bare op idx sub r 9
  else
    let a := s.letIn r
    if a.2 then a.1.handle op idx sub r
    else if onFlue r.path then s.bare op idx sub r 0xA
    else s.inc 0x1120 7

/-- A request that names its object itself: the command's own row of the table. -/
def execRequest (op idx sub t : Nat) (r : Req) (s : State) : Host.Outcome State Fault Refusal :=
  actAny t (fun s => s.request op idx sub r) s

end Sys2Proof.Machine
end

