-- ==== Sys2Proof/Machine/GranilCmd.lean ====
section
/-!
DEFINITION. The commands that carry a Granil request: each names the operation and the object its row is of, and the shared
request does the rest (R374).
-/
namespace Sys2Proof.Machine

/-- WEAR_RECORD_WRITE (R354): checked, merged and applied. -/
def execWearRecordWrite (t : Nat) (r : Req) (s : State) : Host.Outcome State Fault Refusal := execRequest 0x20 0x1F20 1 t r s

/-- COMMIT_REQ (R407): validation of the pending configuration starts. -/
def execCommitReq (t : Nat) (r : Req) (s : State) : Host.Outcome State Fault Refusal := execRequest 0x20 0x1F00 1 t r s

/-- START (R413). -/
def execStart (t : Nat) (r : Req) (s : State) : Host.Outcome State Fault Refusal := execRequest 0x20 0x1F00 3 t r s

/-- STOP (R414). -/
def execStop (t : Nat) (r : Req) (s : State) : Host.Outcome State Fault Refusal := execRequest 0x20 0x1F00 4 t r s

/-- BANK (R349). -/
def execBank (t : Nat) (r : Req) (s : State) : Host.Outcome State Fault Refusal := execRequest 0x20 0x1F00 5 t r s

/-- RESET (R416). -/
def execReset (t : Nat) (r : Req) (s : State) : Host.Outcome State Fault Refusal := execRequest 0x20 0x1F00 6 t r s

/-- RETIRE_REQ (R118): a withy marked for retirement. -/
def execRetireReq (t : Nat) (r : Req) (s : State) : Host.Outcome State Fault Refusal := execRequest 0x20 0xC041 1 t r s

/-- COMP_RELEASE (R146). -/
def execCompRelease (t : Nat) (r : Req) (c : Fin 16) (s : State) : Host.Outcome State Fault Refusal := execRequest 0x20 (0x3000 + c) 8 t r s

/-- EXPECTED_WRITE (R145): RUN of every region is reset. -/
def execExpectedWrite (t : Nat) (r : Req) (c : Fin 16) (s : State) : Host.Outcome State Fault Refusal := execRequest 0x20 (0x3900 + c) 2 t r s

/-- EDID_WRITE (R159, R160). -/
def execEdidWrite (t : Nat) (r : Req) (p : Fin 2) (s : State) : Host.Outcome State Fault Refusal := execRequest 0x20 (0x2000 + p) 2 t r s

/-- ITEM_ALLOC (R163). -/
def execItemAlloc (t : Nat) (r : Req) (s : State) : Host.Outcome State Fault Refusal := execRequest 0x20 0x2300 0xC t r s

/-- ITEM_DATA (R163). -/
def execItemData (t : Nat) (r : Req) (s : State) : Host.Outcome State Fault Refusal := execRequest 0x20 0x2300 0xF t r s

/-- ITEM_DONE (R163). -/
def execItemDone (t : Nat) (r : Req) (s : State) : Host.Outcome State Fault Refusal := execRequest 0x20 0x2300 0x10 t r s

/-- ITEM_DELETE (R164). -/
def execItemDelete (t : Nat) (r : Req) (s : State) : Host.Outcome State Fault Refusal := execRequest 0x20 0x2300 0x11 t r s

/-- REF_SETTING_WRITE (R167): REF_FORM, REF_FRAME_RATE and REF_PHASE are subindices 2 to 4. -/
def execRefSettingWrite (t : Nat) (r : Req) (sub : Nat) (s : State) : Host.Outcome State Fault Refusal := execRequest 0x20 0x2200 sub t r s

/-- CONFIG_CHANGE (R194). -/
def execConfigChange (t : Nat) (r : Req) (port : Fin 10) (s : State) : Host.Outcome State Fault Refusal := execRequest 0x20 (0x6200 + port) 7 t r s

/-- METER_CONFIG_WRITE (R197): the buckets fill. -/
def execMeterConfigWrite (t : Nat) (r : Req) (m : Fin 1024) (sub : Nat) (s : State) : Host.Outcome State Fault Refusal := execRequest 0x20 (0x6400 + m) sub t r s

/-- TIME_SET (R203). -/
def execTimeSet (t : Nat) (r : Req) (s : State) : Host.Outcome State Fault Refusal := execRequest 0x20 0x7000 2 t r s

/-- TIME_ADJUST (R203). -/
def execTimeAdjust (t : Nat) (r : Req) (s : State) : Host.Outcome State Fault Refusal := execRequest 0x20 0x7000 3 t r s

/-- PTP_TX (R209). -/
def execPtpTx (t : Nat) (r : Req) (q : Fin 2) (s : State) : Host.Outcome State Fault Refusal := execRequest 0x20 (0x6808 + q) 1 t r s

/-- PTP_RX_READ (R209). -/
def execPtpRxRead (t : Nat) (r : Req) (q : Fin 2) (s : State) : Host.Outcome State Fault Refusal := execRequest 0x10 (0x6808 + q) 2 t r s

/-- TS_READ (R206). -/
def execTsRead (t : Nat) (r : Req) (q : Fin 5) (s : State) : Host.Outcome State Fault Refusal := execRequest 0x10 (0x6800 + q) 1 t r s

/-- HOST_SAMPLE (R211). -/
def execHostSample (t : Nat) (r : Req) (s : State) : Host.Outcome State Fault Refusal := execRequest 0x20 0x7001 0x12 t r s

/-- LANE_RETIRE (R239). -/
def execLaneRetire (t : Nat) (r : Req) (port : Fin 3) (s : State) : Host.Outcome State Fault Refusal := execRequest 0x20 (0x8110 + port) 9 t r s

/-- ENUM_START (R249). -/
def execEnumStart (t : Nat) (r : Req) (s : State) : Host.Outcome State Fault Refusal := execRequest 0x20 0x8100 6 t r s

/-- SWITCH_REQ (R270). -/
def execSwitchReq (t : Nat) (r : Req) (s : State) : Host.Outcome State Fault Refusal := execRequest 0x20 0x8200 6 t r s

/-- TWIN_SWITCH_REQ (R270). -/
def execTwinSwitchReq (t : Nat) (r : Req) (s : State) : Host.Outcome State Fault Refusal := execRequest 0x20 0x8210 0xF t r s

/-- RANK_RETIRE (R314). -/
def execRankRetire (t : Nat) (r : Req) (s : State) : Host.Outcome State Fault Refusal := execRequest 0x20 0x8000 5 t r s

/-- STATUS_CLEAR (R316). -/
def execStatusClear (t : Nat) (r : Req) (g : Fin 20) (s : State) : Host.Outcome State Fault Refusal := execRequest 0x20 (0x9000 + g) 1 t r s

/-- CAPTURE_CLEAR (R319). -/
def execCaptureClear (t : Nat) (r : Req) (g : Fin 20) (s : State) : Host.Outcome State Fault Refusal := execRequest 0x20 (0x9000 + g) 6 t r s

/-- RELEASE (R324) of class 3 or 4. -/
def execRelease (t : Nat) (r : Req) (cls : Fin 2) (s : State) : Host.Outcome State Fault Refusal := execRequest 0x20 (0x9103 + cls) 6 t r s

/-- ASH_READ (R330). -/
def execAshRead (t : Nat) (r : Req) (s : State) : Host.Outcome State Fault Refusal := execRequest 0x10 0x9400 2 t r s

/-- ASH_CLEAR (R333). -/
def execAshClear (t : Nat) (r : Req) (s : State) : Host.Outcome State Fault Refusal := execRequest 0x20 0x9400 5 t r s

/-- INJ_ARM (R331). -/
def execInjArm (t : Nat) (r : Req) (i : Fin 4) (s : State) : Host.Outcome State Fault Refusal := execRequest 0x20 (0xF010 + i) 4 t r s

/-- INJ_STOP (R331). -/
def execInjStop (t : Nat) (r : Req) (s : State) : Host.Outcome State Fault Refusal := execRequest 0x20 0xF000 1 t r s

/-- STANDINS_CLEAR (R99). -/
def execStandinsClear (t : Nat) (r : Req) (s : State) : Host.Outcome State Fault Refusal := execRequest 0x20 0x4211 2 t r s

/-- REMOTE_ACTION (R357): a remote-action record received. -/
def execRemoteAction (t : Nat) (r : Req) (s : State) : Host.Outcome State Fault Refusal := execRequest 0x20 0xB030 2 t r s

/-- GRANIL_READ (R381). -/
def execGranilRead (t : Nat) (r : Req) (idx sub : Nat) (s : State) : Host.Outcome State Fault Refusal := execRequest 0x10 idx sub t r s

/-- GRANIL_WRITE (R381): `op` is the frame's OP, 0x20 for a WRITE; another one is answered as R378 says. -/
def execGranilWrite (t : Nat) (r : Req) (op idx sub : Nat) (s : State) : Host.Outcome State Fault Refusal := execRequest op idx sub t r s

/-- SEG_INIT_WRITE (R384): FLAGS [3] of the frame is 0. -/
def execSegInitWrite (t : Nat) (r : Req) (idx sub : Nat) (s : State) : Host.Outcome State Fault Refusal := execRequest 0x30 idx sub t r s

/-- SEG_INIT_READ (R386): FLAGS [3] of the frame is 1. -/
def execSegInitRead (t : Nat) (r : Req) (idx sub : Nat) (s : State) : Host.Outcome State Fault Refusal := execRequest 0x30 idx sub t r s

/-- SEG_DATA_WRITE (R384). -/
def execSegDataWrite (t : Nat) (r : Req) (idx sub : Nat) (s : State) : Host.Outcome State Fault Refusal := execRequest 0x31 idx sub t r s

/-- SEG_DATA_READ (R386). -/
def execSegDataRead (t : Nat) (r : Req) (idx sub : Nat) (s : State) : Host.Outcome State Fault Refusal := execRequest 0x31 idx sub t r s

/-- SEG_END_WRITE (R384). -/
def execSegEndWrite (t : Nat) (r : Req) (idx sub : Nat) (s : State) : Host.Outcome State Fault Refusal := execRequest 0x32 idx sub t r s

/-- SEG_END_READ (R386). -/
def execSegEndRead (t : Nat) (r : Req) (idx sub : Nat) (s : State) : Host.Outcome State Fault Refusal := execRequest 0x32 idx sub t r s

/-- GRANIL_ABORT (R385). -/
def execGranilAbort (t : Nat) (r : Req) (idx sub : Nat) (s : State) : Host.Outcome State Fault Refusal := execRequest 0x3F idx sub t r s

/-- LEVEL_REQ (R375, R376). -/
def execLevelReq (t : Nat) (r : Req) (s : State) : Host.Outcome State Fault Refusal := execRequest 0x20 0x1002 2 t r s

end Sys2Proof.Machine
end

