-- ==== Sys2Proof/Machine/I3c.lean ====
section
/-!
DEFINITION. The I3C target (R391 to R394, R318), what times out in Granil (R375, R385, R390, R396), the answers that return
from other modules (R396), and the test port (R429).
-/
namespace Sys2Proof.Machine

/-! What times out. -/

/-- SEG_TIMEOUT (R385) of a session's transfer. -/
def execSegTimeout (t : Nat) (who : Path) (s : State) : Host.Outcome State Fault Refusal :=
  act t (fun s => if s.overdue (s.sess (whoOf who)) then s.endXfer (whoOf who) true else s) s

/-- FWD_TIMEOUT (R396): every forwarded request that has waited so long is answered 0x0E. -/
def execFwdTimeout (t : Nat) (s : State) : Host.Outcome State Fault Refusal :=
  act t (fun s =>
    let late := fun (e : Fwd) => decide (e.at_ + tuMs (s.lv 0x1100 2) ≤ s.now)
    let due := s.gran.fwd.filter late
    let s := s.updGran (fun g => { g with fwd := g.fwd.filter (fun e => !late e) })
    eachIn due (fun e s => s.bare e.op e.idx e.sub e.req 0xE) s) s

/-- PIN_LOCKOUT_END (R375). -/
def execPinLockoutEnd (t : Nat) (who : Path) (s : State) : Host.Outcome State Fault Refusal :=
  act t (fun s =>
    if (s.sess (whoOf who)).lockUntil.any (fun m => decide (m ≤ s.now)) then s.updSess (whoOf who) (fun x => { x with lockUntil := none }) else s) s

/-- How long a session may be idle (Table 16-8). -/
def State.idleLimit (s : State) : Who → Option Nat
  | .i3c => none
  | .mgmt _ _ _ => some (tuSec (s.lv 0x1120 5))
  | .flue _ _ => some (tuSec 10)

/-- SESSION_IDLE_TIMEOUT (R390): the session ends, and its transfer with it. -/
def execSessionIdleTimeout (t : Nat) (who : Path) (s : State) : Host.Outcome State Fault Refusal :=
  act t (fun s =>
    let w := whoOf who
    match s.findSess w, s.idleLimit w with
    | some x, some m =>
      if x.seen + m ≤ s.now then
        (s.endXfer w false).updGran (fun g => { g with sessions := g.sessions.filter (fun y => decide (y.who ≠ w)) })
      else s
    | _, _ => s) s

/-! Answers from other modules. -/

/-- The forwarded request that an answer frame belongs to, by the fields the answer echoes (R380, R396). -/
def State.fwdOf (s : State) (port : Nat) (src_ : Nat) (b : List Byte) : Option Fwd :=
  let rop := fieldAt b 0 0
  let op := if rop = 0xBF then fieldAt b 13 13 else rop - 0x80
  let fits := s.gran.fwd.filter (fun e =>
    decide (e.op = op ∧ e.idx = fieldAt b 3 2 ∧ e.sub = fieldAt b 4 4 ∧ e.req.seq = fieldAt b 7 7 ∧ e.session = fieldAt b 8 8) &&
    (decide (e.dest ≠ 0xFFFE) || decide (e.via = port)))
  match fits.find? (fun e => decide (e.dest = src_)) with
  | some e => some e
  | none => fits.head?

/-- A whole answer frame with a route extension and a CRC that fits. -/
def wholeAnswer (b : List Byte) : Bool :=
  decide (14 ≤ b.length) && decide (0x80 ≤ fieldAt b 0 0) && (fieldAt b 1 1).testBit 0 && decide (b.length = 14 + fieldAt b 6 5) &&
  decide (crc16 (b.take (b.length - 2)) = leNat (b.drop (b.length - 2)))

/-- FORWARDED_RESPONSE_RX (R396): the answer goes to the session it came from, with the SESSION byte its host wrote. -/
def execForwardedResponseRx (t : Nat) (port : Fin 3) (frame : FlueFrame) (s : State) : Host.Outcome State Fault Refusal :=
  act t (fun s =>
    let b := frame.pay.map (BitVec.ofNat 8)
    if !s.serving || !s.linkUp port || decide (frame.typ ≠ 0x40) || !wholeAnswer b ||
       !(s.isMine frame || decide (frame.dest = 0xFFFE)) then s
    else
    let s := s.giveCredit port
    match s.fwdOf port frame.src b with
      | none => s
      | some e =>
        let host := (e.req.route.map Route.session).getD 0
        let a := granilFrame (fieldAt b 0 0) (fieldAt b 1 1) (fieldAt b 3 2) (fieldAt b 4 4) (fieldAt b 7 7)
          (some { dest := fieldAt b 11 10, via := fieldAt b 9 9, session := host }) ((b.drop 12).take (fieldAt b 6 5))
        (s.updGran (fun g => { g with fwd := g.fwd.erase e })).sendAnswer e.req a) s

/-! Reads and interrupts on the I3C bus. -/

/-- The response taken from the target, when one waits. -/
def State.takeResp (s : State) : State := s.updGran (fun g => { g with resp := none, respIbi := false })

/-- I3C_PRIVATE_READ (R392). In BANKED the header is NACKed (R351). -/
def execI3cPrivateRead (t : Nat) (s : State) : Host.Outcome State Fault Refusal :=
  act t (fun s =>
    if s.dynAddr = 0 ∨ !s.isUp ∨ s.sys.rstLow then s
    else if !s.i3cLive then s.emit .nack
    else
      let s := s.updGran (fun g => { g with hdr := false })
      match s.gran.resp with
      | some b => s.takeResp.emit (.i3c b)
      | none => (s.inc 0x1110 9).emit .nack) s

/-- HDR_DDR_READ (R393): an odd frame is padded; without a response the target ends the read at its first word. -/
def execHdrDdrRead (t : Nat) (lineErr : Bool) (s : State) : Host.Outcome State Fault Refusal :=
  act t (fun s =>
    if s.dynAddr = 0 || !s.i3cLive || !s.gran.hdr then s
    else if lineErr then s.lineError .ddr
    else match s.gran.resp with
      | some b => s.takeResp.emit (.i3c (if b.length % 2 = 1 then b ++ [0] else b))
      | none => s.emit .nack) s

/-- The interrupt that goes first (R318): highest class, then lowest group; the last gasp's is class 4, group 1 (R339). -/
def State.nextIbi (s : State) : Option Nat :=
  let ws := s.flt.ibiWait.map (fun (e : Nat × Nat) => e.2 % 256) ++ (if s.gran.gaspIbi then [0x81] else [])
  ws.foldl (fun (a : Option Nat) w => match a with
    | none => some w
    | some v => if v / 32 < w / 32 ∨ (v / 32 = w / 32 ∧ w % 32 < v % 32) then some w else a) none

/-- IBI_ARBITRATION (R318, R394): an arbitration won sends the interrupt, one lost leaves it waiting. -/
def execIbiArbitration (t : Nat) (won : Bool) (s : State) : Host.Outcome State Fault Refusal :=
  act t (fun s =>
    if !won || !s.i3cLive || decide (s.dynAddr = 0) || !s.gran.intOn then s
    else match s.nextIbi with
      | some w =>
        let s := if w = 0x81 then s.updGran (fun g => { g with gaspIbi := false }) else s
        { s with flt := { s.flt with ibiWait := s.flt.ibiWait.erase (w % 32), ibiOut := s.flt.ibiOut.put false (w % 32) true } }.emit (.ibi w)
      | none => if s.gran.respIbi then (s.updGran (fun g => { g with respIbi := false })).emit (.ibi 0x1F) else s) s

/-- HOT_JOIN_REQUEST (R391): 10 ms after the bus is first seen idle and again every 100 ms, without an address. -/
def execHotJoinRequest (t : Nat) (s : State) : Host.Outcome State Fault Refusal :=
  act t (fun s =>
    if s.i3cLive && decide (s.dynAddr = 0) && decide (s.lv 0x1110 5 = 1) && s.gran.hjOn && decide (s.gran.hotJoinAt ≤ s.now) then
      (s.updGran (fun g => { g with hotJoinAt := s.now + tuMs 100 })).emit .hotJoin
    else s) s

/-! Common command codes (Table 16-9). -/

/-- A broadcast code reaches the target; the code ends HDR. -/
def ccc (t : Nat) (f : State → State) (s : State) : Host.Outcome State Fault Refusal :=
  act t (fun s => if s.i3cLive then f (s.updGran (fun g => { g with hdr := false })) else s) s

/-- A direct code reaches the target at its dynamic address; in BANKED its header is NACKed. -/
def cccDirect (t : Nat) (f : State → State) (s : State) : Host.Outcome State Fault Refusal :=
  act t (fun s =>
    if s.dynAddr = 0 ∨ !s.isUp ∨ s.sys.rstLow then s
    else if !s.i3cLive then s.emit .nack
    else f (s.updGran (fun g => { g with hdr := false }))) s

def dynOk (a : Nat) : Bool := decide (0x08 ≤ a ∧ a ≤ 0x7D)

/-- ENTDAA: the address is taken by a target that has none. -/
def execEntdaa (t : Nat) (addr : Fin 128) (s : State) : Host.Outcome State Fault Refusal :=
  ccc t (fun s => if s.dynAddr = 0 && dynOk addr then s.setN 0x1110 1 addr else s) s

def execSetnewda (t : Nat) (addr : Fin 128) (s : State) : Host.Outcome State Fault Refusal :=
  cccDirect t (fun s => if dynOk addr then s.setN 0x1110 1 addr else s) s

/-- RSTDAA: the target has no address again, and so may ask for Hot-Join. -/
def execRstdaa (t : Nat) (s : State) : Host.Outcome State Fault Refusal :=
  ccc t (fun s => (s.setN 0x1110 1 0).updGran (fun g => { g with hotJoinAt := s.now + tuMs 10 })) s

def execEnec (t : Nat) (ints hj : Bool) (s : State) : Host.Outcome State Fault Refusal :=
  ccc t (fun s => s.updGran (fun g => { g with intOn := g.intOn || ints, hjOn := g.hjOn || hj })) s

def execDisec (t : Nat) (ints hj : Bool) (s : State) : Host.Outcome State Fault Refusal :=
  ccc t (fun s => s.updGran (fun g => { g with intOn := g.intOn && !ints, hjOn := g.hjOn && !hj })) s

/-- MWL and MRL run from 16 to 4,110 bytes. -/
def lenOk (n : Nat) : Bool := decide (16 ≤ n ∧ n ≤ 4110)

def execSetmwl (t len : Nat) (s : State) : Host.Outcome State Fault Refusal :=
  ccc t (fun s => if lenOk len then s.setN 0x1110 6 len else s) s

/-- SETMRL: its payload size must be 1. -/
def execSetmrl (t len payload : Nat) (s : State) : Host.Outcome State Fault Refusal :=
  ccc t (fun s => if lenOk len ∧ payload = 1 then (s.setN 0x1110 7 len).updGran (fun g => { g with payload := payload }) else s) s

def execGetmwl (t : Nat) (s : State) : Host.Outcome State Fault Refusal :=
  cccDirect t (fun s => s.emit (.i3c (beBytes 2 (s.lv 0x1110 6)))) s

def execGetmrl (t : Nat) (s : State) : Host.Outcome State Fault Refusal :=
  cccDirect t (fun s => s.emit (.i3c (beBytes 2 (s.lv 0x1110 7) ++ beBytes 1 s.gran.payload))) s

def execGetpid (t : Nat) (s : State) : Host.Outcome State Fault Refusal :=
  cccDirect t (fun s => s.emit (.i3c (beBytes 6 s.pid))) s

def execGetbcr (t : Nat) (s : State) : Host.Outcome State Fault Refusal :=
  cccDirect t (fun s => s.emit (.i3c (beBytes 1 (s.lv 0x1110 3)))) s

def execGetdcr (t : Nat) (s : State) : Host.Outcome State Fault Refusal :=
  cccDirect t (fun s => s.emit (.i3c (beBytes 1 (s.lv 0x1110 4)))) s

/-- Groups with an interrupt outstanding (R318): requested, and not yet rearmed. -/
def State.ibiGroups (s : State) : Nat :=
  ((List.range 20).filter (fun g => s.flt.ibiOut.get false g || decide (s.flt.ibiWait.get 0 g ≠ 0))).length

/-- GETSTATUS: [3:0] groups with an interrupt outstanding, [5] a protocol error since the last GETSTATUS. -/
def execGetstatus (t : Nat) (s : State) : Host.Outcome State Fault Refusal :=
  cccDirect t (fun s =>
    let v := min 15 s.ibiGroups + (if s.gran.protoErr then 32 else 0)
    (s.updGran (fun g => { g with protoErr := false })).emit (.i3c (beBytes 2 v))) s

def execEnthdr0 (t : Nat) (s : State) : Host.Outcome State Fault Refusal :=
  ccc t (fun s => s.updGran (fun g => { g with hdr := true })) s

/-- UNSUPPORTED_CCC: NACKed when direct, ignored when broadcast. -/
def execUnsupportedCcc (t : Nat) (direct : Bool) (s : State) : Host.Outcome State Fault Refusal :=
  if direct then cccDirect t (fun s => s.emit .nack) s else ccc t (fun s => s) s

/-! The test port (R429). -/

/-- The test port is powered and out of reset: its pull-down holds it in reset. -/
def State.tapLive (s : State) : Bool := decide (s.sys.boot ≠ .off) && s.sys.testRstHigh

/-- The instruction a stove's TAP holds: 0 in reset, 1 IDCODE, 2 BYPASS, 3 boundary scan. -/
def State.setTap (s : State) (stove v : Nat) : State :=
  if stove = 0 then { s with sys := { s.sys with tapA := v } } else { s with sys := { s.sys with tapB := v } }

/-- TEST_RST_N_CHANGE: group 19 source 8 is present while the contact is high. -/
def execTestRstNChange (t : Nat) (high : Bool) (s : State) : Host.Outcome State Fault Refusal :=
  actPin t (fun s => { s with sys := { s.sys with testRstHigh := high } }) (fun s =>
    let s := { s with sys := { s.sys with testRstHigh := high } }
    let s := if high then s else (s.setTap 0 0).setTap 1 0
    if s.isUp then s.cond { source := src 19 8, init := moduleInit } high else s) s

/-- IDCODE: [31:28] HW_REVISION [27:24], [27:12] 0x8120, [11:1] 0x3D5, [0] 1. -/
def State.idcode (s : State) : Nat := s.lv 0x1000 4 / 2 ^ 24 % 16 * 2 ^ 28 + 0x8120 * 2 ^ 12 + 0x3D5 * 2 + 1

def execTapIdcode (t : Nat) (stove : Fin 2) (s : State) : Host.Outcome State Fault Refusal :=
  act t (fun s => if s.tapLive then (s.setTap stove 1).emit (.tap stove s.idcode) else s) s

def execTapBypass (t : Nat) (stove : Fin 2) (s : State) : Host.Outcome State Fault Refusal :=
  act t (fun s => if s.tapLive then (s.setTap stove 2).emit (.tap stove 0) else s) s

/-- A boundary-scan instruction: BYPASS but at level 3 in KINDLING. -/
def execTapBoundaryScan (t : Nat) (stove : Fin 2) (s : State) : Host.Outcome State Fault Refusal :=
  act t (fun s =>
    if !s.tapLive then s
    else if s.isUp && decide (s.sys.mode = .kindling) && s.gran.sessions.any (fun x => decide (x.level = 3)) then s.setTap stove 3
    else (s.setTap stove 2).emit (.tap stove 0)) s

end Sys2Proof.Machine
end

