-- ==== Sys2Proof/Machine/Dispatch.lean ====
section
/-!
DEFINITION. The dispatch: one arm for each command, one direct call of its meaning.
-/
namespace Sys2Proof.Machine

def exec (i : Instr) (s : State) : Host.Outcome State Fault Refusal :=
  match i with
  | .powerStageStart t vin => Sys2Proof.Machine.execPowerStageStart t vin s
  | .pgAsserted t => Sys2Proof.Machine.execPgAsserted t s
  | .rootPllLock t => Sys2Proof.Machine.execRootPllLock t s
  | .kindlingEntered t test => Sys2Proof.Machine.execKindlingEntered t test s
  | .dramTrainingDone t usable spare => Sys2Proof.Machine.execDramTrainingDone t usable spare s
  | .inputOvervoltage t vin => Sys2Proof.Machine.execInputOvervoltage t vin s
  | .powerStageFault t => Sys2Proof.Machine.execPowerStageFault t s
  | .overvoltageLatchRelease t vin => Sys2Proof.Machine.execOvervoltageLatchRelease t vin s
  | .railOutOfRegulation t stove outside => Sys2Proof.Machine.execRailOutOfRegulation t stove outside s
  | .vaux33CurrentLimit t limiting => Sys2Proof.Machine.execVaux33CurrentLimit t limiting s
  | .railSample t smp => Sys2Proof.Machine.execRailSample t smp s
  | .sagLevelEnter t vin => Sys2Proof.Machine.execSagLevelEnter t vin s
  | .sagLevelLeave t vin => Sys2Proof.Machine.execSagLevelLeave t vin s
  | .powerLoopTick t => Sys2Proof.Machine.execPowerLoopTick t s
  | .thermalModelTick t readings => Sys2Proof.Machine.execThermalModelTick t readings s
  | .spareDiodeTakeover t stove diode => Sys2Proof.Machine.execSpareDiodeTakeover t stove diode s
  | .throttleStep t stove => Sys2Proof.Machine.execThrottleStep t stove s
  | .throttleRecoveryStep t stove => Sys2Proof.Machine.execThrottleRecoveryStep t stove s
  | .retentionBandCheck t temps => Sys2Proof.Machine.execRetentionBandCheck t temps s
  | .wearMeasurement t part measure => Sys2Proof.Machine.execWearMeasurement t part measure s
  | .wearRecordWrite t r => Sys2Proof.Machine.execWearRecordWrite t r s
  | .commitReq t r => Sys2Proof.Machine.execCommitReq t r s
  | .commitValidationDone t dev => Sys2Proof.Machine.execCommitValidationDone t dev s
  | .start t r => Sys2Proof.Machine.execStart t r s
  | .stop t r => Sys2Proof.Machine.execStop t r s
  | .bank t r => Sys2Proof.Machine.execBank t r s
  | .bankedEntry t => Sys2Proof.Machine.execBankedEntry t s
  | .wakeSource t bit => Sys2Proof.Machine.execWakeSource t bit s
  | .wakeComplete t dev => Sys2Proof.Machine.execWakeComplete t dev s
  | .reset t r => Sys2Proof.Machine.execReset t r s
  | .rstNLow t => Sys2Proof.Machine.execRstNLow t s
  | .rstNRelease t => Sys2Proof.Machine.execRstNRelease t s
  | .holdNAsserted t => Sys2Proof.Machine.execHoldNAsserted t s
  | .holdNReleased t => Sys2Proof.Machine.execHoldNReleased t s
  | .frameStart t c => Sys2Proof.Machine.execFrameStart t c s
  | .stripeStart t c => Sys2Proof.Machine.execStripeStart t c s
  | .compositionComplete t c f k late => Sys2Proof.Machine.execCompositionComplete t c f k late s
  | .signatureActionTrigger t c region => Sys2Proof.Machine.execSignatureActionTrigger t c region s
  | .stripeReady t h c f k => Sys2Proof.Machine.execStripeReady t h c f k s
  | .councilDependenceTf t c f k => Sys2Proof.Machine.execCouncilDependenceTf t c f k s
  | .jobComplete t wid => Sys2Proof.Machine.execJobComplete t wid s
  | .sliceInOutputBuffer t h flow f j seg => Sys2Proof.Machine.execSliceInOutputBuffer t h flow f j seg s
  | .seamFilterDone t h flow f j => Sys2Proof.Machine.execSeamFilterDone t h flow f j s
  | .grateCreditTick t h => Sys2Proof.Machine.execGrateCreditTick t h s
  | .readinessDeadline t c f k => Sys2Proof.Machine.execReadinessDeadline t c f k s
  | .missingStripeCopyDone t h c f k => Sys2Proof.Machine.execMissingStripeCopyDone t h c f k s
  | .sendWindowOpen t c f k => Sys2Proof.Machine.execSendWindowOpen t c f k s
  | .tailSlotOpen t port c f k => Sys2Proof.Machine.execTailSlotOpen t port c f k s
  | .channelStopComplete t c => Sys2Proof.Machine.execChannelStopComplete t c s
  | .obsWindowEnd t => Sys2Proof.Machine.execObsWindowEnd t s
  | .withyCheckerFault t wid addr => Sys2Proof.Machine.execWithyCheckerFault t wid addr s
  | .jobOverrun t wid => Sys2Proof.Machine.execJobOverrun t wid s
  | .spareSelfTestDone t wid pass => Sys2Proof.Machine.execSpareSelfTestDone t wid pass s
  | .retireReq t r => Sys2Proof.Machine.execRetireReq t r s
  | .retirementDrainDone t wid => Sys2Proof.Machine.execRetirementDrainDone t wid s
  | .councilSummarySend t c f k => Sys2Proof.Machine.execCouncilSummarySend t c f k s
  | .councilSummaryRx t port frame => Sys2Proof.Machine.execCouncilSummaryRx t port frame s
  | .councilWaitLimit t c f k => Sys2Proof.Machine.execCouncilWaitLimit t c f k s
  | .councilBroadcastRx t port frame => Sys2Proof.Machine.execCouncilBroadcastRx t port frame s
  | .councilChildAbsent t c child => Sys2Proof.Machine.execCouncilChildAbsent t c child s
  | .councilRootLost t c => Sys2Proof.Machine.execCouncilRootLost t c s
  | .layerNrAction t c layer => Sys2Proof.Machine.execLayerNrAction t c layer s
  | .compRelease t r c => Sys2Proof.Machine.execCompRelease t r c s
  | .pipeCheckerFault t p => Sys2Proof.Machine.execPipeCheckerFault t p s
  | .expectedWrite t r c => Sys2Proof.Machine.execExpectedWrite t r c s
  | .ingestPacketRx t n pkt => Sys2Proof.Machine.execIngestPacketRx t n pkt s
  | .ingestFormatError t n => Sys2Proof.Machine.execIngestFormatError t n s
  | .captureFrameComplete t input key hdmi => Sys2Proof.Machine.execCaptureFrameComplete t input key hdmi s
  | .frameIncompleteTimeout t input key => Sys2Proof.Machine.execFrameIncompleteTimeout t input key s
  | .lockedFrameRelease t input id => Sys2Proof.Machine.execLockedFrameRelease t input id s
  | .ingestLegLost t n leg => Sys2Proof.Machine.execIngestLegLost t n leg s
  | .hdmi5vRise t p => Sys2Proof.Machine.execHdmi5vRise t p s
  | .hdmi5vDebounceEnd t p => Sys2Proof.Machine.execHdmi5vDebounceEnd t p s
  | .hdmi5vFall t p => Sys2Proof.Machine.execHdmi5vFall t p s
  | .hdmiHpdLowEnd t p => Sys2Proof.Machine.execHdmiHpdLowEnd t p s
  | .edidWrite t r p => Sys2Proof.Machine.execEdidWrite t r p s
  | .ddcAccess t p a => Sys2Proof.Machine.execDdcAccess t p a s
  | .hdmiLock t p timing => Sys2Proof.Machine.execHdmiLock t p timing s
  | .hdmiLockLoss t p => Sys2Proof.Machine.execHdmiLockLoss t p s
  | .aviInfoframeRx t p format colour => Sys2Proof.Machine.execAviInfoframeRx t p format colour s
  | .itemAlloc t r => Sys2Proof.Machine.execItemAlloc t r s
  | .itemData t r => Sys2Proof.Machine.execItemData t r s
  | .itemDone t r => Sys2Proof.Machine.execItemDone t r s
  | .itemDelete t r => Sys2Proof.Machine.execItemDelete t r s
  | .relayLineRx t port line => Sys2Proof.Machine.execRelayLineRx t port line s
  | .relayLineForward t port => Sys2Proof.Machine.execRelayLineForward t port s
  | .refInEdge t lineAt => Sys2Proof.Machine.execRefInEdge t lineAt s
  | .refPeriodMissing t => Sys2Proof.Machine.execRefPeriodMissing t s
  | .refSettingWrite t r sub => Sys2Proof.Machine.execRefSettingWrite t r sub s
  | .ppsInEdge t lineAt => Sys2Proof.Machine.execPpsInEdge t lineAt s
  | .ethFrameRx t port frame => Sys2Proof.Machine.execEthFrameRx t port frame s
  | .ethLinkUp t port => Sys2Proof.Machine.execEthLinkUp t port s
  | .ethLinkDown t port => Sys2Proof.Machine.execEthLinkDown t port s
  | .neighbourRefresh t port => Sys2Proof.Machine.execNeighbourRefresh t port s
  | .packetEligible t e => Sys2Proof.Machine.execPacketEligible t e s
  | .portTxSelect t port => Sys2Proof.Machine.execPortTxSelect t port s
  | .gateIntervalEnd t port => Sys2Proof.Machine.execGateIntervalEnd t port s
  | .configChange t r port => Sys2Proof.Machine.execConfigChange t r port s
  | .gateChangeTime t port => Sys2Proof.Machine.execGateChangeTime t port s
  | .meterConfigWrite t r m sub => Sys2Proof.Machine.execMeterConfigWrite t r m sub s
  | .queueDepthSample t port => Sys2Proof.Machine.execQueueDepthSample t port s
  | .histWindowEnd t port => Sys2Proof.Machine.execHistWindowEnd t port s
  | .timeSet t r => Sys2Proof.Machine.execTimeSet t r s
  | .timeAdjust t r => Sys2Proof.Machine.execTimeAdjust t r s
  | .ptpEventRx t inst msg => Sys2Proof.Machine.execPtpEventRx t inst msg s
  | .ptpAnnounceTimeout t inst => Sys2Proof.Machine.execPtpAnnounceTimeout t inst s
  | .ptpSyncTimeout t inst => Sys2Proof.Machine.execPtpSyncTimeout t inst s
  | .ptpDelayReqSend t inst => Sys2Proof.Machine.execPtpDelayReqSend t inst s
  | .ptpTx t r q => Sys2Proof.Machine.execPtpTx t r q s
  | .ptpRxRead t r q => Sys2Proof.Machine.execPtpRxRead t r q s
  | .tsRead t r q => Sys2Proof.Machine.execTsRead t r q s
  | .tsEntryStale t q => Sys2Proof.Machine.execTsEntryStale t q s
  | .hostSample t r => Sys2Proof.Machine.execHostSample t r s
  | .hostSampleExpire t => Sys2Proof.Machine.execHostSampleExpire t s
  | .sourcePreferenceTimer t => Sys2Proof.Machine.execSourcePreferenceTimer t s
  | .holdoverMaxPassed t => Sys2Proof.Machine.execHoldoverMaxPassed t s
  | .stoveCounterCompare t diff => Sys2Proof.Machine.execStoveCounterCompare t diff s
  | .ppsOutPulse t => Sys2Proof.Machine.execPpsOutPulse t s
  | .flueTimeExchange t port => Sys2Proof.Machine.execFlueTimeExchange t port s
  | .flueTimeFrameRx t port frame lineAt => Sys2Proof.Machine.execFlueTimeFrameRx t port frame lineAt s
  | .i2sFrameRx t p lineAt left right => Sys2Proof.Machine.execI2sFrameRx t p lineAt left right s
  | .hdmiAudioPacketRx t p packet => Sys2Proof.Machine.execHdmiAudioPacketRx t p packet s
  | .asrcLocked t p => Sys2Proof.Machine.execAsrcLocked t p s
  | .audioUnderrun t p => Sys2Proof.Machine.execAudioUnderrun t p s
  | .audioOverrun t p => Sys2Proof.Machine.execAudioOverrun t p s
  | .underrunHoldEnd t p => Sys2Proof.Machine.execUnderrunHoldEnd t p s
  | .audioResume t p => Sys2Proof.Machine.execAudioResume t p s
  | .audioPacketRelease t a => Sys2Proof.Machine.execAudioPacketRelease t a s
  | .flueTrainingDone t port lanes peer delayPs => Sys2Proof.Machine.execFlueTrainingDone t port lanes peer delayPs s
  | .flueTrainingRetry t port => Sys2Proof.Machine.execFlueTrainingRetry t port s
  | .flueLinkAdmit t port => Sys2Proof.Machine.execFlueLinkAdmit t port s
  | .flueLinkDown t port => Sys2Proof.Machine.execFlueLinkDown t port s
  | .laneSerExceeded t port lane ser => Sys2Proof.Machine.execLaneSerExceeded t port lane ser s
  | .laneRetire t r port => Sys2Proof.Machine.execLaneRetire t r port s
  | .laneLost t port lane => Sys2Proof.Machine.execLaneLost t port lane s
  | .flueFrameRx t port frame crcOk => Sys2Proof.Machine.execFlueFrameRx t port frame crcOk s
  | .broadcastFrameRx t port frame => Sys2Proof.Machine.execBroadcastFrameRx t port frame s
  | .topologyAdvertTimer t => Sys2Proof.Machine.execTopologyAdvertTimer t s
  | .topologyAdvertRx t port frame => Sys2Proof.Machine.execTopologyAdvertRx t port frame s
  | .enumStart t r => Sys2Proof.Machine.execEnumStart t r s
  | .enumerationFrameRx t port frame => Sys2Proof.Machine.execEnumerationFrameRx t port frame s
  | .switchReq t r => Sys2Proof.Machine.execSwitchReq t r s
  | .twinSwitchReq t r => Sys2Proof.Machine.execTwinSwitchReq t r s
  | .hearthLevelFault t h part => Sys2Proof.Machine.execHearthLevelFault t h part s
  | .arbitrationResult t which faulty twinFaulty => Sys2Proof.Machine.execArbitrationResult t which faulty twinFaulty s
  | .hearthSelfTestDone t h pass failed => Sys2Proof.Machine.execHearthSelfTestDone t h pass failed s
  | .pairResyncDone t pair => Sys2Proof.Machine.execPairResyncDone t pair s
  | .bistPeriodTimer t pair failed memoryOk => Sys2Proof.Machine.execBistPeriodTimer t pair failed memoryOk s
  | .twinHashRx t port frame => Sys2Proof.Machine.execTwinHashRx t port frame s
  | .sendTokenRx t port frame => Sys2Proof.Machine.execSendTokenRx t port frame s
  | .sendTokenMissed t c f k => Sys2Proof.Machine.execSendTokenMissed t c f k s
  | .giveUpFrameRx t port frame => Sys2Proof.Machine.execGiveUpFrameRx t port frame s
  | .lastGaspRx t port frame => Sys2Proof.Machine.execLastGaspRx t port frame s
  | .fenceFrameRx t port frame => Sys2Proof.Machine.execFenceFrameRx t port frame s
  | .dramCorrectedError t addr rank dev scrub => Sys2Proof.Machine.execDramCorrectedError t addr rank dev scrub s
  | .dramUncorrectable t addr access => Sys2Proof.Machine.execDramUncorrectable t addr access s
  | .poisonedRead t addr user => Sys2Proof.Machine.execPoisonedRead t addr user s
  | .rankMigrationDone t ch => Sys2Proof.Machine.execRankMigrationDone t ch s
  | .rankRetire t r => Sys2Proof.Machine.execRankRetire t r s
  | .scrubPass t ch => Sys2Proof.Machine.execScrubPass t ch s
  | .caParityAlert t ch sub => Sys2Proof.Machine.execCaParityAlert t ch sub s
  | .dramRetrainDone t ch ok => Sys2Proof.Machine.execDramRetrainDone t ch ok s
  | .dramTempPoll t ch temps => Sys2Proof.Machine.execDramTempPoll t ch temps s
  | .dramRefreshDue t ch sub => Sys2Proof.Machine.execDramRefreshDue t ch sub s
  | .rfmDue t ch sub rank bank => Sys2Proof.Machine.execRfmDue t ch sub rank bank s
  | .sramCorrected t stove off => Sys2Proof.Machine.execSramCorrected t stove off s
  | .sramUncorrectable t stove off user => Sys2Proof.Machine.execSramUncorrectable t stove off user s
  | .presentPulseEnd t => Sys2Proof.Machine.execPresentPulseEnd t s
  | .statusClear t r g => Sys2Proof.Machine.execStatusClear t r g s
  | .ibiArbitration t won => Sys2Proof.Machine.execIbiArbitration t won s
  | .captureClear t r g => Sys2Proof.Machine.execCaptureClear t r g s
  | .quietPeriodEnd t dom => Sys2Proof.Machine.execQuietPeriodEnd t dom s
  | .release t r cls => Sys2Proof.Machine.execRelease t r cls s
  | .ashRead t r => Sys2Proof.Machine.execAshRead t r s
  | .ashClear t r => Sys2Proof.Machine.execAshClear t r s
  | .injArm t r n => Sys2Proof.Machine.execInjArm t r n s
  | .injStop t r => Sys2Proof.Machine.execInjStop t r s
  | .standinsClear t r => Sys2Proof.Machine.execStandinsClear t r s
  | .keyDebouncedChange t k pressed => Sys2Proof.Machine.execKeyDebouncedChange t k pressed s
  | .keyLongPress t k => Sys2Proof.Machine.execKeyLongPress t k s
  | .remoteAction t r => Sys2Proof.Machine.execRemoteAction t r s
  | .touchInt t => Sys2Proof.Machine.execTouchInt t s
  | .touchPoll t => Sys2Proof.Machine.execTouchPoll t s
  | .touchReportRead t res => Sys2Proof.Machine.execTouchReportRead t res s
  | .touchHold t contact => Sys2Proof.Machine.execTouchHold t contact s
  | .touchRetry t dev => Sys2Proof.Machine.execTouchRetry t dev s
  | .granilRead t r idx sub => Sys2Proof.Machine.execGranilRead t r idx sub s
  | .granilWrite t r op idx sub => Sys2Proof.Machine.execGranilWrite t r op idx sub s
  | .segInitWrite t r idx sub => Sys2Proof.Machine.execSegInitWrite t r idx sub s
  | .segInitRead t r idx sub => Sys2Proof.Machine.execSegInitRead t r idx sub s
  | .segDataWrite t r idx sub => Sys2Proof.Machine.execSegDataWrite t r idx sub s
  | .segDataRead t r idx sub => Sys2Proof.Machine.execSegDataRead t r idx sub s
  | .segEndWrite t r idx sub => Sys2Proof.Machine.execSegEndWrite t r idx sub s
  | .segEndRead t r idx sub => Sys2Proof.Machine.execSegEndRead t r idx sub s
  | .granilAbort t r idx sub => Sys2Proof.Machine.execGranilAbort t r idx sub s
  | .segTimeout t who => Sys2Proof.Machine.execSegTimeout t who s
  | .firmwareCheckDone t => Sys2Proof.Machine.execFirmwareCheckDone t s
  | .forwardedResponseRx t port frame => Sys2Proof.Machine.execForwardedResponseRx t port frame s
  | .fwdTimeout t => Sys2Proof.Machine.execFwdTimeout t s
  | .levelReq t r => Sys2Proof.Machine.execLevelReq t r s
  | .pinLockoutEnd t who => Sys2Proof.Machine.execPinLockoutEnd t who s
  | .sessionIdleTimeout t who => Sys2Proof.Machine.execSessionIdleTimeout t who s
  | .i3cPrivateRead t => Sys2Proof.Machine.execI3cPrivateRead t s
  | .hdrDdrRead t lineErr => Sys2Proof.Machine.execHdrDdrRead t lineErr s
  | .hotJoinRequest t => Sys2Proof.Machine.execHotJoinRequest t s
  | .entdaa t addr => Sys2Proof.Machine.execEntdaa t addr s
  | .setnewda t addr => Sys2Proof.Machine.execSetnewda t addr s
  | .rstdaa t => Sys2Proof.Machine.execRstdaa t s
  | .enec t ints hj => Sys2Proof.Machine.execEnec t ints hj s
  | .disec t ints hj => Sys2Proof.Machine.execDisec t ints hj s
  | .setmwl t len => Sys2Proof.Machine.execSetmwl t len s
  | .getmwl t => Sys2Proof.Machine.execGetmwl t s
  | .setmrl t len payload => Sys2Proof.Machine.execSetmrl t len payload s
  | .getmrl t => Sys2Proof.Machine.execGetmrl t s
  | .getpid t => Sys2Proof.Machine.execGetpid t s
  | .getbcr t => Sys2Proof.Machine.execGetbcr t s
  | .getdcr t => Sys2Proof.Machine.execGetdcr t s
  | .getstatus t => Sys2Proof.Machine.execGetstatus t s
  | .enthdr0 t => Sys2Proof.Machine.execEnthdr0 t s
  | .unsupportedCcc t direct => Sys2Proof.Machine.execUnsupportedCcc t direct s
  | .testRstNChange t high => Sys2Proof.Machine.execTestRstNChange t high s
  | .tapIdcode t stove => Sys2Proof.Machine.execTapIdcode t stove s
  | .tapBypass t stove => Sys2Proof.Machine.execTapBypass t stove s
  | .tapBoundaryScan t stove => Sys2Proof.Machine.execTapBoundaryScan t stove s
  | .rootPllLockLost t forwarded => Sys2Proof.Machine.execRootPllLockLost t forwarded s
  | .crossingFifoError t x => Sys2Proof.Machine.execCrossingFifoError t x s
  | .blockCheckerEvent t b => Sys2Proof.Machine.execBlockCheckerEvent t b s
  | .uncorrectableFecCodeword t port => Sys2Proof.Machine.execUncorrectableFecCodeword t port s
  | .timeOutputPulseEnd t which => Sys2Proof.Machine.execTimeOutputPulseEnd t which s
  | .ledBlinkTimer t n => Sys2Proof.Machine.execLedBlinkTimer t n s
  | .wakeDeferralEnd t vin => Sys2Proof.Machine.execWakeDeferralEnd t vin s
  | .startNoChannelTimer t => Sys2Proof.Machine.execStartNoChannelTimer t s
  | .dramCommandSlot t ch sub arrivals => Sys2Proof.Machine.execDramCommandSlot t ch sub arrivals s

end Sys2Proof.Machine
end

