-- ==== Sys2Proof/Machine/Step.lean ====
section
/-!
DEFINITION. One step: the command at the front of the queue, or one tick of the time counter on an empty queue.
-/
namespace Sys2Proof.Machine

/-- Nothing is commanded: one 400 MHz tick passes, in which only cells already queued on the Flue links go out and
what is shown each millisecond is brought up (assumption 1). -/
def State.idle (s : State) : State := s.begin (s.now + tuTick)

/-- The command at the front of the queue has its effect on the state with the queue's rest. -/
def step (s : State) : Host.Outcome State Fault Refusal :=
  match s.pending with
  | [] => .next s.idle
  | c :: rest => exec c { s with pending := rest }

/-- The state with the command that a word spells at the front of its queue; a word spells none. -/
def State.withFetchWord (s : State) (nbits w : Nat) : State :=
  match decodeTableWord nbits w with
  | some c => { s with pending := c :: s.pending }
  | none => s

end Sys2Proof.Machine
end

