-- ==== Sys2Proof/Machine/Flags.lean ====
section
/-!
DEFINITION. The flag contacts that the module drives, as functions of the state (R317, R349, R432, R433).
-/
namespace Sys2Proof.Machine

/-- PG (R432): the stage converts and no rail in use lies outside its band. -/
def State.pgPin (s : State) : Bool :=
  decide (s.sys.boot = .pg ∨ s.sys.boot = .pll ∨ s.sys.boot = .up) && !s.pwr.latched && !s.isPresent (src 1 7) && !s.isPresent (src 1 8)

/-- FAULT_N is asserted (R317, R334, R399, R433): before KINDLING, while RST_N is low, on a present source of class 4 or 5, in DAMPED and
in COLD. -/
def State.faultPin (s : State) : Bool :=
  decide (s.sys.boot ≠ .up) || s.sys.rstLow || decide (s.sys.mode = .damped ∨ s.sys.mode = .cold) ||
    s.flt.present.any (fun p => decide (4 ≤ evClass p.source))

/-- ALERT_N is asserted (R317, R322, R339, R433). -/
def State.alertPin (s : State) : Bool :=
  s.isUp && !s.sys.rstLow && (s.alert || decide (s.sys.mode = .cold) || (decide (s.pwr.sag = 5) && decide (s.sys.mode ≠ .banked)))

/-- BANK_N is asserted (R349, R351, R433). -/
def State.bankPin (s : State) : Bool := s.isUp && !s.sys.rstLow && decide (s.sys.mode = .banked)

end Sys2Proof.Machine
end

