-- ==== Sys2Proof/Machine/Operands.lean ====
section
/-!
DEFINITION. The operands that commands have in common: the instant of each, and the Granil request that some carry (R377, R378).
-/
namespace Sys2Proof.Machine

/-- The instant, in 1/36 ns, at which a command reaches the module (assumption 2). -/
def instantOf (i : Instr) : Nat :=
  match i with
  | .powerStageStart t _ => t
  | .pgAsserted t => t
  | .rootPllLock t => t
  | .kindlingEntered t _ => t
  | .dramTrainingDone t _ _ => t
  | .inputOvervoltage t _ => t
  | .powerStageFault t => t
  | .overvoltageLatchRelease t _ => t
  | .railOutOfRegulation t _ _ => t
  | .vaux33CurrentLimit t _ => t
  | .railSample t _ => t
  | .sagLevelEnter t _ => t
  | .sagLevelLeave t _ => t
  | .powerLoopTick t => t
  | .thermalModelTick t _ => t
  | .spareDiodeTakeover t _ _ => t
  | .throttleStep t _ => t
  | .throttleRecoveryStep t _ => t
  | .retentionBandCheck t _ => t
  | .wearMeasurement t _ _ => t
  | .wearRecordWrite t _ => t
  | .commitReq t _ => t
  | .commitValidationDone t _ => t
  | .start t _ => t
  | .stop t _ => t
  | .bank t _ => t
  | .bankedEntry t => t
  | .wakeSource t _ => t
  | .wakeComplete t _ => t
  | .reset t _ => t
  | .rstNLow t => t
  | .rstNRelease t => t
  | .holdNAsserted t => t
  | .holdNReleased t => t
  | .frameStart t _ => t
  | .stripeStart t _ => t
  | .compositionComplete t _ _ _ _ => t
  | .signatureActionTrigger t _ _ => t
  | .stripeReady t _ _ _ _ => t
  | .councilDependenceTf t _ _ _ => t
  | .jobComplete t _ => t
  | .sliceInOutputBuffer t _ _ _ _ _ => t
  | .seamFilterDone t _ _ _ _ => t
  | .grateCreditTick t _ => t
  | .readinessDeadline t _ _ _ => t
  | .missingStripeCopyDone t _ _ _ _ => t
  | .sendWindowOpen t _ _ _ => t
  | .tailSlotOpen t _ _ _ _ => t
  | .channelStopComplete t _ => t
  | .obsWindowEnd t => t
  | .withyCheckerFault t _ _ => t
  | .jobOverrun t _ => t
  | .spareSelfTestDone t _ _ => t
  | .retireReq t _ => t
  | .retirementDrainDone t _ => t
  | .councilSummarySend t _ _ _ => t
  | .councilSummaryRx t _ _ => t
  | .councilWaitLimit t _ _ _ => t
  | .councilBroadcastRx t _ _ => t
  | .councilChildAbsent t _ _ => t
  | .councilRootLost t _ => t
  | .layerNrAction t _ _ => t
  | .compRelease t _ _ => t
  | .pipeCheckerFault t _ => t
  | .expectedWrite t _ _ => t
  | .ingestPacketRx t _ _ => t
  | .ingestFormatError t _ => t
  | .captureFrameComplete t _ _ _ => t
  | .frameIncompleteTimeout t _ _ => t
  | .lockedFrameRelease t _ _ => t
  | .ingestLegLost t _ _ => t
  | .hdmi5vRise t _ => t
  | .hdmi5vDebounceEnd t _ => t
  | .hdmi5vFall t _ => t
  | .hdmiHpdLowEnd t _ => t
  | .edidWrite t _ _ => t
  | .ddcAccess t _ _ => t
  | .hdmiLock t _ _ => t
  | .hdmiLockLoss t _ => t
  | .aviInfoframeRx t _ _ _ => t
  | .itemAlloc t _ => t
  | .itemData t _ => t
  | .itemDone t _ => t
  | .itemDelete t _ => t
  | .relayLineRx t _ _ => t
  | .relayLineForward t _ => t
  | .refInEdge t _ => t
  | .refPeriodMissing t => t
  | .refSettingWrite t _ _ => t
  | .ppsInEdge t _ => t
  | .ethFrameRx t _ _ => t
  | .ethLinkUp t _ => t
  | .ethLinkDown t _ => t
  | .neighbourRefresh t _ => t
  | .packetEligible t _ => t
  | .portTxSelect t _ => t
  | .gateIntervalEnd t _ => t
  | .configChange t _ _ => t
  | .gateChangeTime t _ => t
  | .meterConfigWrite t _ _ _ => t
  | .queueDepthSample t _ => t
  | .histWindowEnd t _ => t
  | .timeSet t _ => t
  | .timeAdjust t _ => t
  | .ptpEventRx t _ _ => t
  | .ptpAnnounceTimeout t _ => t
  | .ptpSyncTimeout t _ => t
  | .ptpDelayReqSend t _ => t
  | .ptpTx t _ _ => t
  | .ptpRxRead t _ _ => t
  | .tsRead t _ _ => t
  | .tsEntryStale t _ => t
  | .hostSample t _ => t
  | .hostSampleExpire t => t
  | .sourcePreferenceTimer t => t
  | .holdoverMaxPassed t => t
  | .stoveCounterCompare t _ => t
  | .ppsOutPulse t => t
  | .flueTimeExchange t _ => t
  | .flueTimeFrameRx t _ _ _ => t
  | .i2sFrameRx t _ _ _ _ => t
  | .hdmiAudioPacketRx t _ _ => t
  | .asrcLocked t _ => t
  | .audioUnderrun t _ => t
  | .audioOverrun t _ => t
  | .underrunHoldEnd t _ => t
  | .audioResume t _ => t
  | .audioPacketRelease t _ => t
  | .flueTrainingDone t _ _ _ _ => t
  | .flueTrainingRetry t _ => t
  | .flueLinkAdmit t _ => t
  | .flueLinkDown t _ => t
  | .laneSerExceeded t _ _ _ => t
  | .laneRetire t _ _ => t
  | .laneLost t _ _ => t
  | .flueFrameRx t _ _ _ => t
  | .broadcastFrameRx t _ _ => t
  | .topologyAdvertTimer t => t
  | .topologyAdvertRx t _ _ => t
  | .enumStart t _ => t
  | .enumerationFrameRx t _ _ => t
  | .switchReq t _ => t
  | .twinSwitchReq t _ => t
  | .hearthLevelFault t _ _ => t
  | .arbitrationResult t _ _ _ => t
  | .hearthSelfTestDone t _ _ _ => t
  | .pairResyncDone t _ => t
  | .bistPeriodTimer t _ _ _ => t
  | .twinHashRx t _ _ => t
  | .sendTokenRx t _ _ => t
  | .sendTokenMissed t _ _ _ => t
  | .giveUpFrameRx t _ _ => t
  | .lastGaspRx t _ _ => t
  | .fenceFrameRx t _ _ => t
  | .dramCorrectedError t _ _ _ _ => t
  | .dramUncorrectable t _ _ => t
  | .poisonedRead t _ _ => t
  | .rankMigrationDone t _ => t
  | .rankRetire t _ => t
  | .scrubPass t _ => t
  | .caParityAlert t _ _ => t
  | .dramRetrainDone t _ _ => t
  | .dramTempPoll t _ _ => t
  | .dramRefreshDue t _ _ => t
  | .rfmDue t _ _ _ _ => t
  | .sramCorrected t _ _ => t
  | .sramUncorrectable t _ _ _ => t
  | .presentPulseEnd t => t
  | .statusClear t _ _ => t
  | .ibiArbitration t _ => t
  | .captureClear t _ _ => t
  | .quietPeriodEnd t _ => t
  | .release t _ _ => t
  | .ashRead t _ => t
  | .ashClear t _ => t
  | .injArm t _ _ => t
  | .injStop t _ => t
  | .standinsClear t _ => t
  | .keyDebouncedChange t _ _ => t
  | .keyLongPress t _ => t
  | .remoteAction t _ => t
  | .touchInt t => t
  | .touchPoll t => t
  | .touchReportRead t _ => t
  | .touchHold t _ => t
  | .touchRetry t _ => t
  | .granilRead t _ _ _ => t
  | .granilWrite t _ _ _ _ => t
  | .segInitWrite t _ _ _ => t
  | .segInitRead t _ _ _ => t
  | .segDataWrite t _ _ _ => t
  | .segDataRead t _ _ _ => t
  | .segEndWrite t _ _ _ => t
  | .segEndRead t _ _ _ => t
  | .granilAbort t _ _ _ => t
  | .segTimeout t _ => t
  | .firmwareCheckDone t => t
  | .forwardedResponseRx t _ _ => t
  | .fwdTimeout t => t
  | .levelReq t _ => t
  | .pinLockoutEnd t _ => t
  | .sessionIdleTimeout t _ => t
  | .i3cPrivateRead t => t
  | .hdrDdrRead t _ => t
  | .hotJoinRequest t => t
  | .entdaa t _ => t
  | .setnewda t _ => t
  | .rstdaa t => t
  | .enec t _ _ => t
  | .disec t _ _ => t
  | .setmwl t _ => t
  | .getmwl t => t
  | .setmrl t _ _ => t
  | .getmrl t => t
  | .getpid t => t
  | .getbcr t => t
  | .getdcr t => t
  | .getstatus t => t
  | .enthdr0 t => t
  | .unsupportedCcc t _ => t
  | .testRstNChange t _ => t
  | .tapIdcode t _ => t
  | .tapBypass t _ => t
  | .tapBoundaryScan t _ => t
  | .rootPllLockLost t _ => t
  | .crossingFifoError t _ => t
  | .blockCheckerEvent t _ => t
  | .uncorrectableFecCodeword t _ => t
  | .timeOutputPulseEnd t _ => t
  | .ledBlinkTimer t _ => t
  | .wakeDeferralEnd t _ => t
  | .startNoChannelTimer t => t
  | .dramCommandSlot t _ _ _ => t

/-- The request that a command carries: OP, INDEX, SUBINDEX and the rest of the frame (Table 16-5). -/
def requestOf (i : Instr) : Option (Nat × Nat × Nat × Req) :=
  match i with
  | .powerStageStart _ _ => none
  | .pgAsserted _ => none
  | .rootPllLock _ => none
  | .kindlingEntered _ _ => none
  | .dramTrainingDone _ _ _ => none
  | .inputOvervoltage _ _ => none
  | .powerStageFault _ => none
  | .overvoltageLatchRelease _ _ => none
  | .railOutOfRegulation _ _ _ => none
  | .vaux33CurrentLimit _ _ => none
  | .railSample _ _ => none
  | .sagLevelEnter _ _ => none
  | .sagLevelLeave _ _ => none
  | .powerLoopTick _ => none
  | .thermalModelTick _ _ => none
  | .spareDiodeTakeover _ _ _ => none
  | .throttleStep _ _ => none
  | .throttleRecoveryStep _ _ => none
  | .retentionBandCheck _ _ => none
  | .wearMeasurement _ _ _ => none
  | .wearRecordWrite _ r => some (0x20, 0x1F20, 1, r)
  | .commitReq _ r => some (0x20, 0x1F00, 1, r)
  | .commitValidationDone _ _ => none
  | .start _ r => some (0x20, 0x1F00, 3, r)
  | .stop _ r => some (0x20, 0x1F00, 4, r)
  | .bank _ r => some (0x20, 0x1F00, 5, r)
  | .bankedEntry _ => none
  | .wakeSource _ _ => none
  | .wakeComplete _ _ => none
  | .reset _ r => some (0x20, 0x1F00, 6, r)
  | .rstNLow _ => none
  | .rstNRelease _ => none
  | .holdNAsserted _ => none
  | .holdNReleased _ => none
  | .frameStart _ _ => none
  | .stripeStart _ _ => none
  | .compositionComplete _ _ _ _ _ => none
  | .signatureActionTrigger _ _ _ => none
  | .stripeReady _ _ _ _ _ => none
  | .councilDependenceTf _ _ _ _ => none
  | .jobComplete _ _ => none
  | .sliceInOutputBuffer _ _ _ _ _ _ => none
  | .seamFilterDone _ _ _ _ _ => none
  | .grateCreditTick _ _ => none
  | .readinessDeadline _ _ _ _ => none
  | .missingStripeCopyDone _ _ _ _ _ => none
  | .sendWindowOpen _ _ _ _ => none
  | .tailSlotOpen _ _ _ _ _ => none
  | .channelStopComplete _ _ => none
  | .obsWindowEnd _ => none
  | .withyCheckerFault _ _ _ => none
  | .jobOverrun _ _ => none
  | .spareSelfTestDone _ _ _ => none
  | .retireReq _ r => some (0x20, 0xC041, 1, r)
  | .retirementDrainDone _ _ => none
  | .councilSummarySend _ _ _ _ => none
  | .councilSummaryRx _ _ _ => none
  | .councilWaitLimit _ _ _ _ => none
  | .councilBroadcastRx _ _ _ => none
  | .councilChildAbsent _ _ _ => none
  | .councilRootLost _ _ => none
  | .layerNrAction _ _ _ => none
  | .compRelease _ r c => some (0x20, 0x3000 + c, 8, r)
  | .pipeCheckerFault _ _ => none
  | .expectedWrite _ r c => some (0x20, 0x3900 + c, 2, r)
  | .ingestPacketRx _ _ _ => none
  | .ingestFormatError _ _ => none
  | .captureFrameComplete _ _ _ _ => none
  | .frameIncompleteTimeout _ _ _ => none
  | .lockedFrameRelease _ _ _ => none
  | .ingestLegLost _ _ _ => none
  | .hdmi5vRise _ _ => none
  | .hdmi5vDebounceEnd _ _ => none
  | .hdmi5vFall _ _ => none
  | .hdmiHpdLowEnd _ _ => none
  | .edidWrite _ r p => some (0x20, 0x2000 + p, 2, r)
  | .ddcAccess _ _ _ => none
  | .hdmiLock _ _ _ => none
  | .hdmiLockLoss _ _ => none
  | .aviInfoframeRx _ _ _ _ => none
  | .itemAlloc _ r => some (0x20, 0x2300, 0xC, r)
  | .itemData _ r => some (0x20, 0x2300, 0xF, r)
  | .itemDone _ r => some (0x20, 0x2300, 0x10, r)
  | .itemDelete _ r => some (0x20, 0x2300, 0x11, r)
  | .relayLineRx _ _ _ => none
  | .relayLineForward _ _ => none
  | .refInEdge _ _ => none
  | .refPeriodMissing _ => none
  | .refSettingWrite _ r sub => some (0x20, 0x2200, sub, r)
  | .ppsInEdge _ _ => none
  | .ethFrameRx _ _ _ => none
  | .ethLinkUp _ _ => none
  | .ethLinkDown _ _ => none
  | .neighbourRefresh _ _ => none
  | .packetEligible _ _ => none
  | .portTxSelect _ _ => none
  | .gateIntervalEnd _ _ => none
  | .configChange _ r port => some (0x20, 0x6200 + port, 7, r)
  | .gateChangeTime _ _ => none
  | .meterConfigWrite _ r m sub => some (0x20, 0x6400 + m, sub, r)
  | .queueDepthSample _ _ => none
  | .histWindowEnd _ _ => none
  | .timeSet _ r => some (0x20, 0x7000, 2, r)
  | .timeAdjust _ r => some (0x20, 0x7000, 3, r)
  | .ptpEventRx _ _ _ => none
  | .ptpAnnounceTimeout _ _ => none
  | .ptpSyncTimeout _ _ => none
  | .ptpDelayReqSend _ _ => none
  | .ptpTx _ r q => some (0x20, 0x6808 + q, 1, r)
  | .ptpRxRead _ r q => some (0x10, 0x6808 + q, 2, r)
  | .tsRead _ r q => some (0x10, 0x6800 + q, 1, r)
  | .tsEntryStale _ _ => none
  | .hostSample _ r => some (0x20, 0x7001, 0x12, r)
  | .hostSampleExpire _ => none
  | .sourcePreferenceTimer _ => none
  | .holdoverMaxPassed _ => none
  | .stoveCounterCompare _ _ => none
  | .ppsOutPulse _ => none
  | .flueTimeExchange _ _ => none
  | .flueTimeFrameRx _ _ _ _ => none
  | .i2sFrameRx _ _ _ _ _ => none
  | .hdmiAudioPacketRx _ _ _ => none
  | .asrcLocked _ _ => none
  | .audioUnderrun _ _ => none
  | .audioOverrun _ _ => none
  | .underrunHoldEnd _ _ => none
  | .audioResume _ _ => none
  | .audioPacketRelease _ _ => none
  | .flueTrainingDone _ _ _ _ _ => none
  | .flueTrainingRetry _ _ => none
  | .flueLinkAdmit _ _ => none
  | .flueLinkDown _ _ => none
  | .laneSerExceeded _ _ _ _ => none
  | .laneRetire _ r port => some (0x20, 0x8110 + port, 9, r)
  | .laneLost _ _ _ => none
  | .flueFrameRx _ _ _ _ => none
  | .broadcastFrameRx _ _ _ => none
  | .topologyAdvertTimer _ => none
  | .topologyAdvertRx _ _ _ => none
  | .enumStart _ r => some (0x20, 0x8100, 6, r)
  | .enumerationFrameRx _ _ _ => none
  | .switchReq _ r => some (0x20, 0x8200, 6, r)
  | .twinSwitchReq _ r => some (0x20, 0x8210, 0xF, r)
  | .hearthLevelFault _ _ _ => none
  | .arbitrationResult _ _ _ _ => none
  | .hearthSelfTestDone _ _ _ _ => none
  | .pairResyncDone _ _ => none
  | .bistPeriodTimer _ _ _ _ => none
  | .twinHashRx _ _ _ => none
  | .sendTokenRx _ _ _ => none
  | .sendTokenMissed _ _ _ _ => none
  | .giveUpFrameRx _ _ _ => none
  | .lastGaspRx _ _ _ => none
  | .fenceFrameRx _ _ _ => none
  | .dramCorrectedError _ _ _ _ _ => none
  | .dramUncorrectable _ _ _ => none
  | .poisonedRead _ _ _ => none
  | .rankMigrationDone _ _ => none
  | .rankRetire _ r => some (0x20, 0x8000, 5, r)
  | .scrubPass _ _ => none
  | .caParityAlert _ _ _ => none
  | .dramRetrainDone _ _ _ => none
  | .dramTempPoll _ _ _ => none
  | .dramRefreshDue _ _ _ => none
  | .rfmDue _ _ _ _ _ => none
  | .sramCorrected _ _ _ => none
  | .sramUncorrectable _ _ _ _ => none
  | .presentPulseEnd _ => none
  | .statusClear _ r g => some (0x20, 0x9000 + g, 1, r)
  | .ibiArbitration _ _ => none
  | .captureClear _ r g => some (0x20, 0x9000 + g, 6, r)
  | .quietPeriodEnd _ _ => none
  | .release _ r cls => some (0x20, 0x9103 + cls, 6, r)
  | .ashRead _ r => some (0x10, 0x9400, 2, r)
  | .ashClear _ r => some (0x20, 0x9400, 5, r)
  | .injArm _ r i => some (0x20, 0xF010 + i, 4, r)
  | .injStop _ r => some (0x20, 0xF000, 1, r)
  | .standinsClear _ r => some (0x20, 0x4211, 2, r)
  | .keyDebouncedChange _ _ _ => none
  | .keyLongPress _ _ => none
  | .remoteAction _ r => some (0x20, 0xB030, 2, r)
  | .touchInt _ => none
  | .touchPoll _ => none
  | .touchReportRead _ _ => none
  | .touchHold _ _ => none
  | .touchRetry _ _ => none
  | .granilRead _ r idx sub => some (0x10, idx, sub, r)
  | .granilWrite _ r op idx sub => some (op, idx, sub, r)
  | .segInitWrite _ r idx sub => some (0x30, idx, sub, r)
  | .segInitRead _ r idx sub => some (0x30, idx, sub, r)
  | .segDataWrite _ r idx sub => some (0x31, idx, sub, r)
  | .segDataRead _ r idx sub => some (0x31, idx, sub, r)
  | .segEndWrite _ r idx sub => some (0x32, idx, sub, r)
  | .segEndRead _ r idx sub => some (0x32, idx, sub, r)
  | .granilAbort _ r idx sub => some (0x3F, idx, sub, r)
  | .segTimeout _ _ => none
  | .firmwareCheckDone _ => none
  | .forwardedResponseRx _ _ _ => none
  | .fwdTimeout _ => none
  | .levelReq _ r => some (0x20, 0x1002, 2, r)
  | .pinLockoutEnd _ _ => none
  | .sessionIdleTimeout _ _ => none
  | .i3cPrivateRead _ => none
  | .hdrDdrRead _ _ => none
  | .hotJoinRequest _ => none
  | .entdaa _ _ => none
  | .setnewda _ _ => none
  | .rstdaa _ => none
  | .enec _ _ _ => none
  | .disec _ _ _ => none
  | .setmwl _ _ => none
  | .getmwl _ => none
  | .setmrl _ _ _ => none
  | .getmrl _ => none
  | .getpid _ => none
  | .getbcr _ => none
  | .getdcr _ => none
  | .getstatus _ => none
  | .enthdr0 _ => none
  | .unsupportedCcc _ _ => none
  | .testRstNChange _ _ => none
  | .tapIdcode _ _ => none
  | .tapBypass _ _ => none
  | .tapBoundaryScan _ _ => none
  | .rootPllLockLost _ _ => none
  | .crossingFifoError _ _ => none
  | .blockCheckerEvent _ _ => none
  | .uncorrectableFecCodeword _ _ => none
  | .timeOutputPulseEnd _ _ => none
  | .ledBlinkTimer _ _ => none
  | .wakeDeferralEnd _ _ => none
  | .startNoChannelTimer _ => none
  | .dramCommandSlot _ _ _ _ => none

end Sys2Proof.Machine
end

