-- ==== Sys2Proof/WellFormed.lean ====
section
/-!
DEFINITION. Which commands are well formed: every operand fits the field that carries it. The meanings are total on every command;
this says which of them the module can meet.
-/
namespace Sys2Proof

/-- Origin and answer of a request (R391, R395, R396): a port of the module, addresses of their widths. -/
def Path.wf : Path → Bool
  | .i3c => true
  | .ddr => true
  | .mgmt port mac ip udp => decide (port < 10 ∧ mac < 2 ^ 48 ∧ ip < 2 ^ 32 ∧ udp < 65536)
  | .flue port origin session => decide (port < 3 ∧ origin < 65536 ∧ session < 256)

/-- Table 16-6. -/
def Route.wf (q : Route) : Bool := decide (q.dest < 65536 ∧ q.via < 256 ∧ q.session < 256)

/-- Table 16-5. -/
def Req.wf (r : Req) : Bool :=
  r.path.wf && decide (r.flags < 256 ∧ r.seq < 256 ∧ r.len < 65536 ∧ r.crc < 65536) && r.route.all Route.wf

/-- Table 14-8: a row of an SRAM array lies in the window of its stove (R311). -/
def WearPart.wf : WearPart → Bool
  | .withy _ => true
  | .flueLane _ _ => true
  | .ethLane _ _ => true
  | .dramDevice _ _ _ _ => true
  | .sramRow _ offset => decide (offset < 2 ^ 27)
  | .withyRow _ row => decide (row < 65536)

/-- R335: sixteen rails. -/
def RailSmp.wf (x : RailSmp) : Bool := decide (x.rails.length = 16)

/-- R311: one count for each stove. -/
def SramTest.wf (x : SramTest) : Bool := decide (x.repaired.length = 2)

/-- Table 10-3. -/
def FlueFrame.wf (x : FlueFrame) : Bool :=
  decide (x.dest < 65536 ∧ x.src < 65536 ∧ x.cls < 8 ∧ x.typ < 256 ∧ x.hops < 65536 ∧ x.tag < 2 ^ 32 ∧ x.len ≤ 131072)

/-- Widths of the Ethernet, IPv4 and UDP fields. -/
def EthFrame.wf (x : EthFrame) : Bool :=
  decide (x.dstMac < 2 ^ 48 ∧ x.srcMac < 2 ^ 48 ∧ x.vlan < 4096 ∧ x.pcp < 8 ∧ x.ety < 65536) &&
  decide (x.srcIp < 2 ^ 32 ∧ x.dstIp < 2 ^ 32 ∧ x.proto < 256 ∧ x.ttl < 256 ∧ x.dscp < 64) &&
  decide (x.srcUdp < 65536 ∧ x.dstUdp < 65536 ∧ x.udpSum < 65536)

/-- R155: the fields of a sample row data header. -/
def Srd.wf (x : Srd) : Bool := decide (x.len < 65536 ∧ x.row < 32768 ∧ x.offset < 32768)

/-- R155: the fields of an ST 2110-20 packet. -/
def IngestPkt.wf (x : IngestPkt) : Bool :=
  decide (x.payloadType < 128 ∧ x.seq < 2 ^ 32 ∧ x.rtp < 2 ^ 32) && x.srds.all Srd.wf

/-- A device address of DDC has 7 bits (R159). -/
def Ddc.wf : Ddc → Bool
  | .write addr _ => decide (addr < 128)
  | .read addr _ => decide (addr < 128)

/-- A locked link has a size and a period. -/
def HdmiTiming.wf (x : HdmiTiming) : Bool := decide (0 < x.w ∧ 0 < x.h ∧ 0 < x.periodNs)

/-- An audio packet carries at most four pairs (R226). -/
def HdmiAudio.wf (x : HdmiAudio) : Bool := decide (0 < x.rate ∧ x.pairs.length ≤ 4)

/-- R166: identity, entry and line number as the TAG of Table 10-3 holds them. -/
def RelayLine.wf (x : RelayLine) : Bool := decide (x.origin < 1024 ∧ x.entry < 8 ∧ x.line < 2 ^ 19)

/-- Table 10-1. -/
def LinkPeer.wf (x : LinkPeer) : Bool := decide (x.serial < 2 ^ 64 ∧ x.id < 65536 ∧ x.port < 3)

/-- R207: the fields of a PTP message. -/
def PtpMsg.wf (x : PtpMsg) : Bool := decide (x.domain < 256 ∧ x.port < 2 ^ 80 ∧ x.ip < 2 ^ 32 ∧ x.seq < 65536 ∧ x.gm < 2 ^ 64)

/-- R362: the ranges of a touch device are not empty. -/
def TouchDev.wf (x : TouchDev) : Bool := decide (x.xMin ≤ x.xMax ∧ x.yMin ≤ x.yMax ∧ x.vidPid < 2 ^ 32)

/-- R363: the length field of a report has 16 bits. -/
def TouchRead.wf : TouchRead → Bool
  | .nack => true
  | .failed => true
  | .report len _ => decide (len < 65536)

/-- R295: a request is for a 64-byte line. -/
def DramReq.wf (x : DramReq) : Bool := decide (x.addr % 64 = 0 ∧ x.cls < 8 ∧ x.hint < 3) && x.data.all (fun b => decide (b.length = 64))

/-- Whether a command is well formed. -/
def Instr.wf (i : Instr) : Bool :=
  match i with
  | .powerStageStart _ _ => true
  | .pgAsserted _ => true
  | .rootPllLock _ => true
  | .kindlingEntered _ test => test.wf
  | .dramTrainingDone _ usable spare => decide (usable < 256) && decide (spare < 256)
  | .inputOvervoltage _ _ => true
  | .powerStageFault _ => true
  | .overvoltageLatchRelease _ _ => true
  | .railOutOfRegulation _ _ _ => true
  | .vaux33CurrentLimit _ _ => true
  | .railSample _ smp => smp.wf
  | .sagLevelEnter _ _ => true
  | .sagLevelLeave _ _ => true
  | .powerLoopTick _ => true
  | .thermalModelTick _ readings => decide (readings.length = 12)
  | .spareDiodeTakeover _ _ _ => true
  | .throttleStep _ _ => true
  | .throttleRecoveryStep _ _ => true
  | .retentionBandCheck _ temps => decide (temps.length = 2)
  | .wearMeasurement _ part _ => part.wf
  | .wearRecordWrite _ r => r.wf
  | .commitReq _ r => r.wf
  | .commitValidationDone _ dev => dev.all TouchDev.wf
  | .start _ r => r.wf
  | .stop _ r => r.wf
  | .bank _ r => r.wf
  | .bankedEntry _ => true
  | .wakeSource _ _ => true
  | .wakeComplete _ dev => dev.all TouchDev.wf
  | .reset _ r => r.wf
  | .rstNLow _ => true
  | .rstNRelease _ => true
  | .holdNAsserted _ => true
  | .holdNReleased _ => true
  | .frameStart _ _ => true
  | .stripeStart _ _ => true
  | .compositionComplete _ _ _ k _ => decide (k < 1024)
  | .signatureActionTrigger _ _ _ => true
  | .stripeReady _ _ _ _ k => decide (k < 1024)
  | .councilDependenceTf _ _ _ k => decide (k < 1024)
  | .jobComplete _ _ => true
  | .sliceInOutputBuffer _ _ _ _ j seg => decide (j < 128) && decide (seg < 32)
  | .seamFilterDone _ _ _ _ j => decide (j < 128)
  | .grateCreditTick _ _ => true
  | .readinessDeadline _ _ _ k => decide (k.stripe < 1024)
  | .missingStripeCopyDone _ _ _ _ k => decide (k < 1024)
  | .sendWindowOpen _ _ _ k => decide (k < 1024)
  | .tailSlotOpen _ _ _ _ k => decide (k < 1024)
  | .channelStopComplete _ _ => true
  | .obsWindowEnd _ => true
  | .withyCheckerFault _ _ _ => true
  | .jobOverrun _ _ => true
  | .spareSelfTestDone _ _ _ => true
  | .retireReq _ r => r.wf
  | .retirementDrainDone _ _ => true
  | .councilSummarySend _ _ _ k => decide (k < 1024)
  | .councilSummaryRx _ _ frame => frame.wf
  | .councilWaitLimit _ _ _ k => decide (k < 1024)
  | .councilBroadcastRx _ _ frame => frame.wf
  | .councilChildAbsent _ _ child => decide (child < 1024)
  | .councilRootLost _ _ => true
  | .layerNrAction _ _ _ => true
  | .compRelease _ r _ => r.wf
  | .pipeCheckerFault _ _ => true
  | .expectedWrite _ r _ => r.wf
  | .ingestPacketRx _ _ pkt => pkt.wf
  | .ingestFormatError _ _ => true
  | .captureFrameComplete _ _ _ _ => true
  | .frameIncompleteTimeout _ _ _ => true
  | .lockedFrameRelease _ _ _ => true
  | .ingestLegLost _ _ _ => true
  | .hdmi5vRise _ _ => true
  | .hdmi5vDebounceEnd _ _ => true
  | .hdmi5vFall _ _ => true
  | .hdmiHpdLowEnd _ _ => true
  | .edidWrite _ r _ => r.wf
  | .ddcAccess _ _ a => a.wf
  | .hdmiLock _ _ timing => timing.wf
  | .hdmiLockLoss _ _ => true
  | .aviInfoframeRx _ _ _ _ => true
  | .itemAlloc _ r => r.wf
  | .itemData _ r => r.wf
  | .itemDone _ r => r.wf
  | .itemDelete _ r => r.wf
  | .relayLineRx _ _ line => line.wf
  | .relayLineForward _ _ => true
  | .refInEdge _ _ => true
  | .refPeriodMissing _ => true
  | .refSettingWrite _ r sub => r.wf && decide (sub < 256)
  | .ppsInEdge _ _ => true
  | .ethFrameRx _ _ frame => frame.wf
  | .ethLinkUp _ _ => true
  | .ethLinkDown _ _ => true
  | .neighbourRefresh _ _ => true
  | .packetEligible _ _ => true
  | .portTxSelect _ _ => true
  | .gateIntervalEnd _ _ => true
  | .configChange _ r _ => r.wf
  | .gateChangeTime _ _ => true
  | .meterConfigWrite _ r _ sub => r.wf && decide (sub < 256)
  | .queueDepthSample _ _ => true
  | .histWindowEnd _ _ => true
  | .timeSet _ r => r.wf
  | .timeAdjust _ r => r.wf
  | .ptpEventRx _ _ msg => msg.wf
  | .ptpAnnounceTimeout _ _ => true
  | .ptpSyncTimeout _ _ => true
  | .ptpDelayReqSend _ _ => true
  | .ptpTx _ r _ => r.wf
  | .ptpRxRead _ r _ => r.wf
  | .tsRead _ r _ => r.wf
  | .tsEntryStale _ _ => true
  | .hostSample _ r => r.wf
  | .hostSampleExpire _ => true
  | .sourcePreferenceTimer _ => true
  | .holdoverMaxPassed _ => true
  | .stoveCounterCompare _ _ => true
  | .ppsOutPulse _ => true
  | .flueTimeExchange _ _ => true
  | .flueTimeFrameRx _ _ frame _ => frame.wf
  | .i2sFrameRx _ _ _ left right => decide (left.length + right.length ≤ 65)
  | .hdmiAudioPacketRx _ _ packet => packet.wf
  | .asrcLocked _ _ => true
  | .audioUnderrun _ _ => true
  | .audioOverrun _ _ => true
  | .underrunHoldEnd _ _ => true
  | .audioResume _ _ => true
  | .audioPacketRelease _ _ => true
  | .flueTrainingDone _ _ lanes peer _ => decide (lanes < 8) && peer.wf
  | .flueTrainingRetry _ _ => true
  | .flueLinkAdmit _ _ => true
  | .flueLinkDown _ _ => true
  | .laneSerExceeded _ _ _ _ => true
  | .laneRetire _ r _ => r.wf
  | .laneLost _ _ _ => true
  | .flueFrameRx _ _ frame _ => frame.wf
  | .broadcastFrameRx _ _ frame => frame.wf
  | .topologyAdvertTimer _ => true
  | .topologyAdvertRx _ _ frame => frame.wf
  | .enumStart _ r => r.wf
  | .enumerationFrameRx _ _ frame => frame.wf
  | .switchReq _ r => r.wf
  | .twinSwitchReq _ r => r.wf
  | .hearthLevelFault _ _ _ => true
  | .arbitrationResult _ _ _ _ => true
  | .hearthSelfTestDone _ _ _ _ => true
  | .pairResyncDone _ _ => true
  | .bistPeriodTimer _ _ _ _ => true
  | .twinHashRx _ _ frame => frame.wf
  | .sendTokenRx _ _ frame => frame.wf
  | .sendTokenMissed _ _ _ k => decide (k < 1024)
  | .giveUpFrameRx _ _ frame => frame.wf
  | .lastGaspRx _ _ frame => frame.wf
  | .fenceFrameRx _ _ frame => frame.wf
  | .dramCorrectedError _ _ _ _ _ => true
  | .dramUncorrectable _ _ _ => true
  | .poisonedRead _ _ _ => true
  | .rankMigrationDone _ _ => true
  | .rankRetire _ r => r.wf
  | .scrubPass _ _ => true
  | .caParityAlert _ _ _ => true
  | .dramRetrainDone _ _ _ => true
  | .dramTempPoll _ _ _ => true
  | .dramRefreshDue _ _ _ => true
  | .rfmDue _ _ _ _ _ => true
  | .sramCorrected _ _ _ => true
  | .sramUncorrectable _ _ _ _ => true
  | .presentPulseEnd _ => true
  | .statusClear _ r _ => r.wf
  | .ibiArbitration _ _ => true
  | .captureClear _ r _ => r.wf
  | .quietPeriodEnd _ _ => true
  | .release _ r _ => r.wf
  | .ashRead _ r => r.wf
  | .ashClear _ r => r.wf
  | .injArm _ r _ => r.wf
  | .injStop _ r => r.wf
  | .standinsClear _ r => r.wf
  | .keyDebouncedChange _ _ _ => true
  | .keyLongPress _ _ => true
  | .remoteAction _ r => r.wf
  | .touchInt _ => true
  | .touchPoll _ => true
  | .touchReportRead _ res => res.wf
  | .touchHold _ _ => true
  | .touchRetry _ dev => dev.all TouchDev.wf
  | .granilRead _ r idx sub => r.wf && decide (idx < 65536) && decide (sub < 256)
  | .granilWrite _ r op idx sub => r.wf && decide (op < 256) && decide (idx < 65536) && decide (sub < 256)
  | .segInitWrite _ r idx sub => !r.flags.testBit 3 && r.wf && decide (idx < 65536) && decide (sub < 256)
  | .segInitRead _ r idx sub => r.flags.testBit 3 && r.wf && decide (idx < 65536) && decide (sub < 256)
  | .segDataWrite _ r idx sub => r.wf && decide (idx < 65536) && decide (sub < 256)
  | .segDataRead _ r idx sub => r.wf && decide (idx < 65536) && decide (sub < 256)
  | .segEndWrite _ r idx sub => r.wf && decide (idx < 65536) && decide (sub < 256)
  | .segEndRead _ r idx sub => r.wf && decide (idx < 65536) && decide (sub < 256)
  | .granilAbort _ r idx sub => r.wf && decide (idx < 65536) && decide (sub < 256)
  | .segTimeout _ who => who.wf
  | .firmwareCheckDone _ => true
  | .forwardedResponseRx _ _ frame => frame.wf
  | .fwdTimeout _ => true
  | .levelReq _ r => r.wf
  | .pinLockoutEnd _ who => who.wf
  | .sessionIdleTimeout _ who => who.wf
  | .i3cPrivateRead _ => true
  | .hdrDdrRead _ _ => true
  | .hotJoinRequest _ => true
  | .entdaa _ _ => true
  | .setnewda _ _ => true
  | .rstdaa _ => true
  | .enec _ _ _ => true
  | .disec _ _ _ => true
  | .setmwl _ len => decide (len < 65536)
  | .getmwl _ => true
  | .setmrl _ len payload => decide (len < 65536) && decide (payload < 256)
  | .getmrl _ => true
  | .getpid _ => true
  | .getbcr _ => true
  | .getdcr _ => true
  | .getstatus _ => true
  | .enthdr0 _ => true
  | .unsupportedCcc _ _ => true
  | .testRstNChange _ _ => true
  | .tapIdcode _ _ => true
  | .tapBypass _ _ => true
  | .tapBoundaryScan _ _ => true
  | .rootPllLockLost _ _ => true
  | .crossingFifoError _ _ => true
  | .blockCheckerEvent _ _ => true
  | .uncorrectableFecCodeword _ _ => true
  | .timeOutputPulseEnd _ _ => true
  | .ledBlinkTimer _ _ => true
  | .wakeDeferralEnd _ _ => true
  | .startNoChannelTimer _ => true
  | .dramCommandSlot _ _ _ arrivals => arrivals.all DramReq.wf

end Sys2Proof
end

