-- ==== Sys2Proof/Safety.lean ====
section
/-!
DEFINITION. What counts as a safe state and a safe run, and the words in which claims about commands are stated.
-/
namespace Sys2Proof.Machine

/-- A module without power holds nothing but its contacts (R399). -/
def State.holdsNothing (s : State) : Prop := s.sys.boot = .off → s = s.unpowered

/-- A state that `step` leads to from another. -/
def Steps (s s' : State) : Prop := step s = .next s'

/-- A state reached in any number of steps. -/
inductive Reaches (s : State) : State → Prop where
  | here : Reaches s s
  | more {a b : State} : Reaches s a → Steps a b → Reaches s b

/-- The command answers a next state, of which `P` holds. -/
def Gives (c : Instr) (s : State) (P : State → Prop) : Prop := ∃ s', exec c s = .next s' ∧ P s'

/-- The state in which a command of instant `t` finds the module. -/
def arrive (s : State) (t : Nat) : State := s.begin t

/-- Every object but those of a list keeps its value. -/
def ObjectsBut (ks : List Nat) (s s' : State) : Prop := ∀ k, k ∉ ks → objGet s'.live k = objGet s.live k

/-- COUNTS of a source (R316). -/
def countOf (s : State) (source : Nat) : Nat := s.flt.counts.get 0 source

/-- `s'` differs from `s` at most in what an occurrence at a fault source may change (R316 to R328): objects, the collector, states,
handoffs, self-refresh, a give-up frame on the Flue, and what goes out. -/
def FaultFrame (s s' : State) : Prop :=
  s' = { s with live := s'.live, flt := s'.flt, sys := s'.sys, pair := s'.pair, mem := s'.mem, flue := s'.flue, out := s'.out }

/-- The source occurs: it is counted once (R316), and nothing changes that an occurrence does not change. -/
def Occurs (source : Nat) (s s' : State) : Prop := countOf s' source = satAdd 16 (countOf s source) 1 ∧ FaultFrame s s'

/-- The source is present in the domain (R315). -/
def presentIn (s : State) (source dom : Nat) : Bool := s.flt.present.any (fun p => p.source = source && p.dom = dom)

/-- Every command that waits is well formed. -/
def State.queueOk (s : State) : Bool := s.pending.all Instr.wf

/-! Requests. -/

/-- The request that a command carries: instant, OP, INDEX, SUBINDEX and frame (Tables 16-2 and 16-5). -/
inductive Asks : Instr → Nat → Nat → Nat → Nat → Req → Prop where
  | wearRecordWrite (t : Nat) (r : Req) : Asks (.wearRecordWrite t r) t 0x20 0x1F20 1 r
  | commitReq (t : Nat) (r : Req) : Asks (.commitReq t r) t 0x20 0x1F00 1 r
  | start (t : Nat) (r : Req) : Asks (.start t r) t 0x20 0x1F00 3 r
  | stop (t : Nat) (r : Req) : Asks (.stop t r) t 0x20 0x1F00 4 r
  | bank (t : Nat) (r : Req) : Asks (.bank t r) t 0x20 0x1F00 5 r
  | reset (t : Nat) (r : Req) : Asks (.reset t r) t 0x20 0x1F00 6 r
  | retireReq (t : Nat) (r : Req) : Asks (.retireReq t r) t 0x20 0xC041 1 r
  | compRelease (t : Nat) (r : Req) (c : Fin 16) : Asks (.compRelease t r c) t 0x20 (0x3000 + c) 8 r
  | expectedWrite (t : Nat) (r : Req) (c : Fin 16) : Asks (.expectedWrite t r c) t 0x20 (0x3900 + c) 2 r
  | edidWrite (t : Nat) (r : Req) (p : Fin 2) : Asks (.edidWrite t r p) t 0x20 (0x2000 + p) 2 r
  | itemAlloc (t : Nat) (r : Req) : Asks (.itemAlloc t r) t 0x20 0x2300 0xC r
  | itemData (t : Nat) (r : Req) : Asks (.itemData t r) t 0x20 0x2300 0xF r
  | itemDone (t : Nat) (r : Req) : Asks (.itemDone t r) t 0x20 0x2300 0x10 r
  | itemDelete (t : Nat) (r : Req) : Asks (.itemDelete t r) t 0x20 0x2300 0x11 r
  | refSettingWrite (t : Nat) (r : Req) (sub : Nat) : Asks (.refSettingWrite t r sub) t 0x20 0x2200 sub r
  | configChange (t : Nat) (r : Req) (port : Fin 10) : Asks (.configChange t r port) t 0x20 (0x6200 + port) 7 r
  | meterConfigWrite (t : Nat) (r : Req) (m : Fin 1024) (sub : Nat) : Asks (.meterConfigWrite t r m sub) t 0x20 (0x6400 + m) sub r
  | timeSet (t : Nat) (r : Req) : Asks (.timeSet t r) t 0x20 0x7000 2 r
  | timeAdjust (t : Nat) (r : Req) : Asks (.timeAdjust t r) t 0x20 0x7000 3 r
  | ptpTx (t : Nat) (r : Req) (q : Fin 2) : Asks (.ptpTx t r q) t 0x20 (0x6808 + q) 1 r
  | ptpRxRead (t : Nat) (r : Req) (q : Fin 2) : Asks (.ptpRxRead t r q) t 0x10 (0x6808 + q) 2 r
  | tsRead (t : Nat) (r : Req) (q : Fin 5) : Asks (.tsRead t r q) t 0x10 (0x6800 + q) 1 r
  | hostSample (t : Nat) (r : Req) : Asks (.hostSample t r) t 0x20 0x7001 0x12 r
  | laneRetire (t : Nat) (r : Req) (port : Fin 3) : Asks (.laneRetire t r port) t 0x20 (0x8110 + port) 9 r
  | enumStart (t : Nat) (r : Req) : Asks (.enumStart t r) t 0x20 0x8100 6 r
  | switchReq (t : Nat) (r : Req) : Asks (.switchReq t r) t 0x20 0x8200 6 r
  | twinSwitchReq (t : Nat) (r : Req) : Asks (.twinSwitchReq t r) t 0x20 0x8210 0xF r
  | rankRetire (t : Nat) (r : Req) : Asks (.rankRetire t r) t 0x20 0x8000 5 r
  | statusClear (t : Nat) (r : Req) (g : Fin 20) : Asks (.statusClear t r g) t 0x20 (0x9000 + g) 1 r
  | captureClear (t : Nat) (r : Req) (g : Fin 20) : Asks (.captureClear t r g) t 0x20 (0x9000 + g) 6 r
  | release (t : Nat) (r : Req) (cls : Fin 2) : Asks (.release t r cls) t 0x20 (0x9103 + cls) 6 r
  | ashRead (t : Nat) (r : Req) : Asks (.ashRead t r) t 0x10 0x9400 2 r
  | ashClear (t : Nat) (r : Req) : Asks (.ashClear t r) t 0x20 0x9400 5 r
  | injArm (t : Nat) (r : Req) (i : Fin 4) : Asks (.injArm t r i) t 0x20 (0xF010 + i) 4 r
  | injStop (t : Nat) (r : Req) : Asks (.injStop t r) t 0x20 0xF000 1 r
  | standinsClear (t : Nat) (r : Req) : Asks (.standinsClear t r) t 0x20 0x4211 2 r
  | remoteAction (t : Nat) (r : Req) : Asks (.remoteAction t r) t 0x20 0xB030 2 r
  | granilRead (t : Nat) (r : Req) (idx sub : Nat) : Asks (.granilRead t r idx sub) t 0x10 idx sub r
  | granilWrite (t : Nat) (r : Req) (op idx sub : Nat) : Asks (.granilWrite t r op idx sub) t op idx sub r
  | segInitWrite (t : Nat) (r : Req) (idx sub : Nat) : Asks (.segInitWrite t r idx sub) t 0x30 idx sub r
  | segInitRead (t : Nat) (r : Req) (idx sub : Nat) : Asks (.segInitRead t r idx sub) t 0x30 idx sub r
  | segDataWrite (t : Nat) (r : Req) (idx sub : Nat) : Asks (.segDataWrite t r idx sub) t 0x31 idx sub r
  | segDataRead (t : Nat) (r : Req) (idx sub : Nat) : Asks (.segDataRead t r idx sub) t 0x31 idx sub r
  | segEndWrite (t : Nat) (r : Req) (idx sub : Nat) : Asks (.segEndWrite t r idx sub) t 0x32 idx sub r
  | segEndRead (t : Nat) (r : Req) (idx sub : Nat) : Asks (.segEndRead t r idx sub) t 0x32 idx sub r
  | granilAbort (t : Nat) (r : Req) (idx sub : Nat) : Asks (.granilAbort t r idx sub) t 0x3F idx sub r
  | levelReq (t : Nat) (r : Req) : Asks (.levelReq t r) t 0x20 0x1002 2 r

/-- The state in which an admitted request is executed: its path has taken it, and the session is there (R258, R390, R393). -/
def State.found (s : State) (r : Req) : State := ((s.arrived r).letIn r).1

/-- A frame that the module hears: it serves, its path carries it, and it is not another module's (R374, R388, R391 to R396). -/
def Hears (s : State) (r : Req) : Prop :=
  s.serving = true ∧ s.pathServes r.path = true ∧ s.foreign r = false ∧ s.allowed r.path = true ∧ r.lineErr = false

/-- A frame that the module executes: heard, whole, admitted, no repeat, of a form Granil has, and for this module; no transfer is overdue
meanwhile. `e` is the state it finds and `x` its session. -/
def Heard (s : State) (op idx sub : Nat) (r : Req) (e : State) (x : Sess) : Prop :=
  idx < 65536 ∧ sub < 256 ∧ Hears s r ∧ e = s.found r ∧ x = e.sess (whoOf r.path) ∧ s.frameOk op idx sub r = true ∧ formOk op r = true ∧ (s.letIn r).2 = true ∧
  x.lastReq ≠ some (r.seq, r.crc) ∧ e.gran.sessions.all (fun y => !e.overdue y) = true ∧
  ∀ q, r.route = some q → q.dest ≠ 0xFFFF ∧ (q.dest = s.myId ∨ onFlue r.path = true)

/-- A write that passes Table 16-3 with the value `v`. -/
def Writes (s : State) (idx sub : Nat) (r : Req) (e : State) (x : Sess) (v : Val) : Prop :=
  Heard s 0x20 idx sub r e x ∧ nameCode idx sub = 0 ∧ mayWrite idx sub x.level = true ∧ r.len ≤ 4096 ∧
  (objRow idx sub).sizeOk r.data.length = true ∧ v = (objRow idx sub).ty.read r.data ∧ e.writeGate (objRow idx sub) idx sub = 0 ∧
  e.rangeOk (objRow idx sub) idx sub v = true

/-- A READ that passes Table 16-3. -/
def Reads (s : State) (idx sub : Nat) (r : Req) (e : State) (x : Sess) : Prop :=
  Heard s 0x10 idx sub r e x ∧ nameCode idx sub = 0 ∧ mayRead idx sub x.level = true ∧ r.len ≤ 4096 ∧ r.data = [] ∧
  (e.readBytes x idx sub (r.flags.testBit 1)).length ≤ e.respLimit r.path ∧ e.served idx sub false = true ∧ e.readStop x idx sub = 0

/-- The request was answered so, the way it came. -/
def Answered (s' : State) (op idx sub : Nat) (r : Req) (a : Ans) : Prop := Emit.answer r.path (s'.ansBytes op idx sub r a) ∈ s'.out

/-- What an answer alone may change: sessions and what waits to be read or sent, counters, and what goes out. -/
def AnswerFrame (s s' : State) : Prop :=
  s' = { s with out := s'.out, live := s'.live, flt := s'.flt, gran := s'.gran, outp := s'.outp, flue := { s.flue with links := s'.flue.links } }

end Sys2Proof.Machine
end

