-- ==== Sys2Proof/Certificates/Slice0/Obligations.lean ====
section
/-!
DEFINITION. The statements for the provers. A frame is written `s' = { s with … }`: every field of the state that the braces do
not name is unchanged, and a field named with a value of `s'` itself may change.
-/

open Sys2Proof Sys2Proof.Machine

/-! ## The queue, time and power -/

/-- One step: the front command's effect on the state with the queue's rest; with nothing queued one 2.5 ns tick passes, which a command
of that instant finds as any other (the model's choice, assumption 1). -/
def Obligations.StepRunsFrontCommand : Prop :=
  (∀ (c : Instr) (rest : List Instr) (s : State), s.pending = c :: rest → step s = exec c { s with pending := rest }) ∧
  (∀ s : State, s.pending = [] → step s = .next (s.begin (s.now + tuTick)))

/-- No command touches the queue, and time never runs back (assumption 2). -/
def Obligations.CommandsKeepQueueAndTime : Prop :=
  ∀ (c : Instr) (s s' : State), exec c s = .next s' → s'.pending = s.pending ∧ s'.now = max s.now (instantOf c)

/-- Every command completes, whatever state it meets and whatever it carries: a next state follows, the queue as it was and the time the
command's where that is later. A command slot alone needs its requests to lie in the DRAM that Table 12-3 lays out. -/
def Obligations.EveryCommandCompletes : Prop :=
  ∀ (c : Instr) (s : State), (∀ t ch sub rs, c = .dramCommandSlot t ch sub rs → ∀ r ∈ rs, r.addr < 2 ^ 36) →
    ∃ s', exec c s = .next s' ∧ s'.pending = s.pending ∧ s'.now = max s.now (instantOf c)

/-- A module without power holds nothing but its contacts, whatever step is taken (R399; the contacts are assumption 4's). -/
def Obligations.UnpoweredHoldsNothing : Prop :=
  ∀ s s' : State, s.holdsNothing → step s = .next s' → s'.holdsNothing

/-- That invariant holds of the machine right after reset, which is a module without power. -/
def Obligations.ResetHoldsNothing : Prop :=
  State.reset.holdsNothing ∧ State.reset.sys.boot = .off ∧ State.reset.pending = []

/-- R2: whatever the module is doing, STATE reports one of the codes 0x01 to 0x06. -/
def Obligations.StateReportsOnlyItsCodes : Prop :=
  ∀ (s : State) (x : Sess) (committed : Bool), ∃ b : Byte, s.readBytes x 0x1001 1 committed = [b] ∧ 1 ≤ b.toNat ∧ b.toNat ≤ 6

/-- R322: whatever reaches a module in COLD, it stays in COLD unless its power goes. How far power-up has come changes by the commands
of Table 17-1, by resets and by loss of power alone. -/
def Obligations.ColdAndPowerUpMoveOnlyByPower : Prop :=
  (∀ (c : Instr) (s s' : State), s.sys.mode = .cold → exec c s = .next s' → s'.sys.mode = .cold ∨ s'.sys.boot = .off) ∧
  (∀ (c : Instr) (s s' : State), requestOf c = none → exec c s = .next s' → s'.sys.boot ≠ s.sys.boot →
    (∃ t vin, c = .powerStageStart t vin) ∨ (∃ t, c = .pgAsserted t) ∨ (∃ t, c = .rootPllLock t) ∨
    (∃ t x, c = .kindlingEntered t x) ∨ (∃ t vin, c = .overvoltageLatchRelease t vin) ∨ (∃ t vin, c = .sagLevelEnter t vin) ∨
    (∃ t, c = .rstNLow t))

/-- Power-up (R334, R399, R400, Table 17-1): the power stage starts at 34.0 V, PG starts the always-on domain, which samples HOLD_N, and
the root PLL's lock starts the time counter at 0; each leaves everything else as it stood. KINDLING (R399) and DRAM training (R289,
R401): each leaves the time counter, the configuration and the dictionary's copies alone. -/
def Obligations.PowerUpAndKindling : Prop :=
  ((∀ (t vin : Nat) (s m : State), m = s.begin t → s.sys.boot = .off → s.pwr.latched = false → 34000 ≤ vin → s.sys.mode ≠ .cold →
    Gives (.powerStageStart t vin) s (fun s' =>
      s'.sys = { m.sys with boot := .converting, upAt := m.now } ∧
      s'.pwr = { m.pwr with vin := vin } ∧ s'.wear = { m.wear with from_ := m.now } ∧
      s'.lv 0x1000 3 = Config.serial.toNat ∧ s'.lv 0x1000 5 = Config.romVersion.toNat ∧
      ObjectsBut [key 0x1000 3, key 0x1000 4, key 0x1000 5] m s' ∧
      s' = { m with sys := s'.sys, pwr := s'.pwr, wear := s'.wear, inp := s'.inp, live := s'.live })) ∧
  (∀ (t : Nat) (s m : State), m = s.begin t → s.sys.boot = .converting → s.sys.mode ≠ .cold →
    Gives (.pgAsserted t) s (fun s' =>
      s'.sys = { m.sys with boot := .pg } ∧ s'.lv 0x1F00 8 = (if s.sys.holdN then 1 else 0) ∧ ObjectsBut [key 0x1F00 8] m s' ∧
      s' = { m with sys := s'.sys, live := s'.live })) ∧
  (∀ (t : Nat) (s m : State), m = s.begin t → s.sys.boot = .pg → s.sys.rstLow = false → s.sys.mode ≠ .cold →
    Gives (.rootPllLock t) s (fun s' =>
      s' = { m with sys := { m.sys with boot := .pll }, clk := { ({} : Clock) with at_ := m.now, run := true } } ∧ s'.ctrNow = 0)) ∧
  (∀ (t : Nat) (s m : State), m = s.begin t → s.sys.boot ≠ .off →
    Gives (.rstNRelease t) s (fun s' => s' = { m with sys := { m.sys with rstLow := false } }))) ∧
  ((∀ (t : Nat) (test : SramTest) (s m : State), m = s.begin t → s.sys.boot = .pll → s.sys.rstLow = false → s.sys.mode ≠ .cold →
    Gives (.kindlingEntered t test) s (fun s' =>
      s'.sys.boot = .up ∧ s'.sys.mode = (if test.others = [] then .kindling else .cold) ∧ s'.gran = { m.gran with hotJoinAt := m.now + tuMs 10 } ∧
      s' = { m with out := s'.out, live := s'.live, sys := s'.sys, flt := s'.flt, gran := s'.gran, pwr := s'.pwr, wear := s'.wear,
                    pipe := s'.pipe, flue := s'.flue, pair := s'.pair, mem := s'.mem })) ∧
  (∀ (t usable spare : Nat) (s m : State), m = s.begin t → s.isUp = true → s.sys.mode = .kindling → s.sys.dramUsable = 0 →
    s.wear.entries = [] → Gives (.dramTrainingDone t usable spare) s (fun s' =>
      s'.sys = { m.sys with dramUsable := usable % 256, dramSpare := spare % 256 &&& 0x11 } ∧
      s' = { m with out := s'.out, live := s'.live, sys := s'.sys, flt := s'.flt, pair := s'.pair, mem := s'.mem, flue := s'.flue })))

/-! ## Bring-up, supply, power, heat and wear -/

/-- A stage that latches off (R334) and a root PLL that loses its lock (R23) leave the module in COLD with the time counter stopped
where it stood. Rails (R335): a rail outside its band and the 3.3 V limiter are conditions counted once as they begin; VIN_MIN follows
the lowest sample, and ten samples give the means of the millisecond. -/
def Obligations.StageClockAndRailFaults : Prop :=
  ((∀ (t vin : Nat) (s m : State), m = s.begin t → s.sys.boot ≠ .off → s.pwr.latched = false → 80000 < vin →
    Gives (.inputOvervoltage t vin) s (fun s' =>
      s'.sys.mode = .cold ∧ s'.pwr = { m.pwr with vin := vin, latched := true } ∧ s'.clk.run = false ∧ s'.ctrNow = m.ctrNow ∧
      s' = { m with out := s'.out, live := s'.live, sys := s'.sys, clk := s'.clk, flt := s'.flt, pwr := s'.pwr, pair := s'.pair,
                    mem := s'.mem, flue := s'.flue })) ∧
  (∀ (t : Nat) (s m : State), m = s.begin t → s.sys.boot ≠ .off → s.pwr.latched = false →
    Gives (.powerStageFault t) s (fun s' =>
      s'.sys.mode = .cold ∧ s'.pwr = { m.pwr with latched := true } ∧ s'.clk.run = false ∧ s'.ctrNow = m.ctrNow ∧
      s' = { m with out := s'.out, live := s'.live, sys := s'.sys, clk := s'.clk, flt := s'.flt, pwr := s'.pwr, pair := s'.pair,
                    mem := s'.mem, flue := s'.flue })) ∧
  (∀ (t : Nat) (fw : Bool) (s m : State), m = s.begin t → (s.sys.boot = .pll ∨ s.sys.boot = .up) → s.sys.mode ≠ .cold →
    s.sys.mode ≠ .banked → Gives (.rootPllLockLost t fw) s (fun s' =>
      s'.sys.mode = .cold ∧ s'.clk.run = false ∧ s'.ctrNow = m.ctrNow ∧
      s' = { m with out := s'.out, live := s'.live, sys := s'.sys, clk := s'.clk, flt := s'.flt, pair := s'.pair, mem := s'.mem, flue := s'.flue }))) ∧
  ((∀ (t : Nat) (stove : Fin 2) (s m : State), m = s.begin t → s.damperRuns = true →
    (presentIn s (src 1 (7 + stove)) domModule = false →
      Gives (.railOutOfRegulation t stove true) s (Occurs (src 1 (7 + stove)) m)) ∧
    (presentIn s (src 1 (7 + stove)) domModule = true → Gives (.railOutOfRegulation t stove false) s (fun s' =>
      presentIn s' (src 1 (7 + stove)) domModule = false ∧ s' = { m with flt := s'.flt }))) ∧
  (∀ (t : Nat) (s m : State), m = s.begin t → s.damperRuns = true →
    (presentIn s (src 1 11) domModule = false → Gives (.vaux33CurrentLimit t true) s (Occurs (src 1 11) m)) ∧
    (presentIn s (src 1 11) domModule = true → Gives (.vaux33CurrentLimit t false) s (fun s' =>
      presentIn s' (src 1 11) domModule = false ∧ s' = { m with flt := s'.flt }))) ∧
  (∀ (t : Nat) (smp : RailSmp) (s m : State), m = s.begin t → s.damperRuns = true → s.pwr.samples.length < 9 →
    Gives (.railSample t smp) s (fun s' =>
      s'.lv 0xA000 2 = (if s.pwr.sampled then min (s.lv 0xA000 2) smp.vin else smp.vin) ∧ ObjectsBut [key 0xA000 2] m s' ∧
      s' = { m with pwr := { m.pwr with sampled := true, vin := smp.vin, samples := smp :: m.pwr.samples }, live := s'.live })) ∧
  (∀ (t : Nat) (smp : RailSmp) (s m : State), m = s.begin t → s.damperRuns = true → s.pwr.samples.length = 9 →
    Gives (.railSample t smp) s (fun s' =>
      s'.lv 0xA000 1 = meanOf RailSmp.vin (smp :: s.pwr.samples) ∧
      s'.lv 0xA000 7 = meanOf RailSmp.input (smp :: s.pwr.samples) ∧
      s'.lv 0xA000 9 = min 750 (meanOf RailSmp.vaux (smp :: s.pwr.samples)) ∧
      s' = { m with pwr := { m.pwr with sampled := true, vin := smp.vin, samples := [] }, live := s'.live })))

/-- Supply sag (R336, Table 14-2): the five levels and their thresholds; a level entered or left shows in SAG_LEVEL, and the time
counter runs on. Loss of power (R336, R334): below 27.0 V the module is without power, and a latched-off stage is released. -/
def Obligations.SagLevelsAndPowerLoss : Prop :=
  ((∀ vin : Nat, sagEntered vin = if vin < 29000 then 5 else if vin < 30500 then 4 else if vin < 32000 then 3 else if vin < 33500 then 2
    else if vin < 35000 then 1 else 0) ∧
  (∀ vin : Nat, sagHeld vin = if vin ≤ 30000 then 5 else if vin ≤ 31500 then 4 else if vin ≤ 33000 then 3 else if vin ≤ 34500 then 2
    else if vin ≤ 36000 then 1 else 0) ∧
  (∀ (t vin : Nat) (s m : State), m = s.begin t → s.isUp = true → s.pwr.latched = false → 27000 ≤ vin → s.pwr.sag < sagEntered vin →
    Gives (.sagLevelEnter t vin) s (fun s' =>
      s'.pwr = { m.pwr with vin := vin, sag := sagEntered vin } ∧ s'.lv 0xA000 3 = sagEntered vin ∧ s'.sys.boot = .up ∧
      s'.clk = m.clk ∧ s'.comm = m.comm ∧ s'.wear = m.wear ∧ s'.servo = m.servo)) ∧
  (∀ (t vin : Nat) (s m : State), m = s.begin t → s.isUp = true → s.pwr.latched = false → sagHeld vin < s.pwr.sag →
    Gives (.sagLevelLeave t vin) s (fun s' =>
      s'.pwr = { m.pwr with vin := vin, sag := sagHeld vin } ∧ s'.lv 0xA000 3 = sagHeld vin ∧
      s'.clk = m.clk ∧ s'.comm = m.comm ∧ s'.wear = m.wear ∧ s'.servo = m.servo))) ∧
  ((∀ (t vin : Nat) (s : State), s.sys.boot ≠ .off → s.pwr.latched = false → vin < 27000 →
    Gives (.sagLevelEnter t vin) s (fun s' => s'.sys.boot = .off ∧ s' = s'.unpowered ∧ s'.sys.holdN = s.sys.holdN)) ∧
  (∀ (t vin : Nat) (s : State), s.pwr.latched = true → vin < 27000 →
    Gives (.overvoltageLatchRelease t vin) s (fun s' => s'.sys.boot = .off ∧ s'.pwr.latched = false ∧ s' = s'.unpowered)))

/-- R342: a stove in WARN is not lent allowance: after a tick of the power loop no lend goes to it. A lend that begins is at most a
quarter of the lender's allowance, and a tick changes nothing but power and what an event at a fault source changes. -/
def Obligations.StoveInWarnIsLentNothing : Prop :=
  (∀ (t : Nat) (s m : State), m = s.begin t → s.running = true → Gives (.powerLoopTick t) s (fun s' =>
    (m.pwr.heatB.warn = true → s'.pwr.lend ≤ 0) ∧ (m.pwr.heatA.warn = true → 0 ≤ s'.pwr.lend) ∧
    s'.pwr.baseA = m.pwr.baseA ∧ s'.pwr.baseB = m.pwr.baseB ∧ s'.pwr.heatA = m.pwr.heatA ∧ s'.pwr.heatB = m.pwr.heatB ∧
    s' = { m with out := s'.out, live := s'.live, sys := s'.sys, flt := s'.flt, pwr := s'.pwr, pair := s'.pair, mem := s'.mem, flue := s'.flue })) ∧
  (∀ (t : Nat) (s m : State), m = s.begin t → s.running = true → s.pwr.lend = 0 → Gives (.powerLoopTick t) s (fun s' =>
    -((m.pwr.baseB / 4 : Nat) : Int) ≤ s'.pwr.lend ∧ s'.pwr.lend ≤ ((m.pwr.baseA / 4 : Nat) : Int)))

/-- The thermal loop (R346, R347, R348): demand and junction band follow the model; THROTTLE lowers the demand by steps to EMBER every
20 ms, and its end raises it every 200 ms.
R345: a spare diode whose readings have agreed for 10 s serves its node, whose guard ends. R312: in BANKED the hottest diode sets the
band and with it the retention voltage. -/
def Obligations.ThermalLoopAndDiodes : Prop :=
  ((∀ (t : Nat) (rd : List Int) (s m : State), m = s.begin t → s.damperRuns = true → Gives (.thermalModelTick t rd) s (fun s' =>
    (∀ st : Fin 2, s'.lv (0xA010 + st) 0xA = (s'.heat st).demand ∧
      s'.lv (0xA010 + st) 9 = junctionBand (m.lv (0xA010 + st) 9) (s'.heat st).hot) ∧
    (∀ st : Fin 2, 115 * 16 ≤ (s'.heat st).hot → (s'.heat st).shutdown = true) ∧
    s'.clk = m.clk ∧ s'.comm = m.comm ∧ s'.pipe = m.pipe ∧ s'.outp = m.outp ∧ s'.gran = m.gran)) ∧
  (∀ (t : Nat) (stove : Fin 2) (s m : State), m = s.begin t → s.damperRuns = true → (s.heat stove).throttle = true →
    s.throttleHot stove = true → (s.heat stove).stepAt + tuMs 20 ≤ m.now → Gives (.throttleStep t stove) s (fun s' =>
      s'.heat stove = { m.heat stove with demand := min 3 ((m.heat stove).demand + 1), stepAt := m.now } ∧
      s'.heat (1 - stove) = m.heat (1 - stove) ∧ s'.lv (0xA010 + stove) 0xA = (s'.heat stove).demand ∧
      ObjectsBut [key (0xA010 + stove) 0xA] m s' ∧
      s' = { m with pwr := { m.pwr with heatA := s'.pwr.heatA, heatB := s'.pwr.heatB }, live := s'.live })) ∧
  (∀ (t : Nat) (stove : Fin 2) (s m : State), m = s.begin t → s.damperRuns = true → (s.heat stove).recovering = true →
    (s.heat stove).stepAt + tuMs 200 ≤ m.now → Gives (.throttleRecoveryStep t stove) s (fun s' =>
      s'.heat stove = { m.heat stove with
        demand := (m.heat stove).demand - 1, stepAt := m.now, recovering := decide ((m.heat stove).demand - 1 ≠ 0) } ∧
      s'.heat (1 - stove) = m.heat (1 - stove) ∧ s'.lv (0xA010 + stove) 0xA = (m.heat stove).demand - 1 ∧
      ObjectsBut [key (0xA010 + stove) 0xA] m s' ∧
      s' = { m with pwr := { m.pwr with heatA := s'.pwr.heatA, heatB := s'.pwr.heatB }, live := s'.live }))) ∧
  ((∀ (t : Nat) (stove : Fin 2) (d : Fin 6) (n : Nat) (s m : State), m = s.begin t → s.damperRuns = true → 4 ≤ d.val →
    (s.heat stove).diode.getD d 0 = 2 → passed m ((s.heat stove).agreeFrom.getD (d - 4) none) (tuSec 10) = true →
    (s.heat stove).stands.getD (d - 4) none = some n → Gives (.spareDiodeTakeover t stove d) s (fun s' =>
      s'.heat stove = { m.heat stove with diode := (m.heat stove).diode.set d 1, guard := (m.heat stove).guard.set n false } ∧
      s'.heat (1 - stove) = m.heat (1 - stove) ∧
      s' = { m with pwr := { m.pwr with heatA := s'.pwr.heatA, heatB := s'.pwr.heatB } })) ∧
  (∀ (t : Nat) (temps : List Int) (s m : State), m = s.begin t → s.isUp = true → s.sys.mode = .banked → s.pwr.retention.length = 2 →
    Gives (.retentionBandCheck t temps) s (fun s' =>
      (∀ st : Fin 2, s'.lv (0xA010 + st) 9 = junctionBand (m.lv (0xA010 + st) 9) (temps.getD st 0) ∧
        s'.pwr.retention.getD st 0 = retentionMv (s'.lv (0xA010 + st) 9)) ∧
      ObjectsBut [key 0xA010 9, key 0xA011 9] m s' ∧
      s' = { m with pwr := { m.pwr with retention := s'.pwr.retention }, live := s'.live })))

/-- R352: a wear measurement is dated and, where the part has a margin, kept in WEAR_TABLE; the third in a row below WEAR_RETIRE marks a
withy for retirement where AUTO_RETIRE is set. -/
def Obligations.WearMeasured : Prop :=
  (∀ (t : Nat) (part : WearPart) (v : Int) (s m : State), m = s.begin t → s.isUp = true → (s.sys.mode = .laid ∨ s.sys.mode = .lit) →
    s.pwr.sag = 0 → (∀ at_, s.wear.lastAt.get none (wearIndex part) = some at_ → at_ + wearInterval part ≤ m.now) →
    Gives (.wearMeasurement t part v) s (fun s' =>
      s'.wear.lastAt.get none (wearIndex part) = some m.now ∧ s'.clk = m.clk ∧ s'.comm = m.comm ∧ s'.gran = m.gran ∧
      (match part with
        | .withy _ => s'.wear.margins.get 0x8000 (wearIndex part) = unsigned 16 v
        | .flueLane _ _ => s'.wear.margins.get 0x8000 (wearIndex part) = unsigned 16 v
        | .ethLane _ _ => s'.wear.margins.get 0x8000 (wearIndex part) = unsigned 16 v
        | _ => s'.wear.margins = m.wear.margins))) ∧
  (∀ (t : Nat) (w : Fin 288) (v : Int) (s m : State), m = s.begin t → s.isUp = true → (s.sys.mode = .laid ∨ s.sys.mode = .lit) →
    s.pwr.sag = 0 → (∀ at_, s.wear.lastAt.get none w = some at_ → at_ + tuSec 10 ≤ m.now) → s.lv 0xA040 1 = 1 →
    v < (s.lv 0xA040 2 * 256 : Nat) → s.wear.low.get 0 w = 2 → s.wState w < 2 →
    Gives (.wearMeasurement t (.withy w) v) s (fun s' => (s'.withySt w).marked = true ∧ s'.wear.low.get 0 w = 3))

/-! ## Commit, states, BANKED and the contacts -/

/-- R410: once no self-test of a spare that a written wear record called for runs (R115), a refused commit changes no committed copy, no
running function and no state; the pending copies stay as written, COMMIT_STATUS becomes 0x03, REFUSALS is incremented and group 0
source 1 is raised. Its errors are in COMMIT_ERRORS. -/
def Obligations.RefusedCommitChangesNothing : Prop :=
  ∀ (t v : Nat) (dev : Option TouchDev) (new : Tbl Val) (s m : State), m = s.begin t → s.sys.boot ≠ .off →
    s.sys.validating = some (v, new) → s.awaitsSpares = false → m.commitErrors v new ≠ [] →
    Gives (.commitValidationDone t dev) s (fun s' =>
      s'.lv 0x1F00 2 = 3 ∧ s'.lv 0x1F00 0xB = (m.inc 0x1F00 0xB).lv 0x1F00 0xB ∧ countOf s' (src 0 1) = satAdd 16 (countOf m (src 0 1)) 1 ∧
      s'.pend = m.pend ∧ s'.committed = m.committed ∧ s'.comm = m.comm ∧ s'.sys.mode = m.sys.mode ∧
      s'.lvb 0x1F01 1 = ((m.commitErrors v new).take 16).flatMap CErr.bytes ∧
      s'.lv 0x1F01 2 = min 65535 (m.commitErrors v new).length ∧ s'.sys = { m.sys with validating := none } ∧
      ObjectsBut [key 0x1F00 2, key 0x1F00 0xB, key 0x1F01 1, key 0x1F01 2, key 0x9000 1, key 0x9400 4] m s' ∧
      s' = { m with live := s'.live, sys := s'.sys, flt := s'.flt })

/-- R411: an accepted commit takes the copies as they stood at COMMIT_REQ; outside LIT they are in force at once, COMMIT_STATUS is 0x02
and nothing is pending, and from KINDLING the module goes to LAID. Nothing is decided while a self-test that a wear record called for
runs (R115). -/
def Obligations.AcceptedCommitApplies : Prop :=
  (∀ (t v : Nat) (dev : Option TouchDev) (new : Tbl Val) (s m : State), m = s.begin t → s.sys.boot ≠ .off →
    s.sys.validating = some (v, new) → s.awaitsSpares = false → m.commitErrors v new = [] → m.litNow = false →
    Gives (.commitValidationDone t dev) s (fun s' =>
      s'.committed = new ∧ s'.comm = new ∧ s'.pend = m.pend ∧ s'.lv 0x1F00 2 = 2 ∧ s'.sys.validating = none ∧
      s'.sys.everAccepted = true ∧ (s.sys.mode = .kindling → s'.sys.mode = .laid) ∧ s'.gran = m.gran ∧ s'.wear = m.wear)) ∧
  (∀ (t v : Nat) (dev : Option TouchDev) (new : Tbl Val) (s m : State), m = s.begin t → s.sys.boot ≠ .off →
    s.sys.validating = some (v, new) → s.awaitsSpares = false → m.commitErrors v new = [] → m.litNow = true →
    Gives (.commitValidationDone t dev) s (fun s' =>
      s'.committed = new ∧ s'.pend = m.pend ∧ (s'.lv 0x1F00 2 = 4 ∨ s'.lv 0x1F00 2 = 2) ∧ s'.sys.validating = none ∧
      s'.gran = m.gran ∧ s'.wear = m.wear)) ∧
  (∀ (t : Nat) (dev : Option TouchDev) (s m : State), m = s.begin t → s.sys.boot ≠ .off → s.awaitsSpares = true →
    Gives (.commitValidationDone t dev) s (fun s' => s' = m))

/-- BANKED (R309, R312, R349, R350): entry stops the time counter where it stands, ends every Granil session, sets the retention
voltages and keeps the configuration. R351: an enabled source starts the wake, which a supply below 34.0 V holds back.
R351, Table 14-7: the module wakes with the committed configuration in force, the counter running on from where it stopped, and
WAKE_TIME the time since the source, in µs. -/
def Obligations.BankedAndWake : Prop :=
  ((∀ (t : Nat) (s m : State), m = s.begin t → s.sys.boot ≠ .off → s.sys.banking = true → (s.sys.mode = .laid ∨ s.sys.mode = .lit) →
    s.runningChans = [] → Gives (.bankedEntry t) s (fun s' =>
      s'.sys.mode = .banked ∧ s'.sys.banking = false ∧ s'.clk.run = false ∧ s'.ctrNow = m.ctrNow ∧ s'.gran.sessions = [] ∧
      s'.pwr.lend = 0 ∧ s'.pwr.retention.length = 2 ∧
      s' = { m with out := s'.out, live := s'.live, sys := s'.sys, clk := s'.clk, flt := s'.flt, gran := s'.gran, pwr := s'.pwr,
                    outp := s'.outp, flue := s'.flue, mem := s'.mem, audio := s'.audio })) ∧
  (∀ (t : Nat) (bit : Fin 13) (s m : State), m = s.begin t → s.isUp = true → s.sys.mode = .banked → s.sys.wakeFrom = none →
    (s.lv 0xA050 1).testBit bit = true → Gives (.wakeSource t bit) s (fun s' =>
      s'.sys = { m.sys with wakeFrom := some m.now, wakeHeld := decide (s.pwr.vin < 34000), modeReq := .laid } ∧
      s'.lv 0xA050 2 = 2 ^ bit.val ∧ ObjectsBut [key 0xA050 2] m s' ∧ s' = { m with sys := s'.sys, live := s'.live })) ∧
  (∀ (t vin : Nat) (s m : State), m = s.begin t → s.sys.boot ≠ .off → s.sys.wakeHeld = true → 34000 ≤ vin →
    Gives (.wakeDeferralEnd t vin) s (fun s' =>
      s' = { m with sys := { m.sys with wakeHeld := false }, pwr := { m.pwr with vin := vin } }))) ∧
  (∀ (t from_ : Nat) (dev : Option TouchDev) (s m : State), m = s.begin t → s.sys.boot ≠ .off → s.sys.wakeFrom = some from_ →
    s.sys.wakeHeld = false → Gives (.wakeComplete t dev) s (fun s' =>
      s'.comm = m.committed ∧ s'.committed = m.committed ∧ s'.pend = m.pend ∧ s'.sys.wakeFrom = none ∧ s'.clk.run = true ∧
      s'.lv 0xA050 4 = min 0xFFFFFFFF ((m.now - from_) / tuUs 1) ∧ s'.gran = m.gran ∧ s'.flue = m.flue))

/-- R416: RST_N low resets an operating module to the point where its always-on domain runs: no session, no configuration and no fault
is left, while the wear record, HOURS, the identity and what lies outside the module stay; RESET_CAUSE is 1. HOLD_N (R415): HOLD_STATUS
follows the contact; asserted in LIT it stops every running channel, and its release starts a deferred START. -/
def Obligations.ResetAndHoldContacts : Prop :=
  (∀ (t : Nat) (s m : State), m = s.begin t → (s.sys.boot = .pll ∨ s.sys.boot = .up) → s.sys.mode ≠ .cold →
    Gives (.rstNLow t) s (fun s' =>
      s'.sys.boot = .pg ∧ s'.sys.rstLow = true ∧ s'.sys.mode = .kindling ∧ s'.sys.holdN = m.sys.holdN ∧
      s'.sys.wearWritten = m.sys.wearWritten ∧ s'.wear.entries = m.wear.entries ∧ s'.wear.seq = m.wear.seq ∧
      s'.wear.hours0 = m.wear.hours0 ∧ s'.wear.from_ = m.wear.from_ ∧ s'.pwr = { ({} : Power) with vin := m.pwr.vin } ∧
      s'.lv 0x1F00 0xE = 1 ∧ s'.lv 0x8100 7 = m.lv 0x8100 7 ∧ s'.comm = [] ∧ s'.pend = [] ∧ s'.committed = [] ∧ s'.gran = {} ∧
      s'.flt = {} ∧ s'.clk = {} ∧ s'.pipe = {} ∧ s'.outp = {} ∧ s'.mem = {})) ∧
  ((∀ (t : Nat) (s m : State), m = s.begin t → s.holdServed = true → s.sys.holdN = false → s.sys.mode ≠ .lit →
    Gives (.holdNAsserted t) s (fun s' => s'.lv 0x1F00 8 = 1 ∧ ObjectsBut [key 0x1F00 8] m s' ∧
      s' = { m with sys := { m.sys with holdN := true }, live := s'.live })) ∧
  (∀ (t : Nat) (s m : State), m = s.begin t → s.sys.boot = .up → s.sys.holdN = false → s.sys.mode = .lit → s.sys.stopping = false →
    s.runningChans ≠ [] → Gives (.holdNAsserted t) s (fun s' => s'.lv 0x1F00 8 = 1 ∧ s'.sys.holdN = true ∧ s'.sys.stopping = true ∧
      s'.sys.modeReq = .laid ∧ s'.sys.mode = .lit ∧ s'.sys.startFrom = none ∧ s'.clk = m.clk ∧ s'.gran = m.gran)) ∧
  (∀ (t : Nat) (s m : State), m = s.begin t → s.holdServed = true → s.sys.holdN = true → s.sys.startFrom ≠ some none →
    Gives (.holdNReleased t) s (fun s' => s'.lv 0x1F00 8 = 0 ∧ ObjectsBut [key 0x1F00 8] m s' ∧
      s' = { m with sys := { m.sys with holdN := false }, live := s'.live })) ∧
  (∀ (t : Nat) (s m : State), m = s.begin t → s.holdServed = true → s.sys.holdN = true → s.sys.startFrom = some none →
    Gives (.holdNReleased t) s (fun s' => s'.lv 0x1F00 8 = 0 ∧ s'.sys.startFrom = some (some m.now) ∧ s'.sys.modeReq = .lit ∧
      s' = { m with live := s'.live, sys := s'.sys, pipe := s'.pipe, outp := s'.outp, audio := s'.audio })) ∧
  (∀ (t at_ : Nat) (s m : State), m = s.begin t → s.sys.boot ≠ .off → s.sys.mode = .laid → s.sys.holdN = false →
    s.sys.startFrom = some (some at_) → chanOn s.comm = [] → at_ + tuMs 1 ≤ m.now → Gives (.startNoChannelTimer t) s (fun s' =>
      s'.sys.mode = .lit ∧ s'.sys.startFrom = none ∧ s'.lv 0x1001 3 = 2 ∧
      s' = { m with live := s'.live, sys := s'.sys, flt := s'.flt })))

/-- R400: while RST_N is low the module advances no further than PG asserted: neither the root PLL's lock nor KINDLING moves it on; in
COLD the contact is only noted. When RST_N rises, the sequence continues from the PLL row. -/
def Obligations.LowRstNHoldsPowerUp : Prop :=
  (∀ (t : Nat) (s m : State), m = s.begin t → s.sys.boot ≠ .off →
    (s.sys.boot = .converting ∨ s.sys.boot = .pg ∨ s.sys.mode = .cold) →
    Gives (.rstNLow t) s (fun s' => s' = { m with sys := { m.sys with rstLow := true } })) ∧
  (∀ (t : Nat) (s m : State), m = s.begin t → s.sys.boot = .converting → s.sys.rstLow = true → s.sys.mode ≠ .cold →
    Gives (.pgAsserted t) s (fun s' => s'.sys = { m.sys with boot := .pg })) ∧
  (∀ (t : Nat) (test : SramTest) (s m : State), m = s.begin t → s.sys.boot ≠ .off → s.sys.rstLow = true →
    Gives (.rootPllLock t) s (fun s' => s' = m) ∧ Gives (.kindlingEntered t test) s (fun s' => s' = m)) ∧
  (∀ (t u : Nat) (s m : State), m = s.begin t → s.sys.boot = .pg → s.sys.rstLow = true → s.sys.mode ≠ .cold →
    Gives (.rstNRelease t) s (fun s' => s'.sys = { m.sys with rstLow := false } ∧ Gives (.rootPllLock u) s' (fun s'' => s''.sys.boot = .pll)))

/-! ## Frames, composition and the Grate -/

/-- R36, R44: a frame start opens stripe 0 of its frame, and each later stripe opens in its turn; a stripe that opens has been neither
composed, latched nor sent.
R413, R414: a channel counts its frames from 1; a stopped channel holds nothing, is armed again when it is still enabled, else off. -/
def Obligations.FramesOpenAndChannelsStop : Prop :=
  ((∀ (t : Nat) (c : Fin 16) (s m : State) (at_ : Nat) (label err : Int) (first : Bool), m = s.begin t → s.running = true →
    m.frameDue c = some (at_, label, err, first) → s.sys.holdN = false → Gives (.frameStart t c) s (fun s' =>
      ∃ x ∈ s'.pipe.stripes, x.c = c ∧ x.k = 0 ∧ x.composed = false ∧ x.tf = false ∧ x.dead = false ∧ x.sent = false)) ∧
  (∀ (t : Nat) (c : Fin 16) (s m : State), m = s.begin t → s.running = true → s.chRunning c = true →
    0 < (s.chanOf c).next → (s.chanOf c).next < nStripes s.comm c →
    m.due (m.stripeAt c (m.chanOf c).next) = true →
    Gives (.stripeStart t c) s (fun s' => (s'.chanOf c).next = (m.chanOf c).next + 1 ∧
      ∃ x ∈ s'.pipe.stripes, x.c = c ∧ x.k = (m.chanOf c).next ∧ x.composed = false ∧ x.tf = false ∧ x.dead = false ∧ x.sent = false))) ∧
  ((∀ (t : Nat) (c : Fin 16) (s m : State) (at_ : Nat) (label err : Int), m = s.begin t → s.running = true → s.sys.holdN = false →
    m.frameDue c = some (at_, label, err, true) → Gives (.frameStart t c) s (fun s' => s'.frameNo c = 1 ∧ s'.chRunning c = true)) ∧
  (∀ (t : Nat) (c : Fin 16) (s m : State) (y : Stripe), m = s.begin t → s.sys.boot ≠ .off → s.chRunning c = true →
    (s.chanOf c).stopping = true → m.stripe c (m.frameNo c) (nStripes m.comm c - 1) = some y → m.due (m.lastByteOf y) = true →
    (∃ d : Fin 16, d ≠ c ∧ s.chRunning d = true) → Gives (.channelStopComplete t c) s (fun s' =>
      s'.chanOf c = {} ∧ s'.compOf c = {} ∧ (∀ x ∈ s'.pipe.stripes, x.c ≠ c) ∧ (∀ b ∈ s'.pipe.jobs, b.c ≠ c) ∧
      s'.lv (0x4000 + c) 0x15 = (if (chanOn s'.comm).contains c.val then 1 else 0) ∧ s'.sys.stopping = m.sys.stopping ∧
      s'.pipe.obsChan ≠ some c.val)) ∧
  (∀ (t : Nat) (s m : State), m = s.begin t → s.sys.boot ≠ .off → s.pipe.obsChan.isSome = true →
    s.pipe.obsChan = s.runningChans.head? → s.pipe.obsLen ≤ s.pipe.obsFrames →
    s.pipe.obsFrames ≠ 0 → Gives (.obsWindowEnd t) s (fun s' =>
      s'.pipe.obsFrames = 0 ∧ s'.pipe.obsAt = m.now ∧ s'.pipe.obsChan = m.pipe.obsChan ∧ s'.pipe.chSlack = [] ∧
      s' = { m with live := s'.live, pipe := s'.pipe })))

/-- Composition (R123, R130, R145, R147): a stripe composed is marked so; a region whose RUN has reached K has its action due at the
next frame start; a layer too long not ready takes its action; a pipe's checker abandons what the pipe is composing. Each event counts
at the channel's or pipe's source in group 8. -/
def Obligations.CompositionEvents : Prop :=
  (∀ (t : Nat) (c : Fin 16) (f k : Nat) (late : List (Fin 8)) (s m : State) (x : Stripe), m = s.begin t → s.sys.boot ≠ .off →
    s.stripe c f k = some x → x.composed = false → x.abandoned = false → x.inserted = false → x.whole = none → s.codes c = true →
    Gives (.compositionComplete t c f k late) s (fun s' => s'.stripe c f k = some { x with composed := true } ∧
      s'.pipe.jobs = m.pipe.jobs ∧ s'.comm = m.comm ∧ s'.clk = m.clk)) ∧
  (∀ (t : Nat) (c : Fin 16) (r : Fin 64) (s m : State), m = s.begin t → s.sys.boot ≠ .off → s.chRunning c = true →
    (regionDef s.comm c r).on = true → (regionDef s.comm c r).k ≤ ((s.compOf c).regions.get {} r).run →
    0 < ((s.compOf c).regions.get {} r).run → ((s.compOf c).regions.get {} r).fired = false →
    Gives (.signatureActionTrigger t c r) s (fun s' =>
      (s'.compOf c).regions.get {} r = { (m.compOf c).regions.get {} r with fired := true, due := true } ∧
      countOf s' (src 8 (16 + c)) = satAdd 16 (countOf m (src 8 (16 + c))) 1 ∧
      s' = { m with comp := s'.comp, live := s'.live, flt := s'.flt, sys := s'.sys, pair := s'.pair, mem := s'.mem, out := s'.out })) ∧
  (∀ (t : Nat) (c l : Fin 16) (s m : State), m = s.begin t → s.sys.boot ≠ .off → s.chRunning c = true → layerCfg s.comm c l 1 = 1 →
    s.lv (layerIdx c l) 0x13 < (s.layer c l).notReady → (s.layer c l).raised = false → Gives (.layerNrAction t c l) s (fun s' =>
      s'.layer c l = { m.layer c l with acting := true, raised := true } ∧ s'.lv (layerIdx c l) 0x16 = s'.layerState c l ∧
      countOf s' (src 8 (16 + c)) = satAdd 16 (countOf m (src 8 (16 + c))) 1 ∧
      s' = { m with comp := s'.comp, live := s'.live, flt := s'.flt, sys := s'.sys, pair := s'.pair, mem := s'.mem, out := s'.out })) ∧
  (∀ (t : Nat) (p : Fin 8) (s m : State), m = s.begin t → s.running = true → Gives (.pipeCheckerFault t p) s (fun s' =>
    (∀ x ∈ s'.pipe.stripes, s.chRunning x.c = true → (pipesOfMask (s.lv (0x3000 + x.c) 0xA)).contains p.val = true → x.c < 16 →
      x.composed = true ∨ x.abandoned = true ∨ x.inserted = true ∨ x.whole ≠ none ∨ x.dead = true) ∧
    countOf s' (src 8 (8 + p)) = satAdd 16 (countOf m (src 8 (8 + p))) 1))

/-- The Grate's jobs (R104): a stripe-ready makes a job of every coding tree unit of the flow stripes that the hearth codes; a job that
ends leaves its bits and reconstruction and is gone. -/
def Obligations.JobsBuiltAndFinished : Prop :=
  (∀ (t : Nat) (h : Fin 8) (c : Fin 16) (f k : Nat) (s m : State) (x : Stripe), m = s.begin t → s.sys.boot ≠ .off →
    s.stripe c f k = some x → x.composed = true → x.inserted = false → x.whole = none → x.ready.contains h.val = false → x.dead = false →
    (s.hearthsOf c).contains h.val = true → s.hearthRuns h = true → Gives (.stripeReady t h c f k) s (fun s' =>
      s'.stripe c f k = some { x with ready := x.ready ++ [h.val] } ∧
      (∀ p ∈ s.partsOf c k, (s.codersOf p.1).contains h.val = true → s.mayCode h p.1 f = true → (s.flowSt p.1).sends f = true →
        (s.flowSt p.1).fills f = false → ∀ col, col < gCw s.comm p.1 →
          ∃ b ∈ s'.pipe.jobs, b.h = h ∧ b.c = c ∧ b.flow = p.1 ∧ b.f = f ∧ b.k = k ∧ b.j = p.2 ∧ b.col = col) ∧
      s' = { m with pipe := s'.pipe })) ∧
  (∀ (t : Nat) (w : Fin 288) (s m : State) (b : Job), m = s.begin t → s.sys.boot ≠ .off → s.current w = some b → b.ends ≤ m.now →
    Gives (.jobComplete t w) s (fun s' =>
      s'.pipe.done = m.pipe.done ++ [{
        h := b.h, flow := b.flow, f := b.f, j := b.j, col := b.col, bits := (m.codeJob b).2, mode := (m.codeJob b).1,
        recon := { raw := Config.recon ((m.codeJob b).1 :: m.jobInputs b),
                   own := Config.filtered (0 :: Config.recon ((m.codeJob b).1 :: m.jobInputs b) :: m.raws b.h b.flow b.f (m.neighboursOf b)) },
        wid := w, lost := b.lost, poisoned := b.poisoned, refPoisoned := b.refPoisoned || m.readsPoison b [b.col] }] ∧
      (∀ y ∈ s'.pipe.jobs, y.is b = false) ∧ s' = { m with live := s'.live, pipe := s'.pipe }))

/-- R79: at Tf a stripe is latched with the draught in force and its offset, which is the channel's own where it is held in one module,
else that of the broadcast, else none, which is counted late where the channel is not held. R102, R105, R440: a seam-filtered or copied
flow stripe is a final reference.
R87, R103: a slice that lies complete in the output buffer is dated; at its readiness deadline a stripe is decided and takes no later
change; R107: a tick of credit gives each canvas with ready jobs its share of 2,400 samples by weight, and holds every other at 0 or
below. -/
def Obligations.LatchDeadlinesAndCredit : Prop :=
  ((∀ (t : Nat) (c : Fin 16) (f k : Nat) (s m : State) (x : Stripe), m = s.begin t → s.sys.boot ≠ .off → s.sys.mode ≠ .damped →
    s.stripe c f k = some x → x.tf = false → x.inserted = false → m.due (m.tfOf x) = true →
    Gives (.councilDependenceTf t c f k) s (fun s' =>
      (∃ y, s'.stripe c f k = some y ∧ y.tf = true ∧ y.draught = m.lv (0x4200 + c) 2 ∧
        (s.solo c = true → y.offset = m.soloOffset c f k) ∧
        (s.solo c = false → y.offset = (match x.bcast with | some b => b.1 | none => none))) ∧
      (s.solo c = false → x.bcast = none → (s.chanOf c).held = false →
        s'.lv (0x4100 + c) 0xC = (m.inc (0x4100 + c) 0xC).lv (0x4100 + c) 0xC) ∧
      s'.pipe.done = m.pipe.done ∧ s'.pipe.refs = m.pipe.refs ∧
      s' = { m with live := s'.live, pipe := s'.pipe, council := s'.council })) ∧
  (∀ (t : Nat) (h : Fin 8) (n : Fin 4096) (f j : Nat) (s m : State), m = s.begin t → s.sys.boot ≠ .off →
    (∀ col, col < gCw s.comm n → (s.doneOf h n f j col).isSome = true) → s.refFinal h n f j = false → Gives (.seamFilterDone t h n f j) s (fun s' =>
      s'.refFinal h n f j = true ∧ s'.pipe.done = m.pipe.done ∧ s'.pipe.stripes = m.pipe.stripes ∧
      s' = { m with live := s'.live, pipe := s'.pipe })) ∧
  (∀ (t : Nat) (h : Fin 8) (c : Fin 16) (f k : Nat) (s m : State) (x : Stripe), m = s.begin t → s.sys.boot ≠ .off →
    s.stripe c f k = some x → x.dead = true → x.ready.contains h.val = false → x.whole = none → x.inserted = false →
    Gives (.missingStripeCopyDone t h c f k) s (fun s' =>
      s'.stripe c f k = some { x with ready := x.ready ++ [h.val] } ∧ s' = { m with live := s'.live, pipe := s'.pipe }))) ∧
  ((∀ (t : Nat) (h : Fin 8) (n : Fin 4096) (f j seg : Nat) (s m : State), m = s.begin t → s.sys.boot ≠ .off →
    (∃ x ∈ s.pipe.slices, x.h = h ∧ x.flow = n ∧ x.f = f ∧ x.j = j ∧ x.seg = seg ∧ x.inBuf = none) →
    Gives (.sliceInOutputBuffer t h n f j seg) s (fun s' =>
      (∀ y ∈ s'.pipe.slices, y.h = h → y.flow = n → y.f = f → y.j = j → y.seg = seg → y.inBuf = some m.mono) ∧
      s'.pipe.slices.length = m.pipe.slices.length ∧ s'.pipe.done = m.pipe.done ∧ s'.clk = m.clk ∧ s'.comm = m.comm)) ∧
  (∀ (t : Nat) (c : Fin 16) (f : Nat) (k : DueStripe) (s m : State) (x : Stripe), m = s.begin t → s.sys.boot ≠ .off →
    s.stripe c f k.stripe = some x → x.dead = false → m.due (m.deadlineOf x) = true → Gives (.readinessDeadline t c f k) s (fun s' =>
      ∃ y, s'.stripe c f k.stripe = some y ∧ y.dead = true ∧ y.at_ = x.at_ ∧ y.rtp = x.rtp ∧ y.sent = x.sent)) ∧
  (∀ (t : Nat) (h : Fin 8) (s m : State) (c : Nat), m = s.begin t → s.sys.boot ≠ .off → s.hearthRuns h = true →
    c ∈ s.canvasesOn h → sumList ((s.canvasesOn h).map (s.weight h)) ≠ 0 → (∀ w ∈ hearthWithies h, s.takesJobs w = false) →
    Gives (.grateCreditTick t h) s (fun s' =>
      (s.readyList h c ≠ [] → (s'.hearthSt h).credit.get 0 c = clampInt ((m.hearthSt h).credit.get 0 c +
        (2400 * m.weight h c / sumList ((m.canvasesOn h).map (m.weight h)) : Nat)) (-524288) 524288) ∧
      (s.readyList h c = [] → (s'.hearthSt h).credit.get 0 c = min ((m.hearthSt h).credit.get 0 c) 0) ∧
      s' = { m with pipe := s'.pipe })))

/-! ## Withies, councils, hearth pairs and twins -/

/-- R111: a withy that a checker or an overrun finds faulty is fenced: it takes no further job, and the fault counts at its hearth's
source in group 11.
R112, R113: a spare that passes its self-test waits for the boundary of a hearth that serves a canvas, one that fails is retired; a
marked withy without jobs is fenced, a marked spare retired. -/
def Obligations.WithiesFencedAndRetired : Prop :=
  ((∀ (t : Nat) (w : Fin 288) (addr : Option Nat) (s m : State), m = s.begin t → s.isUp = true → s.wState w < 3 →
    Gives (.withyCheckerFault t w addr) s (fun s' => 3 ≤ s'.wState w ∧ s'.takesJobs w = false ∧
      countOf s' (src 11 (withyHearth w)) = satAdd 16 (countOf m (src 11 (withyHearth w))) 1 ∧
      s' = { m with out := s'.out, live := s'.live, sys := s'.sys, flt := s'.flt, wear := s'.wear, pipe := s'.pipe, pair := s'.pair,
                    mem := s'.mem, flue := s'.flue })) ∧
  (∀ (t : Nat) (w : Fin 288) (b : Job) (s m : State), m = s.begin t → s.sys.boot ≠ .off → s.wState w < 3 → s.current w = some b →
    b.ends + tuUs 1 ≤ m.now → Gives (.jobOverrun t w) s (fun s' => 3 ≤ s'.wState w ∧ s'.takesJobs w = false ∧
      countOf s' (src 11 (withyHearth w)) = satAdd 16 (countOf m (src 11 (withyHearth w))) 1 ∧
      s' = { m with out := s'.out, live := s'.live, sys := s'.sys, flt := s'.flt, wear := s'.wear, pipe := s'.pipe, pair := s'.pair,
                    mem := s'.mem, flue := s'.flue }))) ∧
  ((∀ (t at_ : Nat) (w : Fin 288) (s m : State), m = s.begin t → s.sys.boot ≠ .off → s.wState w = 2 →
    (s.withySt w).testEnd = some at_ → at_ ≤ m.now → s.hearthServes (withyHearth w) = true → s.current w = none →
    Gives (.spareSelfTestDone t w true) s (fun s' => s'.withySt w = { m.withySt w with passed := true, testEnd := none })) ∧
  (∀ (t at_ : Nat) (w : Fin 288) (s m : State), m = s.begin t → s.sys.boot ≠ .off → s.wState w = 2 →
    (s.withySt w).testEnd = some at_ → at_ ≤ m.now →
    Gives (.spareSelfTestDone t w false) s (fun s' => s'.wState w = 4 ∧ (s'.withySt w).testEnd = none)) ∧
  (∀ (t : Nat) (w : Fin 288) (s m : State), m = s.begin t → s.sys.boot ≠ .off → (s.withySt w).marked = true → s.wState w < 2 →
    s.current w = none → s.prefetch w = none → Gives (.retirementDrainDone t w) s (fun s' =>
      (s.wState w = 0 → 3 ≤ s'.wState w) ∧ (s.wState w = 1 → s'.wState w = 4) ∧ s'.takesJobs w = false ∧ s'.clk = m.clk ∧
      s'.comm = m.comm ∧ s'.gran = m.gran)))

/-- R77, R78: a council round: a member's own sum enters once, and the round goes on no later than its wait limit; a summary from an
active member enters once, read as Table 3-1 lays it out.
R79 to R82: a broadcast brings the root's definition, and its result for a stripe not yet latched; a lost root is replaced, by election
from the last active set or before any from MEMBERS, and a child that stays absent is left out, at the next frame start. -/
def Obligations.CouncilRoundsAndBroadcasts : Prop :=
  ((∀ (t : Nat) (c : Fin 16) (f k : Nat) (s m : State) (x : Stripe), m = s.begin t → s.sys.boot ≠ .off → s.stripe c f k = some x →
    m.rounds c f k = true → (x.composed = true ∨ x.abandoned = true) → m.due (m.stripeAfter x 1 + usCtr 2) = true →
    (s.round c f k).own = false → Gives (.councilSummarySend t c f k) s (fun s' =>
      (s'.round c f k).own = true ∧ (s'.round c f k).members = (m.round c f k).members + 1 ∧
      ((∀ ch ∈ x.kids, ch ∈ (m.round c f k).from_) → (s'.round c f k).sent = true) ∧
      s' = { m with out := s'.out, live := s'.live, flt := s'.flt, pipe := s'.pipe, council := s'.council, flue := s'.flue })) ∧
  (∀ (t : Nat) (c : Fin 16) (f k : Nat) (s m : State) (x : Stripe), m = s.begin t → s.sys.boot ≠ .off → s.stripe c f k = some x →
    m.rounds c f k = true → m.due (m.tfOf x - nsCtr (450 * x.treeH + 1000 + 600 * x.treeD)) = true →
    (s.round c f k).own = true → Gives (.councilWaitLimit t c f k) s (fun s' => (s'.round c f k).sent = true ∧
      s' = { m with out := s'.out, live := s'.live, flt := s'.flt, pipe := s'.pipe, council := s'.council, flue := s'.flue })) ∧
  (∀ (t c f : Nat) (port : Fin 3) (fr : FlueFrame) (s m : State), m = s.begin t → s.sys.boot ≠ .off → s.isMine fr = true →
    s.chanOfTag (sumField fr 1 0) = some c → fr.pay[33]? = none → fr.pay.getD 32 0 = defHash s.comm c →
    (s.activeOf c).contains fr.src = true → s.frameOfTag c (sumField fr 7 4) = some f →
    m.rounds c f (sumField fr 7 4 % 4096) = true → (s.round c f (sumField fr 7 4 % 4096)).sent = false →
    (s.round c f (sumField fr 7 4 % 4096)).from_.contains fr.src = false →
    Gives (.councilSummaryRx t port fr) s (fun s' =>
      (∃ sent, s'.round c f (sumField fr 7 4 % 4096) =
        { (m.round c f (sumField fr 7 4 % 4096)).add (signed 64 (sumField fr 31 24)) (sumField fr 23 16) (signed 16 (sumField fr 15 14))
            (signed 16 (sumField fr 13 12)) (sumField fr 11 10) (sumField fr 9 8) with
          from_ := fr.src :: (m.round c f (sumField fr 7 4 % 4096)).from_, sent := sent }) ∧
      s' = { m with out := s'.out, live := s'.live, flt := s'.flt, pipe := s'.pipe, council := s'.council, flue := s'.flue }))) ∧
  ((∀ (t c f : Nat) (port : Fin 3) (fr : FlueFrame) (x : Stripe) (s m : State), m = s.begin t → s.sys.boot ≠ .off → s.isMine fr = true →
    s.chanOfTag (fr.pay.getD 1 0 % 65536) = some c → fr.pay.getD 6 0 = defHash s.comm c →
    (∀ d ∈ chanOn s.comm, d ≠ c → chan s.comm d 2 ≠ chan s.comm c 2) → s.frameOfTag c (fr.pay.getD 0 0) = some f →
    s.stripe c f (fr.pay.getD 0 0 % 4096) = some x → x.tf = false → (s.chanOf c).held = false →
    Gives (.councilBroadcastRx t port fr) s (fun s' =>
      (s'.councilSt c).rootHash = some (fr.pay.getD 6 0) ∧ (s'.councilSt c).active = some (fr.pay.drop 7) ∧
      s'.stripe c f (fr.pay.getD 0 0 % 4096) = some { x with
        bcast := some (if fr.pay.getD 2 0 = 1 then some (signed 16 (fr.pay.getD 3 0)) else none, fr.pay.getD 4 0) } ∧
      s' = { m with out := s'.out, live := s'.live, flt := s'.flt, pipe := s'.pipe, council := s'.council, flue := s'.flue })) ∧
  (∀ (t : Nat) (c : Fin 16) (child : Nat) (s m : State), m = s.begin t → s.sys.boot ≠ .off → s.solo c = false →
    s.cm (0x4100 + c) 6 ≤ (s.councilSt c).missed.get 0 child → (s.activeOf c).contains child = true →
    Gives (.councilChildAbsent t c child) s (fun s' => (s'.councilSt c).missed.get 0 child = 0 ∧
      (s.isRoot c = true → child ∈ (s'.councilSt c).dropNext ∧ s' = { m with council := s'.council }) ∧
      (s.isRoot c = false → s' = { m with out := s'.out, live := s'.live, flt := s'.flt, council := s'.council, flue := s'.flue }))) ∧
  (∀ (t : Nat) (c : Fin 16) (s m : State), m = s.begin t → s.sys.boot ≠ .off → s.solo c = false → s.isRoot c = false →
    (s.chanOf c).held = false → s.cm (0x4100 + c) 6 ≤ (s.councilSt c).late → Gives (.councilRootLost t c) s (fun s' =>
      s'.councilSt c = (match (m.councilSt c).active with
        | some a => { m.councilSt c with
            rootNext := some (m.elect (a.filter (· ≠ m.rootNow c))), activeNext := some (a.filter (· ≠ m.rootNow c)), late := 0 }
        | none => { m.councilSt c with rootNext := some (m.elect (membersOf m.comm c)), late := 0 }) ∧
      s' = { m with council := s'.council })))

/-- Table 10-6, R258: in a module that is not excess, a council or twin frame for another module, whose identity is no duplicate, goes
on by the path table one hop further; what it carries changes nothing here.
R243, R252, R258, R259: a frame with a wrong CRC is counted and discarded; one for another module goes on by the path table with one hop
more, and one of class 4 gives its credit back; link control adds to a port's credit; a broadcast from the path table's port goes on
every other port that is up, and a Granil one other than firmware is counted. -/
def Obligations.FlueFramesForwardedOrNotTaken : Prop :=
  (∀ (t : Nat) (port : Fin 3) (fr : FlueFrame) (s m : State), m = s.begin t → s.sys.boot ≠ .off → fr.dest ≠ s.myId → fr.hops < 1023 →
    s.flue.excess = false → s.flue.dups.contains fr.dest = false →
    (s.path fr.dest).hops ≠ 0 → (s.path fr.dest).hops ≠ 0xFFFF → (s.path fr.dest).port < 3 → (s.path fr.dest).dup = false →
    ∀ c ∈ [Instr.councilSummaryRx t port fr, .councilBroadcastRx t port fr, .twinHashRx t port fr, .sendTokenRx t port fr,
        .giveUpFrameRx t port fr, .fenceFrameRx t port fr],
      Gives c s (fun s' => Emit.flue (s.path fr.dest).port { fr with hops := fr.hops + 1 } ∈ s'.out ∧
        s' = { m with out := s'.out, live := s'.live, flt := s'.flt, flue := s'.flue })) ∧
  ((∀ (t : Nat) (p : Fin 3) (f : FlueFrame) (s m : State), m = s.begin t → s.sys.boot ≠ .off → s.linkUp p = true →
    (f.cls ≠ 4 → Gives (.flueFrameRx t p f false) s (fun s' =>
      s'.live = (m.inc (0x8110 + p) 0x12).live ∧ s'.link p = { m.link p with badRun := 0 } ∧ s' = { m with live := s'.live, flue := s'.flue })) ∧
    (f.cls = 4 → Gives (.flueFrameRx t p f false) s (fun s' =>
      s'.lv (0x8110 + p) 0x12 = (m.inc (0x8110 + p) 0x12).lv (0x8110 + p) 0x12 ∧
      Emit.flue p { dest := 0xFFFE, src := s.myId, cls := 0, typ := 1, pay := [1] } ∈ s'.out ∧ (∀ q : Fin 3, q ≠ p → s'.link q = m.link q) ∧
      s' = { m with out := s'.out, live := s'.live, flt := s'.flt, flue := s'.flue }))) ∧
  (∀ (t : Nat) (p : Fin 3) (f : FlueFrame) (s m : State), m = s.begin t → s.sys.boot ≠ .off → s.linkUp p = true →
    (f.dest = s.myId ∨ f.dest = 0xFFFF ∨ f.dest = 0xFFFE → f.typ ≠ 1 → Gives (.flueFrameRx t p f true) s (fun s' =>
      s' = m.updLink p (fun x => { x with badRun := 0 }))) ∧
    (f.dest = 0xFFFE → f.typ = 1 → Gives (.flueFrameRx t p f true) s (fun s' =>
      s'.link p = { m.link p with badRun := 0, credit := min 64 ((m.link p).credit + f.pay.headD 0) } ∧
      (∀ q : Fin 3, q ≠ p → s'.link q = m.link q) ∧ s' = { m with flue := s'.flue })) ∧
    (f.dest ≠ s.myId → f.dest ≠ 0xFFFF → f.dest ≠ 0xFFFE → f.typ ≠ 0x30 → s.flue.dups.contains f.dest = false → s.flue.excess = false →
      f.hops < 1023 → (s.path f.dest).hops ≠ 0xFFFF → (s.path f.dest).hops ≠ 0 → (s.path f.dest).dup = false → (s.path f.dest).port < 3 →
      Gives (.flueFrameRx t p f true) s (fun s' => Emit.flue (s.path f.dest).port { f with hops := f.hops + 1 } ∈ s'.out ∧
        (f.cls = 4 → Emit.flue p { dest := 0xFFFE, src := s.myId, cls := 0, typ := 1, pay := [1] } ∈ s'.out) ∧
        (∀ q : Fin 3, q ≠ p → q.val ≠ (s.path f.dest).port → s'.link q = m.link q) ∧
        s' = { m with out := s'.out, live := s'.live, flt := s'.flt, flue := s'.flue }))) ∧
  (∀ (t : Nat) (p : Fin 3) (f : FlueFrame) (s m : State), m = s.begin t → s.sys.boot ≠ .off → s.linkUp p = true → f.dest = 0xFFFF →
    (s.path f.src).port = p → s.flue.excess = false → f.hops < 1023 → Gives (.broadcastFrameRx t p f) s (fun s' =>
      (∀ q : Fin 3, q ≠ p → s.linkUp q = true → Emit.flue q { f with hops := f.hops + 1 } ∈ s'.out) ∧
      (f.typ = 0x40 → f.pay.headD 0 ≠ 0x30 → f.pay.headD 0 ≠ 0x31 → f.pay.headD 0 ≠ 0x32 →
        s'.lv 0x8100 0x11 = (m.inc 0x8100 0x11).lv 0x8100 0x11) ∧
      s' = { m with out := s'.out, live := s'.live, flt := s'.flt, flue := { m.flue with links := s'.flue.links } })))

/-- Hearth pairs (R269, R270, R275): a hearth-level fault fences the hearth, ends its jobs and switches a protected pair over; an
arbitration's outcome waits for the boundary, and that of the twins leaves them in state 0x01, resynchronising, or handing over;
resynchronisation ends in state 0x01 once every record copied is right. A switch-over beside a twin handoff is void (R285). Hearth
self-tests (R274, R276): a hearth that passes serves again, one that fails keeps its failed withies out and is a condition of group 16;
the standby's periodic test, a quarter of its memory at a time, is counted, and one that finds bad memory leaves the pair unprotected. -/
def Obligations.HearthPairsAndSelfTests : Prop :=
  ((∀ (t : Nat) (h : Fin 8) (part : Fin 16) (s m : State), m = s.begin t → s.isUp = true → Gives (.hearthLevelFault t h part) s (fun s' =>
    (s'.hearthSt h).fenced = true ∧ s'.hearthRuns h = false ∧ (∀ b ∈ s'.pipe.jobs, b.h ≠ h) ∧
    countOf s' (src (9 + h / 4) (h % 4)) = satAdd 16 (countOf m (src (9 + h / 4) (h % 4))) 1 ∧
    (s.paired = true → s.activeOfPair (h % 4) = h → s.pairState (h % 4) = 1 → m.handsAway (h % 4) = false →
      m.recoveryOf (domPair (h % 4)) = none →
      s'.activeOfPair (h % 4) = otherSide h) ∧
    s' = { m with out := s'.out, live := s'.live, sys := s'.sys, flt := s'.flt, pipe := s'.pipe, pair := s'.pair, mem := s'.mem,
                  flue := s'.flue })) ∧
  (∀ (t : Nat) (p : Fin 4) (ws : List (Fin 288)) (tw : Bool) (s m : State), m = s.begin t → s.sys.boot ≠ .off → s.pairState p = 4 →
    (s.pairSt p).arbOutcome = none → s.hearthServes (s.activeOfPair p) = true →
    Gives (.arbitrationResult t ⟨p, by omega⟩ ws tw) s (fun s' =>
      (∃ o, (s'.pairSt p).arbOutcome = some (o, ws.map Fin.val) ∧ o < 4 ∧
        (o % 2 = 1 ↔ ∃ w ∈ ws, withyHearth w = s.activeOfPair p) ∧ (2 ≤ o ↔ ∃ w ∈ ws, withyHearth w = s.standbyOfPair p)) ∧
      s' = { m with pair := s'.pair })) ∧
  (∀ (t : Nat) (ws : List (Fin 288)) (tw : Bool) (s m : State), m = s.begin t → s.sys.boot ≠ .off → s.lv 0x8210 8 = 4 →
    Gives (.arbitrationResult t 4 ws tw) s (fun s' => (∀ w ∈ ws, 3 ≤ s'.wState w) ∧ s'.pair.twinWids = [] ∧
      s'.lv 0x8210 8 = (if ws = [] ∧ tw = false then 1
        else if (if s.lv 0x8210 7 = 0 then ws ≠ [] ∧ tw = false else ws = [] ∧ tw = true) then 4 else 2))) ∧
  (∀ (t : Nat) (p : Fin 4) (s m : State), m = s.begin t → s.sys.boot ≠ .off → s.pairState p = 2 →
    ((s.pairMode p ≠ 2 ∧ s.mirrorOk p = true) ∨
      (s.pairMode p = 2 ∧ (s.pairSt p).resync = false ∧ ∀ n ∈ s.flowsOnPair p, (s.flowSt n).compareOff = false)) →
    Gives (.pairResyncDone t p) s (fun s' => s'.pairState p = 1 ∧
      s'.pairSt p = { m.pairSt p with resync := false, resume := [], failed := none } ∧
      s' = { m with live := s'.live, flt := s'.flt, pair := s'.pair }))) ∧
  ((∀ (t : Nat) (h : Fin 8) (failed : List (Fin 288)) (s m : State), m = s.begin t → s.sys.boot ≠ .off → (s.hearthSt h).testing = true →
    Gives (.hearthSelfTestDone t h true failed) s (fun s' => s'.hearthSt h = { m.hearthSt h with testing := false, fenced := false } ∧
      presentIn s' (src 16 (12 + h % 4)) (domPair (h % 4)) = false ∧ s'.pipe.jobs = m.pipe.jobs)) ∧
  (∀ (t : Nat) (h : Fin 8) (failed : List (Fin 288)) (s m : State), m = s.begin t → s.sys.boot ≠ .off → (s.hearthSt h).testing = true →
    presentIn s (src 16 (12 + h % 4)) (domPair (h % 4)) = false → Gives (.hearthSelfTestDone t h false failed) s (fun s' =>
      (s'.hearthSt h).testing = false ∧ (s'.hearthSt h).fenced = (m.hearthSt h).fenced ∧ (∀ w ∈ failed, 3 ≤ s'.wState w) ∧
      countOf s' (src 16 (12 + h % 4)) = satAdd 16 (countOf m (src 16 (12 + h % 4))) 1)) ∧
  (∀ (t : Nat) (p : Fin 4) (s m : State), m = s.begin t → s.running = true → s.cm 0x8200 1 = 1 → s.pwr.sag = 0 →
    (s.pairState p = 1 ∨ s.pairState p = 2) → (∀ at_, (s.pairSt p).bistAt = some at_ → at_ + tuSec (s.lv 0x8200 4) ≤ m.now) →
    Gives (.bistPeriodTimer t p [] true) s (fun s' =>
      s' = (m.updPair p (fun x => { x with bistAt := some m.now, quarter := (x.quarter + 1) % 4 })).inc (0x8201 + p) 8) ∧
    Gives (.bistPeriodTimer t p [] false) s (fun s' => s'.pairState p = 5 ∧
      countOf s' (src 16 (16 + p)) = satAdd 16 (countOf m (src 16 (16 + p))) 1 ∧
      s' = { m with out := s'.out, live := s'.live, sys := s'.sys, flt := s'.flt, pair := s'.pair, mem := s'.mem, flue := s'.flue })))

/-- Twins (R279 to R284): the twin's hash is kept and a mismatch shows as state 7; tokens are held, a missed one is counted; a give-up
frame or a last gasp agrees the handoff of each of its channels that has none agreed; a fence frame mutes every twinned channel at once. -/
def Obligations.TwinFrames : Prop :=
  (∀ (t : Nat) (port : Fin 3) (fr : FlueFrame) (s m : State), m = s.begin t → s.sys.boot ≠ .off → s.isMine fr = true → s.twinOn = true →
    fr.src = s.cm 0x8210 2 →
    Gives (.twinHashRx t port fr) s (fun s' => s'.pair.twinHash = some (fr.pay.getD 1 0) ∧
      (fr.pay.getD 1 0 ≠ s.lv 0x8210 0xA → s'.lv 0x8210 8 = 7 ∧ presentIn s' (src 4 15) domTwin = true) ∧
      (fr.pay.getD 1 0 = s.lv 0x8210 0xA → s'.lv 0x8210 8 ≠ 7 ∧ presentIn s' (src 4 15) domTwin = false)) ∧
    (s.lv 0x8210 7 = 1 → s.lv 0x8210 8 ≠ 6 → ∀ c : Nat, (List.range 16).find? (fun c => s.twinned c && decide (chan s.comm c 2 = fr.pay.getD 2 0)) = some c →
      Gives (.sendTokenRx t port fr) s (fun s' => s'.pair.missed.get 0 c = 0 ∧
        ∀ r ∈ tokenRecs (fr.pay.getD 1 0) fr.pay.length (fr.pay.drop 3), r ∈ s'.pair.tokens)) ∧
    (s.lv 0x8210 8 = 1 → ∀ c : Fin 16, (fr.pay.getD 1 0).testBit c = true → s.twinned c = true →
      (fr.pay.getD 0 0 = 1 ∨ fr.pay.getD 0 0 = 2) → s.pair.hand.get none c = none → Gives (.giveUpFrameRx t port fr) s (fun s' =>
        s'.pair.hand.get none c = some ⟨m.now - tuNs (ctrNs m.ctrNow - fr.pay.getD 3 0), if fr.pay.getD 0 0 = 1 then 6 else fr.pay.getD 2 0⟩ ∧
        s' = { m with pair := s'.pair })) ∧
    (s.lv 0x8210 7 = 0 → Gives (.fenceFrameRx t port fr) s (fun s' => (∀ c : Fin 16, s.twinned c = true → c.val ∈ s'.pair.muted) ∧
      s'.lv 0x8210 7 = 1 ∧ s'.lv 0x8210 8 = 5 ∧ ObjectsBut [key 0x8210 7, key 0x8210 8] m s' ∧
      s' = { m with live := s'.live, pair := s'.pair }))) ∧
  (∀ (t : Nat) (port : Fin 3) (fr : FlueFrame) (s m : State), m = s.begin t → s.sys.boot ≠ .off → (s.path fr.src).port = port.val →
    s.twinOn = true → fr.src = s.cm 0x8210 2 → s.lv 0x8210 7 = 1 → s.lv 0x8210 8 = 1 →
    (∀ c : Fin 16, s.pair.hand.get none c = none) → Gives (.lastGaspRx t port fr) s (fun s' =>
      (∀ c : Fin 16, s.twinned c = true → s'.pair.hand.get none c = some ⟨m.now, 7⟩) ∧
      s' = { m with out := s'.out, live := s'.live, flt := s'.flt, pair := s'.pair, flue := s'.flue })) ∧
  (∀ (t : Nat) (c : Fin 16) (f k : Nat) (x : Stripe) (s m : State), m = s.begin t → s.sys.boot ≠ .off → s.stripe c f k = some x →
    s.twinned c = true → s.lv 0x8210 7 = 1 → s.pair.muted.contains c.val = true → m.due (m.deadlineOf x + usCtr 14) = true →
    (∀ r ∈ s.pair.tokens, r.stripe = stripeTag f k → flow s.comm r.flow 2 ≠ c) → s.pair.missed.get 0 c + 1 < s.lv 0x8210 6 →
    Gives (.sendTokenMissed t c f k) s (fun s' => s'.pair.missed.get 0 c = m.pair.missed.get 0 c + 1 ∧
      s' = { m.inc 0x8210 0xD with pair := s'.pair }))

/-! ## Inputs and references -/

/-- R155, R157: the next packet of a stream is written into its frame when it lies in the configured format, else counted in PACKETS_BAD
and not written; the second copy of a packet is used for nothing but its leg's skew and sequence, and the instant of its frame's last
packet.
R155, R157: 64 packets out of format in a row, and a leg without packets for 10 frame periods, from the input's start on, show in
IN_STATE and count at the input's source in group 7. -/
def Obligations.IngestStreams : Prop :=
  (∀ (t : Nat) (i : Fin 16) (pkt : IngestPkt) (s m : State), m = s.begin t → s.running = true → s.inputOn i = true →
    pkt.payloadType = s.cm (inObj i) 9 → (pkt.leg = 1 → s.cm (inObj i) 3 ≠ 0xFF) →
    ((∀ e ∈ (s.input i).seen, e.1 = pkt.seq → e.2.1 + max (m.skewMax i) 1 < m.mono) → (s.input i).gaps = [] →
      (∀ h, (s.input i).high = some h → pkt.seq = (h + 1) % 2 ^ 32) → (∀ c ∈ (s.input i).closed, c.1 ≠ pkt.rtp) →
      (pkt.srds.all (srdOk (s.cm (inObj i) 0xC) (s.cm (inObj i) 0xD) (s.cm (inObj i) 0xA) (s.cm (inObj i) 0xB) (s.cm (inObj i) 0x10)) = true →
        pkt.srds.length ≤ 3 → Gives (.ingestPacketRx t i pkt) s (fun s' =>
          (∃ b ∈ (s'.input i).busy, b.key = pkt.rtp ∧ b.lastAt = m.mono) ∧ (s'.input i).badRun = 0 ∧ (s'.input i).high = some pkt.seq ∧
          (s'.input i).legAt = (m.input i).legAt.set pkt.leg (some m.mono) ∧
          s' = { m with live := s'.live, inp := s'.inp, flue := s'.flue })) ∧
      (pkt.srds.all (srdOk (s.cm (inObj i) 0xC) (s.cm (inObj i) 0xD) (s.cm (inObj i) 0xA) (s.cm (inObj i) 0xB) (s.cm (inObj i) 0x10)) = false ∨
          3 < pkt.srds.length → Gives (.ingestPacketRx t i pkt) s (fun s' =>
          (s'.input i).busy = (m.input i).busy ∧ (s'.input i).ring = (m.input i).ring ∧
          (s'.input i).badRun = (m.input i).badRun + 1 ∧ (s'.input i).high = some pkt.seq ∧
          s' = { m.inc (inObj i) 0x1A with inp := s'.inp }))) ∧
    (∀ e : Nat × Nat × Nat, s.cm (inObj i) 3 ≠ 0xFF → (s.input i).seen.find? (fun e => decide (e.1 = pkt.seq) && decide (m.mono ≤ e.2.1 + max (m.skewMax i) 1)) = some e →
      Gives (.ingestPacketRx t i pkt) s (fun s' =>
        (s'.input i).busy = (m.input i).busy.map (fun b => if b.key = pkt.rtp then { b with lastAt := m.mono } else b) ∧
        (s'.input i).ring = (m.input i).ring ∧ (s'.input i).seen = (m.input i).seen ∧ (s'.input i).high = (m.input i).high ∧
        (s'.input i).legAt = (m.input i).legAt.set pkt.leg (some m.mono) ∧ s' = { m with live := s'.live, inp := s'.inp }))) ∧
  ((∀ (t : Nat) (i : Fin 16) (s m : State), m = s.begin t → s.running = true → s.inputOn i = true → 64 ≤ (s.input i).badRun →
    (s.input i).formatErr = false → Gives (.ingestFormatError t i) s (fun s' => s'.lv (inObj i) 0x15 = 4 ∧
      s'.input i = { m.input i with formatErr := true } ∧ countOf s' (src 7 i) = satAdd 16 (countOf m (src 7 i)) 1 ∧
      s' = { m with out := s'.out, live := s'.live, sys := s'.sys, flt := s'.flt, inp := s'.inp, pair := s'.pair, mem := s'.mem, flue := s'.flue })) ∧
  (∀ (t : Nat) (i : Fin 16) (leg : Fin 2) (s m : State), m = s.begin t → s.running = true → s.inputOn i = true →
    (leg = 1 → s.cm (inObj i) 3 ≠ 0xFF) → (s.input i).legLost.getD leg false = false →
    m.due (((s.input i).legAt.getD leg none).getD (s.input i).since + 10 * period40 (s.cm (inObj i) 0xE)) = true → Gives (.ingestLegLost t i leg) s (fun s' =>
      (s'.input i).legLost = (m.input i).legLost.set leg true ∧ countOf s' (src 7 i) = satAdd 16 (countOf m (src 7 i)) 1 ∧
      s' = { m with out := s'.out, live := s'.live, sys := s'.sys, flt := s'.flt, inp := s'.inp, pair := s'.pair, mem := s'.mem, flue := s'.flue })))

/-- R152, R154: a frame whose every sample is written enters the ring whole, dated; one still incomplete after SKEW_MAX is discarded and
counted; a LOCKED frame is released at its instant. -/
def Obligations.CaptureFrames : Prop :=
  (∀ (t k : Nat) (i : Fin 26) (hd : Option HdmiFrame) (b : Capturing) (ps : List (List Nat)) (s m : State), m = s.begin t →
    s.running = true → s.inputOn i = true → (i.val < 16 ∨ 18 ≤ i.val) →
    (s.input i).busy.find? (fun b => decide (b.key = k) && !b.skipped) = some b → gatherPlanes b.samples b.w b.h b.samp = some ps →
    Gives (.captureFrameComplete t i k hd) s (fun s' =>
      (∃ f ∈ (s'.input i).ring, f.id = (m.input i).nextId ∧ f.tsrc = b.tsrc ∧ f.doneAt = m.mono ∧
        f.pic = { w := b.w, h := b.h, samp := b.samp, depth := b.depth, colour := b.colour, planes := ps }) ∧
      (s'.input i).busy = (m.input i).busy.filter (fun b => decide (b.key ≠ k)) ∧ s'.clk = m.clk ∧ s'.comm = m.comm)) ∧
  (∀ (t k : Nat) (p : Fin 2) (f : HdmiFrame) (s m : State), m = s.begin t → s.running = true → s.inputOn (16 + p) = true →
    (s.hdmi p).locked = true → (s.hdmi p).fmtBad = false →
    f.planes.map List.length = planeSizes (s.input (16 + p)).w (s.input (16 + p)).h (s.input (16 + p)).samp →
    (s.makeRoom (16 + p)).2 = true → Gives (.captureFrameComplete t ⟨16 + p, by omega⟩ k (some f)) s (fun s' =>
      (∃ g ∈ (s'.input (16 + p)).ring, g.id = (m.input (16 + p)).nextId ∧ g.doneAt = m.mono ∧ g.pic.planes = f.planes ∧
        g.tsrc = (m.monoAt f.lineAt : Nat)) ∧ s'.clk = m.clk ∧ s'.comm = m.comm)) ∧
  (∀ (t k : Nat) (i : Fin 26) (b : Capturing) (s m : State), m = s.begin t → s.sys.boot ≠ .off →
    (s.input i).busy.find? (fun b => decide (b.key = k)) = some b → b.lastAt + m.skewMax i ≤ m.mono + tickUnit →
    Gives (.frameIncompleteTimeout t i k) s (fun s' => (s'.input i).busy = (m.input i).busy.filter (fun b => decide (b.key ≠ k)) ∧
      (s'.input i).ring = (m.input i).ring ∧
      s' = { m with out := s'.out, live := s'.live, sys := s'.sys, flt := s'.flt, inp := s'.inp, pair := s'.pair, mem := s'.mem, flue := s'.flue })) ∧
  (∀ (t id : Nat) (i : Fin 26) (s m : State), m = s.begin t → s.sys.boot ≠ .off → Gives (.lockedFrameRelease t i id) s (fun s' =>
    (s'.input i).ring = (m.input i).ring.map (fun f => if f.id = id ∧ m.due f.releaseAt = true then { f with released := true } else f) ∧
    (s'.input i).busy = (m.input i).busy ∧ s' = { m with inp := s'.inp }))

/-- R160, R367: +5V is debounced for 100 ms; the first rise since an unplug is a plug event, a confirmed fall the unplug; HPD goes low
for HPD_LOW_TIME only, and a fall ends the lock at once.
R159, R161: the source reads EDID and SCDC bytes in order; a timing of Table 6-2 on a link within FRL_MAX is locked and shown, any other
is the condition of group 7 and is not captured; a lost lock discards the frame in capture; an InfoFrame sets colour and format, and a
format outside Table 6-2 is not captured. -/
def Obligations.HdmiPorts : Prop :=
  ((∀ (t : Nat) (p : Fin 2) (s m : State), m = s.begin t → s.sys.boot ≠ .off → Gives (.hdmi5vRise t p) s (fun s' =>
    s'.hdmi p = { m.hdmi p with fiveV := true, debounceAt := some (m.now + tuMs 100) } ∧ s'.oper.plugged.contains p.val = true ∧
    (s.oper.plugged.contains p.val = true → s' = { m with inp := s'.inp }))) ∧
  (∀ (t : Nat) (p : Fin 2) (s : State), s.sys.boot = .off → Gives (.hdmi5vRise t p) s (fun s' =>
    s' = s'.unpowered ∧ s'.sys.boot = .off ∧ (s'.hdmi p).fiveV = true)) ∧
  (∀ (t at_ : Nat) (p : Fin 2) (s m : State), m = s.begin t → s.sys.boot ≠ .off → (s.hdmi p).debounceAt = some at_ → at_ ≤ m.now →
    Gives (.hdmi5vDebounceEnd t p) s (fun s' => (s'.hdmi p).plugged = (m.hdmi p).fiveV ∧ (s'.hdmi p).debounceAt = none ∧
      (s'.hdmi p).hpd = s'.hpdWanted p ∧ s'.lv 0xB020 2 = setBit (m.lv 0xB020 2) p (m.hdmi p).fiveV ∧
      ((m.hdmi p).fiveV = false → s'.oper.plugged.contains p.val = false))) ∧
  (∀ (t : Nat) (p : Fin 2) (s m : State), m = s.begin t → s.sys.boot ≠ .off → Gives (.hdmi5vFall t p) s (fun s' =>
    (s'.hdmi p).fiveV = false ∧ (s'.hdmi p).locked = false ∧ (s'.hdmi p).debounceAt = some (m.now + tuMs 100) ∧
    (s'.hdmi p).plugged = (m.hdmi p).plugged ∧
    s' = { m with out := s'.out, live := s'.live, sys := s'.sys, flt := s'.flt, inp := s'.inp, pair := s'.pair, mem := s'.mem, flue := s'.flue,
                  audio := s'.audio, wait := s'.wait })) ∧
  (∀ (t at_ : Nat) (p : Fin 2) (s m : State), m = s.begin t → s.sys.boot ≠ .off → (s.hdmi p).lowUntil = some at_ → at_ ≤ m.now →
    Gives (.hdmiHpdLowEnd t p) s (fun s' => (s'.hdmi p).lowUntil = none ∧ (s'.hdmi p).hpd = s'.hpdWanted p ∧
      ObjectsBut [key (0x2000 + p) 6] m s' ∧ s' = { m with live := s'.live, inp := s'.inp }))) ∧
  ((∀ (t addr n : Nat) (p : Fin 2) (s m : State), m = s.begin t → s.running = true → (addr = 0x50 ∨ addr = 0x54) →
    Gives (.ddcAccess t p (.read addr n)) s (fun s' =>
      s'.out = m.out ++ [.ddc p ((List.range n).map (fun i => m.ddcByte p addr (((m.hdmi p).offset + i) % 256)))] ∧
      s'.hdmi p = { m.hdmi p with
        offset := ((m.hdmi p).offset + n) % 256, segment := if addr = 0x50 then 0 else (m.hdmi p).segment,
        ced := if addr = 0x54 ∧ (∃ i ∈ List.range n, 0x50 ≤ ((m.hdmi p).offset + i) % 256 ∧ ((m.hdmi p).offset + i) % 256 < 0x59)
          then [0, 0, 0, 0] else (m.hdmi p).ced } ∧
      s' = { m with out := s'.out, inp := s'.inp })) ∧
  (∀ (t : Nat) (p : Fin 2) (tm : HdmiTiming) (s m : State), m = s.begin t → s.running = true → s.hpdWanted p = true →
    ((tm.interlaced = false ∧ tm.unsupported = false ∧ 640 ≤ tm.w ∧ tm.w ≤ 7680 ∧ 480 ≤ tm.h ∧ tm.h ≤ 4320 ∧ tm.depth ∈ [8, 10, 12] ∧
        tm.samp ∈ [1, 2, 3, 4] ∧ 8333333 ≤ tm.periodNs ∧ tm.periodNs ≤ 41708334 ∧ tm.link % 16 ≤ s.cm (0x2000 + p) 3 →
      Gives (.hdmiLock t p tm) s (fun s' => s'.lv (0x2000 + p) 6 = 4 ∧ s'.lv (0x2000 + p) 8 = tm.w * 65536 + tm.h ∧
        s'.hdmi p = { m.hdmi p with locked := true, unsup := false, fmtBad := false, training := false, hpd := true } ∧ presentIn s' (src 7 (18 + p)) (domInput (16 + p)) = false)) ∧
      (tm.interlaced = true ∨ tm.unsupported = true ∨ tm.w < 640 ∨ 7680 < tm.w ∨ tm.h < 480 ∨ 4320 < tm.h ∨ tm.depth ∉ [8, 10, 12] ∨
        tm.samp ∉ [1, 2, 3, 4] ∨ tm.periodNs < 8333333 ∨ 41708334 < tm.periodNs ∨ s.cm (0x2000 + p) 3 < tm.link % 16 →
      Gives (.hdmiLock t p tm) s (fun s' => s'.lv (0x2000 + p) 6 = 5 ∧
        s'.hdmi p = { m.hdmi p with locked := false, unsup := true, fmtBad := false, training := false, hpd := true } ∧
        presentIn s' (src 7 (18 + p)) (domInput (16 + p)) = true)))) ∧
  (∀ (t : Nat) (p : Fin 2) (s m : State), m = s.begin t → s.running = true → (s.hdmi p).locked = true →
    (∀ e ∈ s.wait, keyIdx e.1 ≠ 0x2000 + p) → Gives (.hdmiLockLoss t p) s (fun s' => (s'.hdmi p).locked = false ∧ (s'.input (16 + p)).busy = [] ∧ s'.lv (0x2000 + p) 6 ≤ 2 ∧
      s' = { m with out := s'.out, live := s'.live, sys := s'.sys, flt := s'.flt, inp := s'.inp, pair := s'.pair, mem := s'.mem, flue := s'.flue,
                    audio := s'.audio })) ∧
  (∀ (t fmt col : Nat) (p : Fin 2) (s m : State), m = s.begin t → s.running = true → Gives (.aviInfoframeRx t p fmt col) s (fun s' =>
    s'.lv (0x2000 + p) 0xA = fmt % 256 ∧ s'.lv (0x2000 + p) 0xB = col % 256 ∧
    s'.input (16 + p) = { m.input (16 + p) with colour := col % 256, samp := fmt % 256 / 16, depth := 8 + fmt % 16 } ∧
    (s'.hdmi p).fmtBad = !(formatOk (fmt % 256 / 16) (8 + fmt % 16)) ∧ (s'.hdmi p).locked = (m.hdmi p).locked ∧
    s' = { m with out := s'.out, live := s'.live, sys := s'.sys, flt := s'.flt, inp := s'.inp, pair := s'.pair, mem := s'.mem, flue := s'.flue })))

/-- R166, R247: a relayed line for this module is captured into the slot that names its origin and entry; the line first in a port's
queue is sent on it. R167, R168, R220: REF_IN's edges and missing periods, and PPS_IN's time stamp. -/
def Obligations.RelayAndReferences : Prop :=
  (∀ (t r : Nat) (port : Fin 3) (l : RelayLine) (s m : State), m = s.begin t → s.running = true → l.dests = [s.myId] →
    (List.range 8).find? (fun r => decide (s.cm (0x2190 + r) 1 = 1) && decide (s.cm (0x2190 + r) 2 = l.origin) &&
      decide (s.cm (0x2190 + r) 3 = l.entry)) = some r → (∀ c ∈ (s.input (18 + r)).closed, c.1 ≠ l.tsrc) → Gives (.relayLineRx t port l) s (fun s' =>
      s'.lv (0x2190 + r) 7 = 2 ∧ (∃ b ∈ (s'.input (18 + r)).busy, b.key = l.tsrc) ∧ s' = { m with live := s'.live, inp := s'.inp })) ∧
  (∀ (t : Nat) (port : Fin 3) (e : Nat × FlueFrame) (s m : State), m = s.begin t → s.sys.boot ≠ .off →
    s.flue.relayQ.find? (fun e => decide (e.1 = port.val)) = some e → s.linkUp port = true → Gives (.relayLineForward t port) s (fun s' =>
      Emit.flue port e.2 ∈ s'.out ∧ s'.flue.relayQ = m.flue.relayQ.erase e ∧ s'.flue.paths = m.flue.paths ∧
      s' = { m with out := s'.out, live := s'.live, flt := s'.flt, flue := s'.flue })) ∧
  (∀ (t lineAt : Nat) (s m : State), m = s.begin t → s.isUp = true → s.lv 0x2200 1 ≠ 0 → Gives (.refInEdge t lineAt) s (fun s' =>
    s'.inp.ref.prevEdge = some (m.monoAt lineAt) ∧
    (s.inp.ref.last = none ∨ s.inp.ref.restart = true → s'.lv 0x2200 7 = s'.refQualState ∧ s'.inp.ref = { m.inp.ref with
      prevEdge := some (m.monoAt lineAt), missing := 0, last := some (m.monoAt lineAt), since := 0, edgeIn := 0, okIn := 0, good := 0,
      rejects := 0, restart := false }))) ∧
  (∀ (t l : Nat) (s m : State), m = s.begin t → s.isUp = true → s.lv 0x2200 1 ≠ 0 → s.lv 0x2200 7 = 2 → s.inp.ref.last = some l →
    l + m.refPeriod + nsCtr (s.lv 0x2200 5) ≤ m.mono + tickUnit →
    s.inp.ref.since < (m.mono + tickUnit - l - nsCtr (s.lv 0x2200 5)) / max 1 m.refPeriod →
    s.inp.ref.edgeIn ≠ (m.mono + tickUnit - l - nsCtr (s.lv 0x2200 5)) / max 1 m.refPeriod →
    Gives (.refPeriodMissing t) s (fun s' =>
      (s.inp.ref.missing < 2 → s' = { m with inp := { m.inp with ref := { m.inp.ref with
        since := (m.mono + tickUnit - l - nsCtr (s.lv 0x2200 5)) / max 1 m.refPeriod, missing := m.inp.ref.missing + 1 } } }) ∧
      (s.inp.ref.missing = 2 → s'.lv 0x2200 7 = 3 ∧ s'.inp.ref.last = none))) ∧
  (∀ (t lineAt : Nat) (s m : State), m = s.begin t → s.isUp = true → s.cm 0x7030 4 = 1 → Gives (.ppsInEdge t lineAt) s (fun s' =>
    s'.lv 0x7030 5 = ctrTime (m.ctrAt lineAt).toNat ∧ ObjectsBut [key 0x7030 5, key 0x7030 6] m s' ∧ s' = { m with live := s'.live }))

/-! ## Output packets, shaping and gate lists -/

/-- R177, R183, R186: a dead stripe's send window forms its packets and each flow's bucket runs at m × ρ from then; a tail slot takes
every tail packet of its stripe from the port, and no body packet of that stripe stays queued there.
R185, R189: the head packet of an entry joins the class queues of its legs once the wheel's slot of its eligible instant has begun and
it is released; its counted length is paid from the credit of that instant. Before that, and while the credit never reaches its length,
it stays where it is. -/
def Obligations.PacketsFormedAndEligible : Prop :=
  ((∀ (t f k : Nat) (c : Fin 16) (s m : State) (x : Stripe), m = s.begin t → s.sys.boot ≠ .off → s.stripe c f k = some x → x.dead = true →
    x.sent = false → m.due (m.sendOpenOf x) = true → Gives (.sendWindowOpen t c f k) s (fun s' =>
      s'.stripe c f k = some { x with sent := true } ∧ s'.pipe.jobs = m.pipe.jobs ∧
      (∀ n ∈ groupsOf m.comm c, (m.flowSt n).sends f = true → (s'.ent n).m = (stripesIn m.comm n k).length ∧
        (s'.ent n).muted = x.muted ∧ (s'.ent n).creditAt = max m.mono (m.ent n).creditAt) ∧
      s' = { m with pipe := s'.pipe, outp := s'.outp })) ∧
  (∀ (t f k : Nat) (port : Fin 10) (c : Fin 16) (s m : State) (e : Nat × Pkt), m = s.begin t → s.portRuns port = true → s.stripe c f k = none →
    (s.ethPort port).tails.find? (fun e => decide (e.2.c = c.val) && decide (e.2.f = f) && decide (e.2.k = k)) = some e →
    m.due (e.1 - usCtr 1) = true → Gives (.tailSlotOpen t port c f k) s (fun s' =>
      (s'.ethPort port).tails = (m.ethPort port).tails.filter (fun e => !(decide (e.2.c = c.val) && decide (e.2.f = f) && decide (e.2.k = k))) ∧
      (s'.ethPort port).slotTill = max (m.ethPort port).slotTill e.1 ∧
      (s'.ethPort port).queue = (m.ethPort port).queue.filter (fun q =>
        !((q.pkt.map (fun y => decide (y.c = c.val) && decide (y.f = f) && decide (y.k = k))).getD false)) ∧
      (∀ q : Fin 10, q ≠ port → s'.ethPort q = m.ethPort q) ∧ s'.comm = m.comm ∧ s'.clk = m.clk))) ∧
  (∀ (t : Nat) (e : Fin 4128) (k : Pkt) (rest : List Pkt) (s m : State), m = s.begin t → s.running = true → (s.ent e).armed = true →
    (s.ent e).queue = k :: rest →
    (∀ a, m.eligibleAt e = some a → wheelPlace m.mono a = some 0 → m.due k.release = true →
      Gives (.packetEligible t e) s (fun s' =>
        (s'.ent e).queue = rest ∧ (s'.ent e).sent = (s.ent e).sent ∧
        (s'.ent e).credit = ((m.ent e).topUp a).credit - counted m.comm e (k.head.length + k.size) * 65536 ∧
        (∀ p ∈ (txCfg m.comm e).legs, (s.ethPort p).link = true → (m.macFor p (destOf (txCfg m.comm k.entry) p)).isSome = true →
          s.lv (0x6200 + p) 1 = 0 → ∃ q ∈ (s'.ethPort p).queue, q.pkt = some { k with eligible := some a } ∧ q.eligible = a) ∧
        (∀ d, d ≠ e.val → d ≠ k.entry → s'.ent d = m.ent d) ∧ s'.comm = m.comm ∧ s'.clk = m.clk ∧ s'.pipe = m.pipe)) ∧
    ((∀ a, m.eligibleAt e = some a → wheelPlace m.mono a ≠ some 0 ∨ m.due k.release = false) →
      Gives (.packetEligible t e) s (fun s' => s' = m)))

/-- R182, R196: an idle port starts the head frame of its highest class that has one, when that class's gate is open and stays so; a
frame that cannot finish in time is held, and counted once. -/
def Obligations.TransmissionSelection : Prop :=
  ∀ (t q : Nat) (port : Fin 10) (x : QFrame) (s m : State), m = s.begin t → s.portRuns port = true → (s.ethPort port).link = true →
    m.due (s.ethPort port).busyTill = true → m.due (s.ethPort port).slotTill = true → q < 8 →
    (∀ r, q < r → r < 8 → m.classHead port r = none) → m.classHead port q = some x →
    (m.classStop port q x.len = 0 → Gives (.portTxSelect t port) s (fun s' =>
      (s'.ethPort port).queue = (m.ethPort port).queue.erase x ∧ (s'.ethPort port).busyTill = m.mono + wireTime port x.len ∧
      (∀ f, x.pkt = none → x.frame = some f → Emit.eth port f ∈ s'.out) ∧
      (∀ r : Fin 10, r ≠ port → s'.ethPort r = m.ethPort r) ∧ s'.comm = m.comm ∧ s'.clk = m.clk ∧ s'.pipe = m.pipe)) ∧
    (m.classStop port q x.len = 2 → x.held = false → (∀ r, r < q → m.classHead port r = none) → Gives (.portTxSelect t port) s (fun s' =>
      s'.live = (m.inc (0x6110 + port) (0x31 + q)).live ∧ (s'.ethPort port).busyTill = (m.ethPort port).busyTill ∧
      (s'.ethPort port).queue = (m.ethPort port).queue.map (fun z => if z = x then { z with held := true } else z) ∧
      s' = { m with live := s'.live, outp := s'.outp }))

/-- R171, R173, R174, R209: what a port does with a received frame. A PAUSE frame is ignored, counted and an event; a frame that is not
for the port, a fragment, and a frame outside the forms and sizes that the port takes, are discarded and counted; an ARP request for the
port is answered; a PTP frame waits for the host while the host runs the protocol. -/
def Obligations.EthernetFramesReceived : Prop :=
  ∀ (t : Nat) (port : Fin 10) (f : EthFrame) (s m : State), m = s.begin t → s.portRuns port = true → (s.ethPort port).link = true →
    (f.ety = 0x8808 → Gives (.ethFrameRx t port f) s (fun s' => Occurs (src (portGroup port) 14) m s' ∧
      s'.lv (0x6000 + port) 0x10 = (m.inc (0x6000 + port) 0x10).lv (0x6000 + port) 0x10)) ∧
    (f.ety ≠ 0x8808 → s.macOk port f.dstMac = false ∨ f.frag = true ∨ frameTaken s.comm port f = false → Gives (.ethFrameRx t port f) s (fun s' =>
      s' = (m.inc (0x6000 + port) 0xF).inc (0x6000 + port) 0x10)) ∧
    (f.ety ≠ 0x8808 → s.macOk port f.dstMac = true → f.frag = false → frameTaken s.comm port f = true → m.meterOf port f = none →
      (isPtp f = true → s.cm (0x7010 + portSide port) 1 = 2 → (s.servo.rx.get [] (portSide port)).length < 32 →
        Gives (.ethFrameRx t port f) s (fun s' =>
          (∃ b, s'.servo.rx.get [] (portSide port) = m.servo.rx.get [] (portSide port) ++ [b] ∧
            b.drop 12 = leBytes 2 (frameBytes f).length ++ frameBytes f) ∧
          s' = { m.inc (0x6000 + port) 0xF with servo := s'.servo })) ∧
      (f.ety = 0x0806 → beAt f.payload 6 2 = 1 → beAt f.payload 24 4 = Sys2Proof.Machine.port s.comm port 4 → s.lv (0x6200 + port) 1 = 0 →
        Gives (.ethFrameRx t port f) s (fun s' => ∃ q g, (s'.ethPort port).queue = (m.ethPort port).queue ++ [q] ∧ q.frame = some g ∧
          g.dstMac = beAt f.payload 8 6 ∧ g.ety = 0x0806 ∧ g.payload = (arpFrame 2 (Sys2Proof.Machine.port s.comm port 3)
            (Sys2Proof.Machine.port s.comm port 4) (beAt f.payload 8 6) (beAt f.payload 14 4) 0).payload))) ∧
    (∀ r : State × Bool, r = (m.inc (0x6000 + port) 0xF).metered port f → f.ety = 0x0800 → s.macOk port f.dstMac = true → f.frag = false →
      frameTaken s.comm port f = true → isPtp f = false → f.proto = 17 → s.takenUp port f = false → Gives (.ethFrameRx t port f) s (fun s' =>
        s' = (if r.2 then r.1.inc (0x6000 + port) 0x10 else r.1)))

/-- R174, R175, R198: a link's rise and fall show in LINK_STATE; destinations are asked for again every 60 s; queue depth is sampled
into the bins, and a window's end copies both histograms of every class at once and starts anew.
R193, R194: an interval of the list in operation ends with the next entry, the last with the cycle's start; a pending change takes
effect at its change time, with entry 0, and shows in the operational objects. -/
def Obligations.LinksObservationAndGates : Prop :=
  ((∀ (t : Nat) (port : Fin 10) (s m : State), m = s.begin t → s.portRuns port = true → (s.ethPort port).link = false →
    Gives (.ethLinkUp t port) s (fun s' => (s'.ethPort port).link = true ∧ s'.lv (0x6000 + port) 0xC = 2 ∧
      (s'.ethPort port).arpAt = m.now ∧ (∀ q : Fin 10, q ≠ port → s'.ethPort q = m.ethPort q) ∧ s'.comm = m.comm ∧ s'.clk = m.clk)) ∧
  (∀ (t : Nat) (port : Fin 10) (s m : State), m = s.begin t → s.portRuns port = true → (s.ethPort port).link = true →
    Gives (.ethLinkDown t port) s (fun s' => s'.ethPort port = { m.ethPort port with link := false } ∧ s'.lv (0x6000 + port) 0xC = 1 ∧
      (∀ q : Fin 10, q ≠ port → s'.ethPort q = m.ethPort q) ∧ s'.comm = m.comm)) ∧
  (∀ (t : Nat) (port : Fin 10) (s m : State), m = s.begin t → s.portRuns port = true → (s.ethPort port).link = true →
    (s.ethPort port).arpAt + tuSec 60 ≤ m.now → s.lv (0x6200 + port) 1 = 0 → Gives (.neighbourRefresh t port) s (fun s' =>
      (s'.ethPort port).arpAt = m.now ∧
      (s'.ethPort port).queue.length = (m.ethPort port).queue.length + ((arpTargets m.comm port ++ m.masterTargets port).eraseDups).length ∧
      s' = { m with outp := s'.outp })) ∧
  (∀ (t : Nat) (port : Fin 10) (s m : State), m = s.begin t → s.portRuns port = true → Gives (.queueDepthSample t port) s (fun s' =>
    (∀ c : Fin 8, ∃ b < 16, (s'.ethPort port).depth.get 0 (16 * c + b) = (m.ethPort port).depth.get 0 (16 * c + b) + 1 ∧
      b = depthBin (sumList (((m.ethPort port).queue.filter (fun x => decide (x.cls = c.val) && decide (x.eligible ≤ m.mono))).map QFrame.len))) ∧
    (s'.ethPort port).queue = (m.ethPort port).queue ∧ s' = { m with outp := s'.outp })) ∧
  (∀ (t : Nat) (port : Fin 10) (s m : State), m = s.begin t → s.isUp = true →
    (s.ethPort port).histAt + tuMs (s.ethPort port).histLen ≤ m.now → Gives (.histWindowEnd t port) s (fun s' =>
      (∀ q : Fin 8,
        s'.lvb (0x6110 + port) (1 + q) = (List.range 16).flatMap (fun b => leBytes 4 ((m.ethPort port).depth.get 0 (16 * q + b))) ∧
        s'.lvb (0x6110 + port) (0x11 + q) = (List.range 16).flatMap (fun b => leBytes 4 ((m.ethPort port).sojourn.get 0 (16 * q + b)))) ∧
      s'.ethPort port = { m.ethPort port with depth := [], sojourn := [], histAt := m.now, histLen := m.lv (0x6000 + port) 0xB } ∧
      s' = { m with live := s'.live, outp := s'.outp }))) ∧
  ((∀ (t : Nat) (port : Fin 10) (g : GateList) (s m : State), m = s.begin t → s.sys.boot ≠ .off → (s.ethPort port).gate.oper = some g →
    (s.ethPort port).gate.realign = false → m.due (s.ethPort port).gate.entryEnd = true →
    ((s.ethPort port).gate.idx + 1 < (fitList g.list g.cycle).length → Gives (.gateIntervalEnd t port) s (fun s' =>
      (s'.ethPort port).gate = { (m.ethPort port).gate with
        idx := (m.ethPort port).gate.idx + 1
        entryEnd := (m.ethPort port).gate.entryEnd + ((fitList g.list g.cycle).getD ((m.ethPort port).gate.idx + 1) (0, 0)).2 * tickUnit } ∧
      (s.lv (0x6200 + port) 1 ≠ 0 → s'.lv (0x6200 + port) 0xA = ((fitList g.list g.cycle).getD ((m.ethPort port).gate.idx + 1) (0xFF, 0)).1) ∧
      ObjectsBut [key (0x6200 + port) 0xA] m s' ∧ s' = { m with live := s'.live, outp := s'.outp })) ∧
    ((fitList g.list g.cycle).length ≤ (s.ethPort port).gate.idx + 1 → (s.ethPort port).gate.pend = none →
      Gives (.gateIntervalEnd t port) s (fun s' =>
        (s'.ethPort port).gate.idx = 0 ∧ (s'.ethPort port).gate.cycleAt = (m.ethPort port).gate.entryEnd ∧
        s' = { m with live := s'.live, outp := s'.outp }))) ∧
  (∀ (t at_ : Nat) (port : Fin 10) (g : GateList) (s m : State), m = s.begin t → s.sys.boot ≠ .off →
    (s.ethPort port).gate.pend = some (at_, g) → m.due at_ = true → Gives (.gateChangeTime t port) s (fun s' =>
      (s'.ethPort port).gate.oper = some g ∧ (s'.ethPort port).gate.pend = none ∧ (s'.ethPort port).gate.idx = 0 ∧
      (s'.ethPort port).gate.cycleAt = at_ ∧ s'.lv (0x6200 + port) 8 = 0 ∧ s'.lv (0x6200 + port) 0xC = g.cycle ∧
      s'.lv (0x6200 + port) 0xD = g.ext ∧
      ObjectsBut [key (0x6200 + port) 8, key (0x6200 + port) 0xA, key (0x6200 + port) 0xB, key (0x6200 + port) 0xC, key (0x6200 + port) 0xD,
        key (0x6200 + port) 0xE, key (0x6200 + port) 0x13] m s' ∧
      (∀ q : Fin 10, q ≠ port → s'.ethPort q = m.ethPort q) ∧ s' = { m with live := s'.live, outp := s'.outp })))

/-! ## Time -/

/-- R207, R208: Announce messages of the instance's domain, in range, choose the best master; a master not heard for three Announce
intervals, and four Sync intervals without a Sync, lose the instance, which listens again; delay requests go out in PTP_CLASS.
R254, R255: on a link that is up a time frame leaves every 15.625 ms with the sender's instant and what the last one brought; a time
frame received gives the link delay from its four instants, and the neighbour's offer. -/
def Obligations.PtpMastersAndFlueTime : Prop :=
  ((∀ (t : Nat) (i : Fin 4) (msg : PtpMsg) (s m : State), m = s.begin t → s.ptpRuns i = true → (s.ethPort (s.ptpPort (i % 2))).link = true →
    msg.domain = s.ptpDomain i → msg.kind = .announce → (i.val < 2 → -3 ≤ msg.logInt ∧ msg.logInt ≤ 1) → Gives (.ptpEventRx t i msg) s (fun s' =>
      ∃ ms, ms = (m.ptp i).masters.filter (fun x => x.port ≠ msg.port) ++
          [{ port := msg.port, ip := msg.ip, rank := msg.rank, flags := msg.flags, utc := msg.utc, gm := msg.gm }] ∧
        (s'.ptp i).masters = ms ∧ (s'.ptp i).master = (bestMaster ms).map Master.port ∧
        (∀ j : Fin 4, j ≠ i → s'.ptp j = m.ptp j) ∧ s'.comm = m.comm ∧ s'.outp = m.outp)) ∧
  (∀ (t : Nat) (i : Fin 4) (msg : PtpMsg) (s m : State), m = s.begin t → s.ptpRuns i = true → (s.ethPort (s.ptpPort (i % 2))).link = true →
    msg.kind = .announce → i.val < 2 → msg.logInt < -3 ∨ 1 < msg.logInt → Gives (.ptpEventRx t i msg) s (fun s' => s' = m)) ∧
  (∀ (t at_ : Nat) (i : Fin 4) (s m : State), m = s.begin t → s.sys.boot ≠ .off → (s.ptp i).annAt = some at_ →
    at_ + 3 * (s.ptp i).annInt ≤ m.now → Gives (.ptpAnnounceTimeout t i) s (fun s' =>
      (s'.ptp i).master = none ∧ (s'.ptp i).masters = [] ∧ (s'.ptp i).good = 0 ∧ s'.lv (0x7010 + i % 2) (7 + i / 2) = 1 ∧
      s'.lv (0x7010 + i % 2) 0xC = (m.inc (0x7010 + i % 2) 0xC).lv (0x7010 + i % 2) 0xC ∧
      (∀ j : Fin 4, j ≠ i → s'.ptp j = m.ptp j) ∧ s'.comm = m.comm ∧ s'.outp = m.outp)) ∧
  (∀ (t at_ : Nat) (i : Fin 4) (s m : State), m = s.begin t → s.sys.boot ≠ .off → (s.ptp i).syncAt = some at_ →
    at_ + 4 * (s.ptp i).syncInt ≤ m.now → Gives (.ptpSyncTimeout t i) s (fun s' =>
      (s'.ptp i).master = none ∧ (s'.ptp i).syncAt = none ∧ (s'.ptp i).good = 0 ∧ s'.lv (0x7010 + i % 2) (7 + i / 2) = 1 ∧
      (∀ j : Fin 4, j ≠ i → s'.ptp j = m.ptp j) ∧ s'.comm = m.comm ∧ s'.outp = m.outp)) ∧
  (∀ (t : Nat) (i : Fin 4) (s m : State), m = s.begin t → s.ptpRuns i = true → (s.ethPort (s.ptpPort (i % 2))).link = true →
    (s.ptp i).reqAt + (if i.val < 2 then (s.ptp i).reqInt else tuSec 1) ≤ m.now →
    (i.val < 2 → (s.ptp i).lastMs.isSome = true ∧ s.cm (0x7010 + i % 2) 4 ≠ 1) → s.lv (0x6200 + s.ptpPort (i % 2)) 1 = 0 →
    Gives (.ptpDelayReqSend t i) s (fun s' =>
      (s'.ptp i).req = some ((m.ptp i).nextSeq, none) ∧ (s'.ptp i).reqAt = m.now ∧ (s'.ptp i).nextSeq = ((m.ptp i).nextSeq + 1) % 65536 ∧
      (∃ q f, (s'.ethPort (m.ptpPort (i % 2))).queue = (m.ethPort (m.ptpPort (i % 2))).queue ++ [q] ∧ q.cls = m.cm 0x6102 1 ∧
        q.frame = some f ∧ f.ety = (if i.val < 2 then 0x0800 else 0x88F7)) ∧
      s' = { m with servo := s'.servo, outp := s'.outp }))) ∧
  ((∀ (t : Nat) (p : Fin 3) (s m : State), m = s.begin t → s.sys.boot ≠ .off → s.linkUp p = true →
    (∀ a, (s.link p).sentAt = some a → a + tuUs 15625 ≤ m.now) → Gives (.flueTimeExchange t p) s (fun s' =>
      (∃ f : FlueFrame, Emit.flue p f ∈ s'.out ∧ f.typ = 2 ∧ f.src = m.myId ∧
        f.pay.take 3 = [(to16 (m.ctrAt m.now)).toNat, (m.link p).gotTx, (m.link p).gotRx] ∧
        s'.link p = { (m.link p).enqueue m.now f with sentAt := some m.now, stale := (m.link p).stale + 1 }) ∧
      (∀ q : Fin 3, q ≠ p → s'.link q = m.link q) ∧ s'.comm = m.comm ∧ s'.pipe = m.pipe)) ∧
  (∀ (t lineAt : Nat) (p : Fin 3) (f : FlueFrame) (s m : State), m = s.begin t → s.sys.boot ≠ .off → s.linkUp p = true → f.typ = 2 →
    Gives (.flueTimeFrameRx t p f lineAt) s (fun s' =>
      (s'.link p).gotTx = f.pay.getD 0 0 ∧ (s'.link p).gotRx = (to16 (m.ctrAt lineAt)).toNat ∧
      (f.pay.getD 1 0 ≠ 0 → ∃ d : Int,
        d = roundDivInt ((to16 (m.ctrAt lineAt) - (f.pay.getD 1 0 : Nat)) - ((f.pay.getD 0 0 : Nat) - (f.pay.getD 2 0 : Nat))) 2 ∧
        (s'.link p).delays = (d :: (m.link p).delays).take 8 ∧
        s'.lv (0x8110 + p) 6 = unsigned 32 (trimMean (s'.link p).delays * 1000 / 65536)) ∧
      (f.pay.getD 3 0 = 1 → ((s'.link p).offer.map Offer.origin) = some (f.pay.getD 4 0) ∧ ((s'.link p).offer.map Offer.hops) = some (f.pay.getD 6 0)) ∧
      (f.pay.getD 3 0 ≠ 1 → (s'.link p).offer = none) ∧
      (∀ q : Fin 3, q ≠ p → s'.link q = m.link q) ∧ s'.comm = m.comm)))

/-- R208, R211: a one-step Sync of the master in use, the path delay known, gives θ; in LOCKED a sample within both thresholds steers I
and y by KP and KI within their clamps, and the servo stays LOCKED. -/
def Obligations.ServoSteers : Prop :=
  ∀ (t l : Nat) (i : Fin 2) (msg : PtpMsg) (θ : Int) (s m : State), m = s.begin t → s.ptpRuns i = true →
    (s.ethPort (s.ptpPort (i % 2))).link = true → msg.domain = s.ptpDomain i → msg.kind = .sync → msg.twoStep = false → (s.ptp i).master = some msg.port →
    -7 ≤ msg.logInt → msg.logInt ≤ 0 → (s.ptp i).delays ≠ [] → 3 ≤ (s.ptp i).good → s.sourceNow = i + 1 → s.order.contains (i + 1) = true →
    θ = msg.rx - msg.stamp - trimMean (s.ptp i).delays - msg.correction - signed 32 (s.lv (0x7010 + i) 5) * 65536 →
    Gives (.ptpEventRx t ⟨i.val, by omega⟩ msg) s (fun s' =>
      s'.lv 0x7001 0xE = unsigned 64 θ ∧ s'.lv 0x7001 0xF = unsigned 64 (trimMean (s.ptp i).delays) ∧ s'.lv (0x7010 + i) 7 = 3 ∧
      (s'.ptp i).lastMs = some (msg.rx - msg.stamp - msg.correction) ∧ (s'.ptp i).good = (m.ptp i).good + 1 ∧
      (s.lv 0x7001 0xC = 2 → s.servo.lastAt = some l → s.runningChans = [] → θ.natAbs ≤ s.lv 0x7001 8 * 65536 →
        θ.natAbs ≤ s.lv 0x7001 9 * 65536 → (s.lv 0x7001 6 = 0 ∨ θ.natAbs ≤ s.lv 0x7001 6 * 65536) →
        s'.lv 0x7001 0xC = 2 ∧ s'.servo.lastAt = some m.mono ∧
        s'.servo.i = clampInt (m.servo.i - gainTerm (m.lv 0x7001 3) θ (max (nsCtr 1000000) (m.mono - l)))
          (-(m.lv 0x7001 5 * 1000 : Nat)) (m.lv 0x7001 5 * 1000 : Nat) ∧
        s'.clk.y = clampInt (s'.servo.i - gainTerm (m.lv 0x7001 2) θ (max (nsCtr 1000000) (m.mono - l)))
          (-(m.lv 0x7001 4 * 1000 : Nat)) (m.lv 0x7001 4 * 1000 : Nat) ∧
        s'.lv 0x7000 4 = unsigned 32 s'.clk.y ∧ s'.clk.off = m.clk.off))

/-- R210, R212: host samples that stop disqualify source 6; with no source left the servo enters HOLDOVER; the first source of
SOURCE_ORDER, qualified for 10 s, replaces the one in use; HOLDOVER_MAX in HOLDOVER is an event, once.
R27, R206, R220: stove B's counter reloads when the two differ by more than one tick; PPS_OUT rises in the tick that reaches a whole
second and falls after its width; time stamps unread for 2 s are discarded and counted. -/
def Obligations.TimeSourcesCountersAndPulses : Prop :=
  ((∀ (t at_ : Nat) (s m : State), m = s.begin t → s.sys.boot ≠ .off → s.servo.hostAt = some at_ → at_ + tuSec 4 ≤ m.now →
    Gives (.hostSampleExpire t) s (fun s' => s'.servo.hostAt = none ∧ s'.sourceNow ≠ 6 ∧ s'.comm = m.comm ∧ s'.pipe = m.pipe ∧
      (s.sourceNow = 6 → s.order = [6] → s.lv 0x7001 0xC = 2 →
        s'.lv 0x7001 0xC = 3 ∧ s'.sourceNow = 0 ∧ s'.servo.holdFrom = some m.now ∧ s'.servo.holdRaised = false))) ∧
  (∀ (t c q : Nat) (rest : List Nat) (s m : State), m = s.begin t → s.sys.boot ≠ .off → s.order = c :: rest → c ≠ 7 → c ≠ s.sourceNow →
    s.qualified c = true → s.servo.qualAt.get none c = some q → q + tuSec 10 ≤ m.now →
    1 ≤ s.sourceNow → s.sourceNow ≤ 6 → s.order.contains s.sourceNow = true → s.qualified s.sourceNow = true →
    Gives (.sourcePreferenceTimer t) s (fun s' => s'.sourceNow = c ∧ s'.servo.ptp = m.servo.ptp ∧ s'.lv 0x7001 0xC = m.lv 0x7001 0xC ∧
      s'.clk = m.clk ∧ ObjectsBut [key 0x7001 0xD, key 0x7000 5, key 0x7000 6] m s')) ∧
  (∀ (t at_ : Nat) (s m : State), m = s.begin t → s.sys.boot ≠ .off → s.servo.holdFrom = some at_ →
    at_ + tuSec (s.lv 0x7001 0xB) ≤ m.now → s.servo.holdRaised = false → Gives (.holdoverMaxPassed t) s (fun s' =>
      s'.servo = { m.servo with holdRaised := true } ∧ countOf s' (src 3 6) = satAdd 16 (countOf m (src 3 6)) 1 ∧
      s' = { m with out := s'.out, live := s'.live, sys := s'.sys, flt := s'.flt, servo := s'.servo, pair := s'.pair, mem := s'.mem, flue := s'.flue }))) ∧
  ((∀ (t : Nat) (diff : Int) (s m : State), m = s.begin t → s.isUp = true → s.clk.run = true → tickUnit < diff.natAbs →
    Gives (.stoveCounterCompare t diff) s (fun s' => s'.clk = { m.clk with diffB := diff, reloadB := true } ∧
      countOf s' (src 3 2) = satAdd 16 (countOf m (src 3 2)) 1 ∧
      s' = { m with out := s'.out, live := s'.live, sys := s'.sys, clk := s'.clk, flt := s'.flt, pair := s'.pair, mem := s'.mem, flue := s'.flue })) ∧
  (∀ (t : Nat) (diff : Int) (s m : State), m = s.begin t → s.isUp = true → s.clk.run = true → diff.natAbs ≤ tickUnit →
    Gives (.stoveCounterCompare t diff) s (fun s' => s' = { m with clk := { m.clk with diffB := diff } })) ∧
  (∀ (t : Nat) (s m : State), m = s.begin t → s.isUp = true → s.clk.run = true → s.cm 0x7030 1 = 1 →
    (m.ctrNow % (1000000000 * 2 ^ 40) < tickInc m.clk.y → Gives (.ppsOutPulse t) s (fun s' => s'.out = m.out ++ [.edge 0 true] ∧
      s' = { m with out := s'.out, servo := { m.servo with ppsHigh := some (m.now + tuNs (m.lv 0x7030 2)) } })) ∧
    (tickInc m.clk.y ≤ m.ctrNow % (1000000000 * 2 ^ 40) → Gives (.ppsOutPulse t) s (fun s' => s' = m))) ∧
  (∀ (t at_ : Nat) (s m : State), m = s.begin t → s.sys.boot ≠ .off → s.servo.ppsHigh = some at_ → at_ ≤ m.now →
    Gives (.timeOutputPulseEnd t 0) s (fun s' => s'.out = m.out ++ [.edge 0 false] ∧ s' = { m with out := s'.out, servo := { m.servo with ppsHigh := none } })) ∧
  (∀ (t at_ : Nat) (s m : State), m = s.begin t → s.sys.boot ≠ .off → s.servo.frameHigh = some at_ → at_ ≤ m.now →
    Gives (.timeOutputPulseEnd t 1) s (fun s' => s'.out = m.out ++ [.edge 1 false] ∧ s' = { m with out := s'.out, servo := { m.servo with frameHigh := none } })) ∧
  (∀ (t : Nat) (q : Fin 5) (s m : State), m = s.begin t → s.sys.boot ≠ .off → Gives (.tsEntryStale t q) s (fun s' =>
    s'.servo.tsq.get [] q = (m.servo.tsq.get [] q).filter (fun e => decide (m.now < e.at_ + tuSec 2)) ∧
    (∀ r, r ≠ q.val → s'.servo.tsq.get [] r = m.servo.tsq.get [] r) ∧ s' = { m with live := s'.live, servo := s'.servo })))

/-! ## Audio -/

/-- R223, R224, R226: the newest sample of an I2S port is the frame received, the words of its two slots at the top of 32 bits; a
controller port's frame begins where the module lets WS fall, and RATE_NOW is its rate; an HDMI packet of an accepted kind gives each
enabled virtual port its stream's rate, any other makes all four unsupported.
R227, R229, R230: a converter locks and is live; an empty FIFO, one past 1 ms, and one more than 32 samples off its group lead's, hold
the output in state 3, counted; the held output ramps to 0 after UNDERRUN_HOLD, and back to the live signal once the FIFO is at its
centre.
R231, R232: at its release instant, in LIT, the packet whose first sample has count k carries RTP timestamp k modulo 2^32 and the next
sequence number, and the flow's next packet begins Np samples later. -/
def Obligations.AudioPortsAndPackets : Prop :=
  ((∀ (t lineAt : Nat) (p : Fin 8) (left right : List Bool) (s m : State), m = s.begin t → s.aPortOn p = true →
    Gives (.i2sFrameRx t p lineAt left right) s (fun s' =>
      (∃ at_ per, (s'.aPort p).smps.head? = some { at_ := at_, l := m.slotWord p (left ++ right) 0, r := m.slotWord p (left ++ right) 1, per := per } ∧
        (s.cm (0x7100 + p) 2 ≠ 1 → at_ = m.monoAt lineAt ∧ s'.out = m.out) ∧
        (s.cm (0x7100 + p) 2 = 1 → (s'.aPort p).ws = some at_ ∧
          Emit.ws p at_ (2 * s.cm (0x7100 + p) 4 * audioRateHz (s.cm (0x7100 + p) 6)) ∈ s'.out)) ∧
      (s.cm (0x7100 + p) 2 = 1 → s'.lv (0x7100 + p) 0xC = 1000 * audioRateHz (s.cm (0x7100 + p) 6)) ∧
      (∀ q : Fin 16, q.val ≠ p.val → (s'.aPort q).smps = (m.aPort q).smps ∧ (s'.aPort q).runs = (m.aPort q).runs) ∧
      s' = { m with out := s'.out, live := s'.live, audio := s'.audio })) ∧
  (∀ (t : Nat) (p : Fin 2) (k : HdmiAudio) (s m : State), m = s.begin t → s.running = true → (s.hdmi p).locked = true →
    Gives (.hdmiAudioPacketRx t p k) s (fun s' =>
      (∀ i : Fin 4,
        (k.supported = false → s'.lv (0x7100 + (8 + 4 * p + i)) 0xB = 4 ∧ (s'.aPort (8 + 4 * p + i)).smps = (m.aPort (8 + 4 * p + i)).smps) ∧
        (k.supported = true → s.aPortOn (8 + 4 * p + i) = true → s'.lv (0x7100 + (8 + 4 * p + i)) 0xC = 1000 * k.rate ∧
          ((s'.aPort (8 + 4 * p + i)).unused = true ↔ k.pairs.length ≤ i))) ∧
      (∀ q : Fin 16, q.val / 4 ≠ 2 + p → s'.aPort q = m.aPort q) ∧ s' = { m with live := s'.live, audio := s'.audio }))) ∧
  ((∀ (t : Nat) (p : Fin 16) (s m : State), m = s.begin t → s.aPortOn p = true → s.asrc p = 1 → (s.aPort p).since.isSome = true →
    Gives (.asrcLocked t p) s (fun s' => s'.asrc p = 2 ∧ ((s'.aPort p).runs.head?.map Stretch.mode) = some .live ∧
      (s'.aPort p).smps = (m.aPort p).smps ∧ s' = { m with live := s'.live, audio := s'.audio })) ∧
  (∀ (t : Nat) (p : Fin 16) (s m : State), m = s.begin t → s.aLive p = true → (s.aPort p).unused = false →
    (s.aPort p).smps.all (fun a => decide (a.at_ ≤ m.fifoAt + tickUnit)) = true → Gives (.audioUnderrun t p) s (fun s' =>
      s'.asrc p = 3 ∧ s'.aHeld p = true ∧ (s'.aPort p).hold = true ∧ (s'.aPort p).smps = (m.aPort p).smps ∧
      s'.lv (0x7100 + p) 0xE = (m.inc (0x7100 + p) 0xE).lv (0x7100 + p) 0xE ∧
      ((s.aPort p).eventAt = none → countOf s' (src 17 p) = satAdd 16 (countOf m (src 17 p)) 1) ∧
      s' = { m with out := s'.out, live := s'.live, sys := s'.sys, flt := s'.flt, audio := s'.audio, pair := s'.pair, mem := s'.mem, flue := s'.flue })) ∧
  (∀ (t : Nat) (p : Fin 16) (s m : State), m = s.begin t → s.aLive p = true →
    (usCtr 1000 * 65536 : Nat) < m.fill p * m.inputPeriod p ∨
      (∃ l, s.audio.lead.get none (s.groupOf p) = some l ∧ l ≠ p ∧ 32 * 65536 < (m.fill p - m.fill l).natAbs) →
    Gives (.audioOverrun t p) s (fun s' => s'.asrc p = 3 ∧ s'.aHeld p = true ∧ (s'.aPort p).hold = false ∧
    s'.lv (0x7100 + p) 0xF = (m.inc (0x7100 + p) 0xF).lv (0x7100 + p) 0xF ∧
    s' = { m with out := s'.out, live := s'.live, sys := s'.sys, flt := s'.flt, audio := s'.audio, pair := s'.pair, mem := s'.mem, flue := s'.flue })) ∧
  (∀ (t : Nat) (p : Fin 16) (r : Stretch) (s m : State), m = s.begin t → s.aPortOn p = true → (s.aPort p).hold = true →
    (s.aPort p).runs.head? = some r → r.mode = .held → r.from_ + usCtr (1000 * s.lv (0x7100 + p) 9) ≤ m.fifoAt + tickUnit →
    Gives (.underrunHoldEnd t p) s (fun s' => ((s'.aPort p).runs.head?.map Stretch.mode) = some .fade ∧
      ((s'.aPort p).runs.head?.map Stretch.from_) = some m.fifoAt ∧ s' = { m with audio := s'.audio })) ∧
  (∀ (t : Nat) (p : Fin 16) (s m : State), m = s.begin t → s.aPortOn p = true → s.aHeld p = true → (s.aPort p).hold = true →
    (s.aPort p).smps.any (fun a => decide (m.fifoAt + tickUnit < a.at_)) = true → Gives (.audioResume t p) s (fun s' =>
      ((s'.aPort p).runs.head?.map Stretch.mode) = some .rise ∧ (s'.aPort p).hold = false ∧ s' = { m with audio := s'.audio }))) ∧
  (∀ (t : Nat) (a : Fin 32) (k : Int) (s m : State), m = s.begin t → s.sys.boot ≠ .off → s.sys.mode = .lit → entryOn s.comm (4096 + a) = true →
    s.audio.next.get none a ≠ none → m.audioClock.audio.next.get none a = some k →
    m.audioClock.sampleMono (k + packetSamples s.comm a) + usCtr 20 ≤ (m.mono + tickUnit : Int) → Gives (.audioPacketRelease t a) s (fun s' =>
      s'.audio.next.get none a = some (k + packetSamples s.comm a) ∧
      (∃ p, (s'.ent (4096 + a)).queue = (m.ent (4096 + a)).queue ++ [p] ∧ p.ts = unsigned 32 k ∧ p.entry = 4096 + a.val ∧ p.size = p.data.length ∧
        p.seq = (m.ent (4096 + a)).nextSeq.getD (txCfg m.comm (4096 + a)).seqInit ∧ p.release = m.mono) ∧
      (s.lv (0x7120 + a) 6 = 1 → s'.lv (0x7120 + a) 8 = 3) ∧
      (∀ e, e ≠ 4096 + a.val → s'.ent e = m.ent e) ∧ s' = { m with live := s'.live, outp := s'.outp, audio := s'.audio }))

/-! ## The chimney and Flue links -/

/-- R236, R238: training with no usable lane is retried after 500 ms; trained lanes, the two lowest active and the third the spare,
await LINK_HOLD, or stay in 0x05 for an excess module; after LINK_HOLD the link is admitted with the capacity of its active lanes.
R239: an active lane above LANE_SER_LIMIT, and one lost, moves to the spare, which then is none; without a spare the link runs on the
lane left.
R240, R175: a link declared down has no lane, no neighbour and no capacity, and is counted; the sixteenth uncorrectable codeword in a
row takes it down, one on an Ethernet port is an event. -/
def Obligations.FlueLinksUpAndDown : Prop :=
  ((∀ (t lanes d : Nat) (p : Fin 3) (peer : LinkPeer) (s m : State), m = s.begin t → s.flueServes p = true → s.linkUp p = false →
    (s.link p).trainedAt = none →
    ((List.range 3).filter (fun l => lanes.testBit l && !(s.link p).retired.testBit l) = [] →
      Gives (.flueTrainingDone t p lanes peer d) s (fun s' => s'.linkState p = 2 ∧ (s'.link p).retryAt = some (m.now + tuMs 500) ∧
        (s'.link p).trainedAt = none ∧ presentIn s' (src 4 p) (domFlue p) = true)) ∧
    (∀ (a : Nat) (ls : List Nat), (List.range 3).filter (fun l => lanes.testBit l && !(s.link p).retired.testBit l) = a :: ls →
      Gives (.flueTrainingDone t p lanes peer d) s (fun s' =>
        s'.linkState p = (if peer.excess = true ∨ peer.serial = s.serial then 5 else 2) ∧ (s'.link p).trainedAt = some m.now ∧
        (s'.link p).active = ((a :: ls).take 2).foldl (fun a l => a + 2 ^ l) 0 ∧ (s'.link p).spare = (ls.tail.head?).getD 3 ∧
        s'.lv (0x8110 + p) 6 = d ∧ s'.lv (0x8110 + p) 4 = (if peer.id < 1024 then peer.id else 0xFFFF) ∧
        s'.lv (0x8110 + p) 5 = peer.port ∧ presentIn s' (src 4 p) (domFlue p) = false))) ∧
  (∀ (t at_ : Nat) (p : Fin 3) (s m : State), m = s.begin t → s.flueServes p = true → (s.link p).retryAt = some at_ → at_ ≤ m.now →
    Gives (.flueTrainingRetry t p) s (fun s' => s'.link p = { m.link p with retryAt := none } ∧ s'.linkState p = 2 ∧
      ObjectsBut [key (0x8110 + p) 2] m s' ∧ s' = { m with live := s'.live, flue := s'.flue })) ∧
  (∀ (t at_ : Nat) (p : Fin 3) (s m : State), m = s.begin t → s.flueServes p = true → (s.link p).trainedAt = some at_ →
    (s.link p).admitted = false → s.linkState p = 2 → at_ + tuMs (s.lv 0x8100 0xA) ≤ m.now → Gives (.flueLinkAdmit t p) s (fun s' =>
      s'.link p = { m.link p with admitted := true, tx := (s'.link p).tx, txAt := (s'.link p).txAt } ∧
      s'.linkState p = (if laneCount (s.link p).active = 1 then 4 else 3) ∧
      s'.lv (0x8110 + p) 0xE = 100000 * laneCount (s.link p).active ∧ s'.comm = m.comm ∧ s'.pipe = m.pipe))) ∧
  ((∀ (t ser : Nat) (p lane : Fin 3) (s m : State), m = s.begin t → s.sys.boot ≠ .off → s.linkUp p = true →
    (s.lv (0x8110 + p) 8 < ser → (s.link p).active.testBit lane = true → (s.link p).spare ≠ 3 → Gives (.laneSerExceeded t p lane ser) s (fun s' =>
      (s'.link p).active = setBit (setBit (m.link p).active lane false) (m.link p).spare true ∧ (s'.link p).spare = 3 ∧
      s'.lv (0x8110 + p) 0xA = (m.inc (0x8110 + p) 0xA).lv (0x8110 + p) 0xA ∧ (s'.link p).delays = [] ∧
      countOf s' (src 4 (6 + p)) = satAdd 16 (countOf m (src 4 (6 + p))) 1 ∧
      s' = { m with out := s'.out, live := s'.live, sys := s'.sys, flt := s'.flt, flue := s'.flue, pair := s'.pair, mem := s'.mem })) ∧
    (ser ≤ s.lv (0x8110 + p) 8 → Gives (.laneSerExceeded t p lane ser) s (fun s' =>
      ObjectsBut [key (0x8110 + p) 7] m s' ∧ s' = { m with live := s'.live }))) ∧
  (∀ (t : Nat) (p lane : Fin 3) (s m : State), m = s.begin t → s.sys.boot ≠ .off → s.linkUp p = true →
    ((s.link p).spare = lane → Gives (.laneLost t p lane) s (fun s' =>
      s'.link p = { m.link p with spare := 3 } ∧ s' = { m with live := s'.live, flue := s'.flue })) ∧
    ((s.link p).spare ≠ lane → (s.link p).active.testBit lane = true →
      ((s.link p).spare ≠ 3 → Gives (.laneLost t p lane) s (fun s' =>
        (s'.link p).active = setBit (setBit (m.link p).active lane false) (m.link p).spare true ∧ (s'.link p).spare = 3 ∧
        countOf s' (src 4 (6 + p)) = satAdd 16 (countOf m (src 4 (6 + p))) 1)) ∧
      ((s.link p).spare = 3 → setBit (s.link p).active lane false ≠ 0 → Gives (.laneLost t p lane) s (fun s' =>
        (s'.link p).active = setBit (m.link p).active lane false ∧
        s'.lv (0x8110 + p) 0xE = 100000 * laneCount (setBit (m.link p).active lane false) ∧
        countOf s' (src 4 (6 + p)) = satAdd 16 (countOf m (src 4 (6 + p))) 1))))) ∧
  ((∀ (t : Nat) (p : Fin 3) (s m : State), m = s.begin t → s.sys.boot ≠ .off → (s.link p).trainedAt.isSome = true → Gives (.flueLinkDown t p) s (fun s' =>
    s'.link p = { ({} : Link) with retired := (m.link p).retired } ∧ s'.linkUp p = false ∧ s'.lv (0x8110 + p) 4 = 0xFFFF ∧
    s'.lv (0x8110 + p) 5 = 0xFF ∧ s'.lv (0x8110 + p) 0xE = 0 ∧
    (s.linkUp p = true → countOf s' (src 4 (3 + p)) = satAdd 16 (countOf m (src 4 (3 + p))) 1 ∧
      s'.lv (0x8110 + p) 0xD = (m.inc (0x8110 + p) 0xD).lv (0x8110 + p) 0xD) ∧ s'.comm = m.comm ∧ s'.pipe = m.pipe)) ∧
  (∀ (t : Nat) (p : Fin 3) (s m : State), m = s.begin t → s.sys.boot ≠ .off → (s.link p).trainedAt.isSome = true →
    ((s.link p).badRun < 15 → Gives (.uncorrectableFecCodeword t (.flue p)) s (fun s' =>
      s'.live = (m.inc (0x8110 + p) 0xC).live ∧ s'.link p = { m.link p with badRun := (m.link p).badRun + 1 } ∧
      s' = { m with live := s'.live, flue := s'.flue })) ∧
    (15 ≤ (s.link p).badRun → Gives (.uncorrectableFecCodeword t (.flue p)) s (fun s' =>
      s'.link p = { ({} : Link) with retired := (m.link p).retired, signal := true } ∧ s'.linkUp p = false))) ∧
  (∀ (t : Nat) (p : Fin 10) (s m : State), m = s.begin t → s.portRuns p = true → (s.ethPort p).link = true →
    Gives (.uncorrectableFecCodeword t (.eth p)) s (fun s' => Occurs (src (portGroup p) 11) m s' ∧
      s'.lv (0x6000 + p) 0x12 = (m.inc (0x6000 + p) 0x12).lv (0x6000 + p) 0x12)))

/-- R249, R250, R251: a numbered module floods its advert every 100 ms; an advert is kept under its identity, and a second serial number
for it makes it a duplicate; an enumeration pass numbers a module that is not, or leaves it excess where no identity remains. -/
def Obligations.AdvertsAndEnumeration : Prop :=
  (∀ (t : Nat) (s m : State), m = s.begin t → s.isUp = true → s.flue.advertAt + tuMs 100 ≤ m.now → s.flue.dups = [] → s.myId < 1024 →
    Gives (.topologyAdvertTimer t) s (fun s' => (∀ q : Fin 3, s.linkUp q = true → Emit.flue q m.advert ∈ s'.out) ∧
      s'.flue = { m.flue with advertAt := m.now, links := s'.flue.links } ∧ s' = { m with out := s'.out, live := s'.live, flt := s'.flt, flue := s'.flue })) ∧
  (∀ (t : Nat) (p : Fin 3) (f : FlueFrame) (s m : State), m = s.begin t → s.sys.boot ≠ .off → s.linkUp p = true → f.typ = 3 → f.src < 1024 →
    f.src ≠ s.myId → f.hops = 0 ∨ (s.path f.src).port = p → Gives (.topologyAdvertRx t p f) s (fun s' =>
      s'.flue.adverts.get none f.src = some { serial := f.pay.getD 0 0, neigh := (f.pay.drop 1).take 3, cap := (f.pay.drop 4).take 3 } ∧
      (∀ b, s.flue.adverts.get none f.src = some b → b.serial ≠ f.pay.getD 0 0 → s'.flue.dups.contains f.src = true) ∧
      (s.flue.adverts.get none f.src = none → s'.flue.dups = m.flue.dups) ∧
      (∀ j, j ≠ f.src → s'.flue.adverts.get none j = m.flue.adverts.get none j) ∧ s'.comm = m.comm)) ∧
  (∀ (t : Nat) (p : Fin 3) (f : FlueFrame) (given : List Nat) (s m : State), m = s.begin t → s.sys.boot ≠ .off → s.linkUp p = true → f.typ = 0x41 →
    s.flue.excess = false → f.pay.getD 0 0 = 0 → s.flue.lastPass ≠ (f.pay.getD 1 0, f.pay.getD 2 0) → s.flue.enumSt = none → 1024 ≤ s.myId →
    s.lv 0x8100 1 ≠ 0 → given = (f.pay.drop 5).take (f.pay.getD 4 0) →
    (∀ id, pickId s.serial (f.pay.getD 3 0) ((pairsOf (f.pay.drop (6 + f.pay.getD 4 0))).take (f.pay.getD (5 + f.pay.getD 4 0) 0)) given = some id →
      Gives (.enumerationFrameRx t p f) s (fun s' => s'.myId = id ∧ s'.flue.lastPass = (f.pay.getD 1 0, f.pay.getD 2 0) ∧
        s'.flue.excess = false ∧ s'.comm = m.comm)) ∧
    (pickId s.serial (f.pay.getD 3 0) ((pairsOf (f.pay.drop (6 + f.pay.getD 4 0))).take (f.pay.getD (5 + f.pay.getD 4 0) 0)) given = none →
      Gives (.enumerationFrameRx t p f) s (fun s' => s'.flue.excess = true ∧ s'.lv 0x8100 8 = 5 ∧ s'.myId = s.myId ∧
        (∃ g : FlueFrame, Emit.flue p g ∈ s'.out ∧ g.typ = 0x41 ∧ g.pay.headD 0 = 2))))

/-! ## Memory -/

/-- R291, R293, R294: with the default masks every line of DRAM has a place of its own, and `lineAddr` names it. -/
def Obligations.AddressMapIsOneToOne : Prop :=
  (∀ a b : Nat, a < 2 ^ 36 → b < 2 ^ 36 → spotOf [] a = spotOf [] b → lineBase a = lineBase b) ∧
  (∀ a : Nat, a < 2 ^ 36 → (spotOf [] a).ch < 8 ∧ (spotOf [] a).sub < 2 ∧ (spotOf [] a).bank < 16 ∧ (spotOf [] a).row < 65536 ∧ (spotOf [] a).col < 64) ∧
  (∀ (ch : Fin 8) (sub : Fin 2) (n : Nat), n < rankLines → (spotOf [] (lineAddr [] ch sub n)).ch = ch ∧ (spotOf [] (lineAddr [] ch sub n)).sub = sub ∧
    lineIndex (lineAddr [] ch sub n) = n)

/-- R295, R298, R304: on an otherwise idle subchannel, no open row of which is due to close, a request whose bank is closed activates
its row; with its row open, a read returns the 64 bytes of its line with the line's poison and changes no byte of memory; a write stores
its line, ends its poison, and changes no other byte. An address past the DRAM that Table 12-3 lays out faults. -/
def Obligations.DramAccesses : Prop :=
  (∀ (t : Nat) (ch : Fin 8) (sub : Fin 2) (r : DramReq) (p : Spot) (s m : State), m = s.begin t → s.dramIssues ch = true → r.addr < 2 ^ 36 →
    p = spotOf s.comm r.addr → p.ch = ch → p.sub = sub → s.rankState ch = 1 → s.lv (dramIdx ch) 1 ≠ 2 → (s.dramSub ch sub).owed = 0 →
    (s.dramSub ch sub).reads = [] → (s.dramSub ch sub).writes = [] → (s.dramSub ch sub).stalled = [] → (s.dramSub ch sub).inOrder = [] →
    (s.dramSub ch sub).mode = 0 →
    (∀ e ∈ (s.dramSub ch sub).rows, ∀ o, e.2 = some o → m.now < o.openAt + Config.trasMax ∧ (o.hint = 2 → m.now < o.usedAt + 1280)) →
    ((s.dramSub ch sub).rows.get none p.bank = none → Gives (.dramCommandSlot t ch sub [r]) s (fun s' =>
      s'.out = m.out ++ [.dram ch sub (.act 0 p.bank p.row)] ∧ ((s'.dramSub ch sub).rows.get none p.bank).map DRow.row = some p.row ∧
      s'.mem.cells = m.mem.cells ∧ s'.mem.poison = m.mem.poison ∧ s' = { m with out := s'.out, mem := s'.mem })) ∧
    (∀ o, (s.dramSub ch sub).rows.get none p.bank = some o → o.row = p.row →
      (r.data = none → Gives (.dramCommandSlot t ch sub [r]) s (fun s' =>
        Emit.dramData r.addr (m.mem.readBytes (lineBase r.addr) 64) (m.mem.poison.get false (lineBase r.addr)) ∈ s'.out ∧
        (s'.dramSub ch sub).reads = [] ∧ (∀ a, s'.mem.readByte a = m.mem.readByte a) ∧ s'.mem.poison = m.mem.poison ∧
        s' = { m with out := s'.out, live := s'.live, mem := s'.mem })) ∧
      (∀ bs, r.data = some bs → bs.length = 64 → Gives (.dramCommandSlot t ch sub [r]) s (fun s' =>
        (∀ i, i < 64 → s'.mem.readByte (lineBase r.addr + i) = bs.getD i 0) ∧
        (∀ a, a < lineBase r.addr ∨ lineBase r.addr + 64 ≤ a → s'.mem.readByte a = m.mem.readByte a) ∧
        s'.mem.poison.get false (lineBase r.addr) = false ∧ (s'.dramSub ch sub).writes = [] ∧
        s' = { m with out := s'.out, live := s'.live, mem := s'.mem })))) ∧
  (∀ (t : Nat) (ch : Fin 8) (sub : Fin 2) (rs : List DramReq) (s : State), (∃ r ∈ rs, 2 ^ 36 ≤ r.addr) →
    exec (.dramCommandSlot t ch sub rs) s = .fault .noSuchAddress)

/-- The commands that carry out accesses to DRAM keep its bytes in canonical form: addresses rise, and none is listed as the value that
an unlisted address reads as. -/
def Obligations.DramBytesStayCanonical : Prop :=
  ∀ (c : Instr) (s s' : State), (∃ t ch sub rs, c = .dramCommandSlot t ch sub rs) ∨ (∃ t ch sub, c = .caParityAlert t ch sub) ∨
    (∃ t ch, c = .scrubPass t ch) ∨ (∃ t ch sub, c = .dramRefreshDue t ch sub) ∨ (∃ t ch sub r b, c = .rfmDue t ch sub r b) ∨
    (∃ t a n, c = .dramUncorrectable t a n) → s.mem.wf = true → exec c s = .next s' → s'.mem.wf = true

/-- R290, R303, R304, R311: a corrected error is counted and an event; an uncorrectable line is poisoned, and the first of the usable
rank of channels 0 and 4 retires the rank; a reader of a poisoned line spoils what it makes of it; SRAM words are counted and events. -/
def Obligations.MemoryErrors : Prop :=
  (∀ (t a : Nat) (rank : Fin 2) (dev : Fin 3) (scrub : Bool) (s m : State), m = s.begin t → s.dramAlive (spotOf s.comm a).ch = true → a < 2 ^ 36 →
    Gives (.dramCorrectedError t a rank dev scrub) s (fun s' => Occurs (dramSrc (spotOf s.comm a).ch 0) m s' ∧
      s'.lv (dramIdx (spotOf s.comm a).ch) 3 = (m.inc (dramIdx (spotOf s.comm a).ch) 3).lv (dramIdx (spotOf s.comm a).ch) 3)) ∧
  (∀ (t a access : Nat) (s m : State), m = s.begin t → s.dramAlive (spotOf s.comm a).ch = true → a < 2 ^ 36 →
    (s.rankState (spotOf s.comm a).ch ≠ 1 → Gives (.dramUncorrectable t a access) s (fun s' =>
      s'.mem.poison.get false (lineBase a) = true ∧ s'.mem.cells = m.mem.cells ∧
      s' = { m with out := s'.out, live := s'.live, flt := s'.flt, mem := s'.mem })) ∧
    (s.rankState (spotOf s.comm a).ch = 1 → access ≠ 5 → Gives (.dramUncorrectable t a access) s (fun s' =>
      s'.rankState (spotOf s.comm a).ch = 2 ∧ s'.comm = m.comm ∧ s'.clk = m.clk ∧
      countOf s' (dramSrc (spotOf s.comm a).ch 4) = satAdd 16 (countOf m (dramSrc (spotOf s.comm a).ch 4)) 1))) ∧
  (∀ (t a f j seg : Nat) (n : Fin 4096) (s m : State), m = s.begin t → s.dramAlive (spotOf s.comm a).ch = true →
    s.mem.poison.get false (lineBase a) = true → Gives (.poisonedRead t a (.slice n f j seg)) s (fun s' =>
      s'.pipe.slices = m.pipe.slices.map (fun x => if x.flow = n.val ∧ x.f = f ∧ x.j = j ∧ x.seg = seg then { x with poisoned := true } else x) ∧
      countOf s' (dramSrc (spotOf s.comm a).ch 5) = satAdd 16 (countOf m (dramSrc (spotOf s.comm a).ch 5)) 1 ∧
      countOf s' (dramSrc (spotOf s.comm a).ch 6) = satAdd 16 (countOf m (dramSrc (spotOf s.comm a).ch 6)) 1)) ∧
  (∀ (t off : Nat) (stove : Fin 2) (s m : State), m = s.begin t → s.sramOn off = true →
    Gives (.sramCorrected t stove off) s (fun s' => Occurs (src 15 (8 * stove)) m s' ∧
      s'.lv (0x8020 + stove) 1 = (m.inc (0x8020 + stove) 1).lv (0x8020 + stove) 1) ∧
    (sramRegion off ∈ [0, 2, 3, 4, 5, 8] → Gives (.sramUncorrectable t stove off .nobody) s (fun s' => Occurs (src 15 (8 * stove + 1)) m s' ∧
      s'.lv (0x8020 + stove) 2 = (m.inc (0x8020 + stove) 2).lv (0x8020 + stove) 2)) ∧
    (sramRegion off = 6 ∨ sramRegion off = 7 → Gives (.sramUncorrectable t stove off .nobody) s (fun s' =>
      countOf s' (src 15 (8 * stove + 1)) = satAdd 16 (countOf m (src 15 (8 * stove + 1))) 1 ∧
      countOf s' (src 15 (8 * stove + 2)) = satAdd 16 (countOf m (src 15 (8 * stove + 2))) 1)))

/-- R300, R301, R303, R306 to R308: scrub queues the next line's read; a CA parity alert is counted, the third within 1 ms retrains the
channel, and a channel that fails it is out of service; the band follows the hottest device; refresh owed is issued unless it is
postponed; RFM closes its row and takes the threshold from the count; a migration that has copied every line makes the spare the rank in
use. -/
def Obligations.DramUpkeep : Prop :=
  (∀ (t : Nat) (ch : Fin 8) (sub : Fin 2) (s m : State), m = s.begin t → s.dramAlive ch = true → (s.dramCh ch).scrubAt ≤ m.now → s.pwr.sag = 0 →
    sub.val = (s.dramCh ch).scrub / rankLines % 2 → (s.dramSub ch sub).stalled = [] → (s.dramSub ch sub).reads.length < 128 →
    Gives (.scrubPass t ch) s (fun s' => (∃ r : DReq, (s'.dramSub ch sub).reads = (m.dramSub ch sub).reads ++ [r] ∧ r.req.cls = 4 ∧ r.scrub.isSome = true) ∧
      (s'.dramCh ch).scrub = ((m.dramCh ch).scrub + 1) % m.scrubLines ch ∧ s'.mem.cells = m.mem.cells ∧ s' = { m with live := s'.live, mem := s'.mem })) ∧
  (∀ (t : Nat) (ch : Fin 8) (sub : Fin 2) (s m : State), m = s.begin t → s.dramIssues ch = true → Gives (.caParityAlert t ch sub) s (fun s' =>
    countOf s' (dramSrc ch 1) = satAdd 16 (countOf m (dramSrc ch 1)) 1 ∧
    s'.lv (dramIdx ch) 5 = (m.inc (dramIdx ch) 5).lv (dramIdx ch) 5 ∧
    (s'.dramCh ch).retraining = decide (2 ≤ ((m.dramCh ch).alerts.filter (fun a => decide (m.now < a + tuMs 1))).length))) ∧
  (∀ (t : Nat) (ch : Fin 8) (s m : State), m = s.begin t → s.sys.boot ≠ .off → (s.dramCh ch).retraining = true →
    Gives (.dramRetrainDone t ch true) s (fun s' => s'.dramCh ch = { m.dramCh ch with retraining := false, out := false } ∧ s' = { m with mem := s'.mem }) ∧
    Gives (.dramRetrainDone t ch false) s (fun s' => (s'.dramCh ch).retraining = false ∧ (s'.dramCh ch).out = true ∧
      presentIn s' (dramSrc ch 3) (domDram ch) = true)) ∧
  (∀ (t : Nat) (ch : Fin 8) (x : Int) (s m : State), m = s.begin t → s.dramAlive ch = true → Gives (.dramTempPoll t ch [x]) s (fun s' =>
    s'.lv (dramIdx ch) 2 = unsigned 16 x ∧ s'.lv (dramIdx ch) 1 = dramBand (m.lv (dramIdx ch) 1) x ∧
    (95 ≤ x → s'.lv (dramIdx ch) 1 = 2) ∧ presentIn s' (src 2 (24 + ch)) (domDram ch) = decide (105 ≤ x))) ∧
  (∀ (t : Nat) (ch : Fin 8) (sub : Fin 2) (s m : State), m = s.begin t → s.dramIssues ch = true → (s.dramSub ch sub).refAt ≤ m.now →
    ((s.dramSub ch sub).owed ≤ 12 → ((s.dramSub ch sub).reads ++ (s.dramSub ch sub).writes).any (fun r => decide (r.req.cls < 2)) = true →
      Gives (.dramRefreshDue t ch sub) s (fun s' => s'.dramSub ch sub =
          { m.dramSub ch sub with refAt := (m.dramSub ch sub).refAt + m.trefi ch, owed := (m.dramSub ch sub).owed + 4 } ∧ s' = { m with mem := s'.mem })) ∧
    ((s.dramSub ch sub).rows = [] → 12 < (s.dramSub ch sub).owed → s.cm 0x8000 2 = 1 → Gives (.dramRefreshDue t ch sub) s (fun s' =>
      Emit.dram ch sub (.ref 0 (m.dramSub ch sub).refBank true) ∈ s'.out ∧ (s'.dramSub ch sub).owed = (m.dramSub ch sub).owed ∧
      s' = { m with out := s'.out, mem := s'.mem }))) ∧
  (∀ (t : Nat) (ch : Fin 8) (sub rank : Fin 2) (bank : Fin 16) (s m : State), m = s.begin t → s.dramIssues ch = true →
    Config.rfmThreshold ch sub ≤ (s.dramSub ch sub).acts.get 0 (16 * rank + bank) → Gives (.rfmDue t ch sub rank bank) s (fun s' =>
      Emit.dram ch sub (.rfm rank bank) ∈ s'.out ∧ (s'.dramSub ch sub).rows.get none (16 * rank + bank) = none ∧
      (s'.dramSub ch sub).acts.get 0 (16 * rank + bank) = (m.dramSub ch sub).acts.get 0 (16 * rank + bank) - Config.rfmThreshold ch sub ∧
      s'.mem.cells = m.mem.cells ∧ s' = { m with out := s'.out, live := s'.live, mem := s'.mem })) ∧
  (∀ (t : Nat) (ch : Fin 8) (s m : State), m = s.begin t → s.sys.boot ≠ .off → s.rankState ch = 2 → rankLines ≤ (s.dramSub ch 0).copied →
    rankLines ≤ (s.dramSub ch 1).copied → Gives (.rankMigrationDone t ch) s (fun s' => s'.rankState ch = 3 ∧ s'.lv (dramIdx ch) 8 = 1024 ∧
      ObjectsBut [key (dramIdx ch) 7, key (dramIdx ch) 8] m s' ∧ s' = { m with live := s'.live }))

/-! ## Faults -/

/-- R315, R318, R324: a source other than a condition stays present for 1 ms; the recovery of a domain whose quiet period has passed
ends, counted for its class, and with the module's the module returns to LIT or LAID from DAMPED; an interrupt arbitration won sends the
waiting interrupt of the highest class, of the lowest group among those, and one lost changes nothing.
R24, R26, R315, R331: a crossing FIFO's error, and the checker of a block that has no step of its own, occur at their sources of Table
13-1 where the block's clock domain runs; a gated domain reports nothing. -/
def Obligations.FaultsEndAndCheckersReport : Prop :=
  ((∀ (t : Nat) (s m : State), m = s.begin t → s.sys.boot ≠ .off → Gives (.presentPulseEnd t) s (fun s' =>
    s'.flt.present = m.flt.present.filter (fun p => match p.till with | some u => decide (m.now < u) | none => true) ∧
    s'.flt.counts = m.flt.counts ∧ s' = { m with flt := s'.flt })) ∧
  (∀ (t at_ : Nat) (dom : Fin 65536) (r : Recovery) (s m : State), m = s.begin t → s.sys.boot ≠ .off → s.recoveryOf dom = some r →
    r.quietEnd = some at_ → at_ ≤ m.now → r.host = false →
    (dom.val ≠ domModule → dom.val / 0x1000 ≠ 1 → dom.val / 0x1000 ≠ 2 → r.dom = dom → Gives (.quietPeriodEnd t dom) s (fun s' =>
      s'.recoveryOf dom = none ∧
      (r.switchOver = false → s'.lv (0x9100 + r.cls) 5 = (m.inc (0x9100 + r.cls) 5).lv (0x9100 + r.cls) 5) ∧
      s' = { m with out := s'.out, live := s'.live, flt := s'.flt })) ∧
    (dom.val = domModule → r.dom = domModule → s.sys.mode = .damped → s.sys.dampedFrom = .lit → s.sys.stopInDamped = false →
      Gives (.quietPeriodEnd t dom) s (fun s' => s'.sys.mode = .lit ∧ s'.flt.module = none ∧ s'.comm = m.comm ∧ s'.clk = m.clk))) ∧
  (∀ (t : Nat) (ws : List Nat) (s m : State), m = s.begin t → s.sys.boot ≠ .off → s.i3cLive = true → s.dynAddr ≠ 0 → s.gran.intOn = true →
    ws = s.flt.ibiWait.map (fun e => e.2 % 256) ++ (if s.gran.gaspIbi then [0x81] else []) → ws ≠ [] → Gives (.ibiArbitration t true) s (fun s' =>
      (∃ w ∈ ws, s'.out = m.out ++ [.ibi w] ∧ (∀ v ∈ ws, v / 32 < w / 32 ∨ (v / 32 = w / 32 ∧ w % 32 ≤ v % 32)) ∧
        s'.flt.ibiOut.get false (w % 32) = true) ∧
      s' = { m with out := s'.out, flt := s'.flt, gran := s'.gran })) ∧
  (∀ (t : Nat) (s m : State), m = s.begin t → s.sys.boot ≠ .off → Gives (.ibiArbitration t false) s (fun s' => s' = m))) ∧
  (∀ (t : Nat) (s m : State), m = s.begin t →
    (∀ x, s.domainRuns (crossingDomain x) = false → Gives (.crossingFifoError t x) s (fun s' => s' = m)) ∧
    (∀ b, s.domainRuns (blockDomain b) = false → Gives (.blockCheckerEvent t b) s (fun s' => s' = m)) ∧
    (∀ n, s.domainRuns (crossingDomain (.eth n)) = true → Gives (.crossingFifoError t (.eth n)) s (Occurs (src (5 + n) 12) m)) ∧
    (∀ p, s.domainRuns (crossingDomain (.flue p)) = true → Gives (.crossingFifoError t (.flue p)) s (Occurs (src 4 (9 + p)) m)) ∧
    (∀ p, s.domainRuns (crossingDomain (.hdmi p)) = true → Gives (.crossingFifoError t (.hdmi p)) s (Occurs (src 7 (28 + p)) m)) ∧
    (s.domainRuns (crossingDomain .i3c) = true → Gives (.crossingFifoError t .i3c) s (Occurs (src 19 4) m)) ∧
    (∀ p, s.domainRuns (crossingDomain (.i2s p)) = true → Gives (.crossingFifoError t (.i2s p)) s (Occurs (src 17 (16 + p)) m)) ∧
    (s.domainRuns (crossingDomain .refPps) = true → Gives (.crossingFifoError t .refPps) s (Occurs (src 3 15) m)) ∧
    (∀ st, s.domainRuns (blockDomain (.rateCouncil st)) = true → Gives (.blockCheckerEvent t (.rateCouncil st)) s (Occurs (src (9 + st) 20) m)) ∧
    (∀ st, s.domainRuns (blockDomain (.dieBridge st)) = true → Gives (.blockCheckerEvent t (.dieBridge st)) s (Occurs (src (9 + st) 21) m)) ∧
    (∀ st, s.domainRuns (blockDomain (.standInBuilder st)) = true → Gives (.blockCheckerEvent t (.standInBuilder st)) s (Occurs (src (9 + st) 22) m)) ∧
    (s.domainRuns (blockDomain .shaper) = true → Gives (.blockCheckerEvent t .shaper) s (Occurs (src 12 3) m)) ∧
    (s.domainRuns (blockDomain .audio) = true → Gives (.blockCheckerEvent t .audio) s (Occurs (src 17 24) m)) ∧
    (∀ n, s.domainRuns (blockDomain (.housekeeping n)) = true → Gives (.blockCheckerEvent t (.housekeeping n)) s (Occurs (src 19 (1 + n)) m)) ∧
    (s.domainRuns (blockDomain .tables) = true → Gives (.blockCheckerEvent t .tables) s (Occurs (src 19 3) m)) ∧
    (s.domainRuns (blockDomain .collector) = true → Gives (.blockCheckerEvent t .collector) s (Occurs (src 19 9) m)))

/-! ## Keys, touch and LEDs -/

/-- R360, R361: a press shows in KEY_STATE; a release before LONG_TIME is a short press, a key held so long a long one, each an event
and counted in its entry where the key is enabled; an LED's phase ends with the other one.
R362 to R365: the interrupt line, or the poll once its interval has passed, starts a read of the report; a device that NACKs stops
answering, and is tried again every 1 s; a new contact lies at its mapped position; a contact down for LONG_TIME inside its hold zone
fires it, once. -/
def Obligations.KeysLedsAndTouch : Prop :=
  ((∀ (t : Nat) (k : Fin 8) (s m : State), m = s.begin t → s.operOn = true → (s.oper.keys.get {} k).pressed = none →
    Gives (.keyDebouncedChange t k true) s (fun s' => s'.oper.keys.get {} k = { pressed := some m.now } ∧
      s'.lv 0xB000 4 = setBit (m.lv 0xB000 4) k true ∧ ObjectsBut [key 0xB000 4] m s' ∧ s' = { m with live := s'.live, oper := s'.oper })) ∧
  (∀ (t at_ : Nat) (k : Fin 8) (s m : State), m = s.begin t → s.operOn = true → (s.oper.keys.get {} k).pressed = some at_ →
    (s.oper.keys.get {} k).long = false → Gives (.keyDebouncedChange t k false) s (fun s' =>
      s'.oper.keys.get {} k = {} ∧ s'.lv 0xB000 4 = setBit (m.lv 0xB000 4) k false ∧
      (m.now < at_ + tuMs (s.lv 0xB000 3) → (s.lv 0xB000 1).testBit k = true →
        countOf s' (src 18 k) = satAdd 16 (countOf m (src 18 k)) 1 ∧ s'.lvb 0xB000 6 = bumpU32 (m.lvb 0xB000 6) (2 * k)) ∧
      ((s.lv 0xB000 1).testBit k = false → s' = { m with live := s'.live, oper := s'.oper }))) ∧
  (∀ (t at_ : Nat) (k : Fin 8) (s m : State), m = s.begin t → s.operOn = true → (s.oper.keys.get {} k).pressed = some at_ →
    (s.oper.keys.get {} k).long = false → at_ + tuMs (s.lv 0xB000 3) ≤ m.now → (s.lv 0xB000 1).testBit k = true →
    Gives (.keyLongPress t k) s (fun s' => s'.oper.keys.get {} k = { pressed := some at_, long := true } ∧
      countOf s' (src 18 k) = satAdd 16 (countOf m (src 18 k)) 1 ∧ s'.lvb 0xB000 6 = bumpU32 (m.lvb 0xB000 6) (2 * k + 1))) ∧
  (∀ (t on off : Nat) (n : Fin 4) (b : Bool) (at_ : Nat) (s m : State), m = s.begin t → s.running = true → s.ledPhases n = some (on, off) →
    on ≠ 0 → off ≠ 0 → s.oper.leds.get (true, 0) n = (b, at_) → at_ + (if b then on else off) ≤ m.now → Gives (.ledBlinkTimer t n) s (fun s' =>
      s'.oper.leds.get (true, 0) n = (!b, m.now) ∧ s' = { m with oper := s'.oper }))) ∧
  ((∀ (t : Nat) (s m : State), m = s.begin t → s.running = true → s.lv 0xB002 9 = 2 →
    (s.cm 0xB002 5 = 0 → Gives (.touchInt t) s (fun s' => s'.out = m.out ++ [.touch (leBytes 1 (m.cm 0xB002 2))] ∧
      s' = { m with out := s'.out, oper := { m.oper with reading := true } }) ∧ Gives (.touchPoll t) s (fun s' => s' = m)) ∧
    (s.cm 0xB002 5 ≠ 0 → (s.oper.polledAt + tuMs (s.cm 0xB002 5) ≤ m.now → Gives (.touchPoll t) s (fun s' =>
      s'.out = m.out ++ [.touch (leBytes 1 (m.cm 0xB002 2))] ∧
      s' = { m with out := s'.out, oper := { m.oper with reading := true, polledAt := m.now } })) ∧ Gives (.touchInt t) s (fun s' => s' = m))) ∧
  (∀ (t : Nat) (s m : State), m = s.begin t → s.sys.boot ≠ .off → s.oper.reading = true → s.lv 0xB002 9 = 2 →
    Gives (.touchReportRead t .nack) s (fun s' => s'.lv 0xB002 9 = 3 ∧ s'.lv 0xB002 0xB = 0 ∧ s'.oper.contacts = [] ∧
      s'.oper.reading = false ∧ s'.oper.retryAt = m.now + tuSec 1 ∧ presentIn s' (src 18 8) domModule = true) ∧
    (s.oper.fails < 2 → Gives (.touchReportRead t .failed) s (fun s' =>
      s'.oper = { m.oper with reading := false, fails := m.oper.fails + 1 } ∧ s'.live = (m.inc 0xB002 0xD).live ∧
      s' = { m with live := s'.live, oper := s'.oper })) ∧
    (∀ (d : TouchDev) (len : Nat) (p : TouchPoint), s.oper.dev = some d → len ≤ d.maxLen → s.oper.contacts = [] → p.tip = true →
      Gives (.touchReportRead t (.report len [p])) s (fun s' => s'.lv 0xB002 0xB = 1 ∧ s'.oper.fails = 0 ∧
        s'.lv 0xB002 0xC = (m.inc 0xB002 0xC).lv 0xB002 0xC ∧
        s'.oper.contacts.map (fun k => (k.id, k.x, k.y)) = [(p.id, (m.mapTouch d p.x p.y).1, (m.mapTouch d p.x p.y).2)]))) ∧
  (∀ (t c z : Nat) (k : Contact) (b : List Byte) (s m : State), m = s.begin t → s.sys.boot ≠ .off →
    s.oper.contacts.find? (fun k => decide (k.id = c)) = some k → k.zone = some (z, b) → zoneTrigger b % 4 = 1 → k.inside = true → k.fired = false →
    k.downAt + tuMs (s.lv 0xB000 3) ≤ m.now → s.cm 0xB002 6 < 16 → Gives (.touchHold t c) s (fun s' =>
      s'.oper.contacts = m.oper.contacts.map (fun q => if q.id = c then { q with fired := true } else q) ∧
      s'.lvb (0xB010 + s.cm 0xB002 6) 2 = bumpU32 (m.lvb (0xB010 + s.cm 0xB002 6) 2) z)) ∧
  (∀ (t : Nat) (s m : State), m = s.begin t → s.running = true → s.lv 0xB002 9 = 3 → s.oper.retryAt ≤ m.now → s.cm 0xB002 1 ≠ 0 →
    Gives (.touchRetry t none) s (fun s' => s'.lv 0xB002 9 = 3 ∧ s'.oper.dev = none ∧ s'.oper.retryAt = m.now + tuSec 1 ∧ s'.comm = m.comm) ∧
    (∀ d : TouchDev, d.supported = true → Gives (.touchRetry t (some d)) s (fun s' => s'.lv 0xB002 9 = 2 ∧ s'.oper.dev = some d ∧
      s'.lv 0xB002 0xA = d.vidPid ∧ presentIn s' (src 18 8) domModule = false)) ∧
    (∀ d : TouchDev, d.supported = false → Gives (.touchRetry t (some d)) s (fun s' => s'.lv 0xB002 9 = 4 ∧ s'.oper.dev = none))))

/-! ## The I3C target, what times out, and the test port -/

/-- R391, Table 16-9: the common command codes, to a target that works; a direct one reaches it at its dynamic address, and is NACKed in
BANKED. Values out of range are ignored.
R351, R392 to R394: a private read takes the response that waits, and is NACKed and counted without one; in BANKED every header is
NACKed; an HDR-DDR read pads an odd response; Hot-Join is asked every 100 ms without an address. -/
def Obligations.I3cTarget : Prop :=
  (∀ (t : Nat) (s m : State), m = s.begin t → s.i3cLive = true →
    (∀ a : Fin 128, s.dynAddr = 0 → 0x08 ≤ a.val → a.val ≤ 0x7D → Gives (.entdaa t a) s (fun s' => s'.dynAddr = a ∧
      ObjectsBut [key 0x1110 1] m s' ∧ s' = { m with live := s'.live, gran := { m.gran with hdr := false } })) ∧
    (∀ a : Fin 128, s.dynAddr ≠ 0 → Gives (.entdaa t a) s (fun s' => s' = { m with gran := { m.gran with hdr := false } })) ∧
    Gives (.rstdaa t) s (fun s' => s'.dynAddr = 0 ∧ s'.gran = { m.gran with hdr := false, hotJoinAt := m.now + tuMs 10 } ∧
      s' = { m with live := s'.live, gran := s'.gran }) ∧
    (∀ i h : Bool, Gives (.enec t i h) s (fun s' =>
      s' = { m with gran := { m.gran with hdr := false, intOn := m.gran.intOn || i, hjOn := m.gran.hjOn || h } })) ∧
    (∀ i h : Bool, Gives (.disec t i h) s (fun s' =>
      s' = { m with gran := { m.gran with hdr := false, intOn := m.gran.intOn && !i, hjOn := m.gran.hjOn && !h } })) ∧
    (∀ n, 16 ≤ n → n ≤ 4110 → Gives (.setmwl t n) s (fun s' => s'.lv 0x1110 6 = n ∧ ObjectsBut [key 0x1110 6] m s')) ∧
    (∀ n, n < 16 ∨ 4110 < n → Gives (.setmwl t n) s (fun s' => s'.live = m.live)) ∧
    (∀ n, 16 ≤ n → n ≤ 4110 → Gives (.setmrl t n 1) s (fun s' => s'.lv 0x1110 7 = n ∧ s'.gran.payload = 1 ∧ ObjectsBut [key 0x1110 7] m s')) ∧
    Gives (.enthdr0 t) s (fun s' => s' = { m with gran := { m.gran with hdr := true } }) ∧
    Gives (.unsupportedCcc t false) s (fun s' => s' = { m with gran := { m.gran with hdr := false } }) ∧
    (s.dynAddr ≠ 0 →
      (∀ a : Fin 128, 0x08 ≤ a.val → a.val ≤ 0x7D → Gives (.setnewda t a) s (fun s' => s'.dynAddr = a ∧ ObjectsBut [key 0x1110 1] m s')) ∧
      Gives (.getmwl t) s (fun s' => s'.out = m.out ++ [.i3c (beBytes 2 (m.lv 0x1110 6))] ∧ s'.live = m.live) ∧
      Gives (.getmrl t) s (fun s' => s'.out = m.out ++ [.i3c (beBytes 2 (m.lv 0x1110 7) ++ beBytes 1 m.gran.payload)] ∧ s'.live = m.live) ∧
      Gives (.getpid t) s (fun s' => s'.out = m.out ++ [.i3c (beBytes 6 m.pid)] ∧ s'.live = m.live) ∧
      Gives (.getbcr t) s (fun s' => s'.out = m.out ++ [.i3c (beBytes 1 (m.lv 0x1110 3))] ∧ s'.live = m.live) ∧
      Gives (.getdcr t) s (fun s' => s'.out = m.out ++ [.i3c (beBytes 1 (m.lv 0x1110 4))] ∧ s'.live = m.live) ∧
      Gives (.getstatus t) s (fun s' => s'.out = m.out ++ [.i3c (beBytes 2 (min 15 m.ibiGroups + (if m.gran.protoErr then 32 else 0)))] ∧
        s'.gran.protoErr = false ∧ s'.live = m.live) ∧
      Gives (.unsupportedCcc t true) s (fun s' => s'.out = m.out ++ [.nack] ∧ s'.live = m.live))) ∧
  ((∀ (t : Nat) (s m : State), m = s.begin t → s.i3cLive = true → s.dynAddr ≠ 0 →
    (∀ b, s.gran.resp = some b → Gives (.i3cPrivateRead t) s (fun s' => s'.out = m.out ++ [.i3c b] ∧
      s' = { m with out := s'.out, gran := { m.gran with hdr := false, resp := none, respIbi := false } })) ∧
    (s.gran.resp = none → Gives (.i3cPrivateRead t) s (fun s' => s'.out = m.out ++ [.nack] ∧ s'.live = (m.inc 0x1110 9).live)) ∧
    (∀ b, s.gran.hdr = true → s.gran.resp = some b → Gives (.hdrDdrRead t false) s (fun s' =>
      s'.out = m.out ++ [.i3c (if b.length % 2 = 1 then b ++ [0] else b)] ∧ s' = { m with out := s'.out, gran := { m.gran with resp := none, respIbi := false } })) ∧
    (s.gran.hdr = true → Gives (.hdrDdrRead t true) s (fun s' =>
      s' = { m.inc 0x1110 0xA with gran := { m.gran with protoErr := true } }))) ∧
  (∀ (t : Nat) (s m : State), m = s.begin t → s.isUp = true → s.sys.mode = .banked → s.dynAddr ≠ 0 → s.sys.rstLow = false →
    Gives (.i3cPrivateRead t) s (fun s' => s' = { m with out := m.out ++ [.nack] }) ∧ Gives (.getpid t) s (fun s' => s' = { m with out := m.out ++ [.nack] })) ∧
  (∀ (t : Nat) (s m : State), m = s.begin t → s.i3cLive = true → s.dynAddr = 0 → s.lv 0x1110 5 = 1 → s.gran.hjOn = true →
    s.gran.hotJoinAt ≤ m.now → Gives (.hotJoinRequest t) s (fun s' => s'.out = m.out ++ [.hotJoin] ∧
      s' = { m with out := s'.out, gran := { m.gran with hotJoinAt := m.now + tuMs 100 } })))

/-- R375, R385, R390, R396, R404: an idle transfer is discarded; forwarded requests unanswered for FWD_TIMEOUT are answered 0x0E; a
lock-out ends; an idle session ends; an answer from another module goes to the session it came from; a firmware image that passes its
check runs. -/
def Obligations.SessionsTimeOut : Prop :=
  (∀ (t : Nat) (p : Path) (s m : State), m = s.begin t → s.sys.boot ≠ .off → m.overdue (s.sess (whoOf p)) = true → Gives (.segTimeout t p) s (fun s' =>
    (s'.sess (whoOf p)).xfer = none ∧ (s'.sess (whoOf p)).expired = true ∧ (∀ w, w ≠ whoOf p → s'.sess w = m.sess w) ∧
    s' = { m with live := s'.live, gran := s'.gran })) ∧
  (∀ (t : Nat) (s m : State), m = s.begin t → s.isUp = true → Gives (.fwdTimeout t) s (fun s' =>
    s'.gran.fwd = m.gran.fwd.filter (fun e => !(decide (e.at_ + tuMs (m.lv 0x1100 2) ≤ m.now))) ∧
    (∀ e ∈ m.gran.fwd, e.at_ + tuMs (m.lv 0x1100 2) ≤ m.now → Emit.answer e.req.path (m.ansBytes e.op e.idx e.sub e.req (.abort 0xE)) ∈ s'.out) ∧
    AnswerFrame m s')) ∧
  (∀ (t u : Nat) (p : Path) (s m : State), m = s.begin t → s.sys.boot ≠ .off → (s.sess (whoOf p)).lockUntil = some u → u ≤ m.now →
    Gives (.pinLockoutEnd t p) s (fun s' => s'.sess (whoOf p) = { m.sess (whoOf p) with lockUntil := none } ∧ s' = { m with gran := s'.gran })) ∧
  (∀ (t n : Nat) (p : Path) (x : Sess) (s m : State), m = s.begin t → s.sys.boot ≠ .off → s.findSess (whoOf p) = some x →
    m.idleLimit (whoOf p) = some n → x.seen + n ≤ m.now → Gives (.sessionIdleTimeout t p) s (fun s' =>
      s'.findSess (whoOf p) = none ∧ (∀ w, w ≠ whoOf p → s'.findSess w = m.findSess w) ∧ s' = { m with live := s'.live, gran := s'.gran })) ∧
  (∀ (t : Nat) (p : Fin 3) (f : FlueFrame) (e : Fwd) (s m : State), m = s.begin t → s.serving = true → s.linkUp p = true → f.typ = 0x40 →
    wholeAnswer (f.pay.map (BitVec.ofNat 8)) = true → s.isMine f = true ∨ f.dest = 0xFFFE → m.fwdOf p f.src (f.pay.map (BitVec.ofNat 8)) = some e →
    Gives (.forwardedResponseRx t p f) s (fun s' => s'.gran.fwd = m.gran.fwd.erase e ∧
      (∃ b, Emit.answer e.req.path b ∈ s'.out ∧ b.take 8 = (f.pay.map (BitVec.ofNat 8)).take 8) ∧
      AnswerFrame m s')) ∧
  (∀ (t : Nat) (s m : State), m = s.begin t → s.isUp = true → s.lv 0x1F11 1 = 2 →
    Gives (.firmwareCheckDone t) s (fun s' =>
      (s.checkImage s.sys.image = 3 → s'.sys = { m.sys with fwRuns := true } ∧ s'.lv 0x1F11 1 = 3 ∧
        s'.lv 0x1000 6 = fieldAt m.sys.image 19 16 ∧ s' = { m with live := s'.live, sys := s'.sys }) ∧
      (s.checkImage s.sys.image ≠ 3 → s'.sys = { m.sys with image := [] } ∧
        s'.lv 0x1F11 1 = m.checkImage m.sys.image ∧ countOf s' (src 19 0) = satAdd 16 (countOf m (src 19 0)) 1)))

/-- R429: the test port works while TEST_RST_N is high, which is a condition of group 19; it is never in boundary scan but at level 3 in
KINDLING. -/
def Obligations.TestPort : Prop :=
  (∀ (t : Nat) (high : Bool) (s m : State), m = s.begin t → s.isUp = true → Gives (.testRstNChange t high) s (fun s' =>
    s'.sys.testRstHigh = high ∧ presentIn s' (src 19 8) domModule = high ∧ (high = false → s'.sys.tapA = 0 ∧ s'.sys.tapB = 0) ∧
    s'.comm = m.comm ∧ s'.clk = m.clk)) ∧
  (∀ (t : Nat) (high : Bool) (s : State), s.sys.boot = .off → Gives (.testRstNChange t high) s (fun s' =>
    s'.sys.testRstHigh = high ∧ s' = s'.unpowered)) ∧
  (∀ (t : Nat) (st : Fin 2) (s m : State), m = s.begin t → s.tapLive = true →
    Gives (.tapIdcode t st) s (fun s' => s'.out = m.out ++ [.tap st m.idcode] ∧ s' = { m with out := s'.out, sys := s'.sys } ∧
      (if st = 0 then s'.sys.tapA else s'.sys.tapB) = 1) ∧
    Gives (.tapBypass t st) s (fun s' => s'.out = m.out ++ [.tap st 0] ∧ s' = { m with out := s'.out, sys := s'.sys } ∧
      (if st = 0 then s'.sys.tapA else s'.sys.tapB) = 2) ∧
    Gives (.tapBoundaryScan t st) s (fun s' => s' = { m with out := s'.out, sys := s'.sys } ∧
      (if st = 0 then s'.sys.tapA else s'.sys.tapB) =
        (if s.isUp = true ∧ s.sys.mode = .kindling ∧ s.gran.sessions.any (fun x => decide (x.level = 3)) = true then 3 else 2))) ∧
  (∀ (t : Nat) (st : Fin 2) (s m : State), m = s.begin t → s.sys.boot ≠ .off → s.sys.testRstHigh = false →
    Gives (.tapIdcode t st) s (fun s' => s' = m) ∧ Gives (.tapBypass t st) s (fun s' => s' = m) ∧ Gives (.tapBoundaryScan t st) s (fun s' => s' = m))

/-! ## Granil requests -/

/-- R374, R379, R383, R388, R390, R395: what is not executed. While the module does not serve, a request leaves it unchanged; a source
that MGMT_ALLOW shuts out is counted; a frame whose length or CRC is wrong is counted and answered 0x09; a repeat of the session's last
request is answered with its last response and not executed.
R380, R381, Table 16-3: a request that fails a step is answered with that step's abort code, and has no other effect: an object that is
not defined, a level too low, a length the object does not have, a state in which it is not served. -/
def Obligations.RequestsRefusedByStep : Prop :=
  (∀ (c : Instr) (t op idx sub : Nat) (r : Req) (s m : State), Asks c t op idx sub r → m = s.begin t → s.sys.boot ≠ .off →
    (s.serving = false → Gives c s (fun s' => s' = m)) ∧
    (s.serving = true → s.pathServes r.path = true → s.foreign r = false → s.allowed r.path = false →
      Gives c s (fun s' => s' = m.inc 0x1120 7)) ∧
    (Hears s r → s.frameOk op idx sub r = false → Gives c s (fun s' => Answered s' op idx sub r (.abort 9) ∧
      s'.lv 0x1100 6 = (m.inc 0x1100 6).lv 0x1100 6 ∧ AnswerFrame m s')) ∧
    (∀ e x, Hears s r → s.frameOk op idx sub r = true → e = m.found r → (m.letIn r).2 = true → x = e.sess (whoOf r.path) →
      x.lastReq = some (r.seq, r.crc) → (∀ q, r.route = some q → q.dest ≠ 0xFFFF) → Gives c s (fun s' =>
        Emit.answer r.path x.lastResp ∈ s'.out ∧ s'.lv 0x1100 8 = (m.inc 0x1100 8).lv 0x1100 8 ∧ AnswerFrame m s'))) ∧
  (∀ (c : Instr) (t op idx sub : Nat) (r : Req) (e : State) (x : Sess) (s m : State), Asks c t op idx sub r → m = s.begin t → Heard m op idx sub r e x →
    (nameCode idx sub ≠ 0 → Gives c s (fun s' => Answered s' op idx sub r (.abort (nameCode idx sub)) ∧ AnswerFrame m s')) ∧
    (nameCode idx sub = 0 → op = 0x20 →
      (mayWrite idx sub x.level = false → Gives c s (fun s' => Answered s' op idx sub r (.abort 3) ∧ AnswerFrame m s')) ∧
      (mayWrite idx sub x.level = true → r.len ≤ 4096 →
        ((objRow idx sub).sizeOk r.data.length = false → Gives c s (fun s' => Answered s' op idx sub r (.abort 4) ∧ AnswerFrame m s')) ∧
        ((objRow idx sub).sizeOk r.data.length = true → e.writeGate (objRow idx sub) idx sub ≠ 0 →
          Gives c s (fun s' => Answered s' op idx sub r (.abort (e.writeGate (objRow idx sub) idx sub)) ∧ AnswerFrame m s')))) ∧
    (nameCode idx sub = 0 → op = 0x10 →
      (mayRead idx sub x.level = false → Gives c s (fun s' => Answered s' op idx sub r (.abort 3) ∧ AnswerFrame m s')) ∧
      (mayRead idx sub x.level = true → r.len ≤ 4096 → (e.readBytes x idx sub (r.flags.testBit 1)).length ≤ e.respLimit r.path →
        (r.data ≠ [] → Gives c s (fun s' => Answered s' op idx sub r (.abort 4) ∧ AnswerFrame m s')) ∧
        (r.data = [] → e.served idx sub false = false → Gives c s (fun s' => Answered s' op idx sub r (.abort 7) ∧ AnswerFrame m s')))))

/-- R372, R381: a READ returns the object's value; a WRITE of a staged object changes its pending copy, one of a plain object takes
effect at once, or waits for the boundary of a running channel, or of an HDMI sink with frames arriving, that it belongs to. A READ is
kept for a replay (R383). -/
def Obligations.ReadsAndWrites : Prop :=
  ∀ (t idx sub : Nat) (r : Req) (e : State) (x : Sess) (s m : State), m = s.begin t →
    (Reads m idx sub r e x → Gives (.granilRead t r idx sub) s (fun s' =>
      Answered s' 0x10 idx sub r (.ok (e.readBytes x idx sub (r.flags.testBit 1))) ∧
      (s'.sess (whoOf r.path)).lastReq = some (r.seq, r.crc) ∧ s'.comm = m.comm ∧ s'.pend = m.pend ∧
      (idx < 0x6800 → AnswerFrame m s'))) ∧
    (∀ v, Writes m idx sub r e x v → e.effectSpecial x.who idx sub v = none →
      ((objRow idx sub).acc = .rs → Gives (.granilWrite t r 0x20 idx sub) s (fun s' => Answered s' 0x20 idx sub r (.ok []) ∧
        s'.pend = objPut m.pend (key idx sub) v ∧ s'.lv 0x1F00 9 = (m.inc 0x1F00 9).lv 0x1F00 9 ∧ s'.comm = m.comm ∧
        AnswerFrame { m with pend := s'.pend } s')) ∧
      ((objRow idx sub).acc = .rw → r.path = .i3c ∨ r.path = .ddr →
        ((∀ c : Fin 16, m.atFrames c = true → waitsFor c (key idx sub) true = false) →
          (∀ p : Fin 2, idx = 0x2000 + p → (m.hdmi p).locked = false) → Gives (.granilWrite t r 0x20 idx sub) s (fun s' =>
          Answered s' 0x20 idx sub r (.ok []) ∧ objGet s'.live (key idx sub) = v ∧ ObjectsBut [key idx sub] m s' ∧
          AnswerFrame { m with wait := s'.wait } s')) ∧
        ((∃ c : Fin 16, m.atFrames c = true ∧ waitsFor c (key idx sub) true = true) ∨ (∃ p : Fin 2, idx = 0x2000 + p ∧ (m.hdmi p).locked = true) →
          Gives (.granilWrite t r 0x20 idx sub) s (fun s' => Answered s' 0x20 idx sub r (.ok []) ∧ (key idx sub, v, m.mono) ∈ s'.wait ∧
            s'.live = m.live ∧ AnswerFrame { m with wait := s'.wait } s'))))

/-- R373: a WRITE of the value 1 to a counter sets it to 0, of another value is refused with 0x05; a WRITE to a STATUS bitmap clears
each bit written as 1 whose source is not present (R316). -/
def Obligations.CounterWritesClear : Prop :=
  ∀ (t idx sub : Nat) (r : Req) (e : State) (x : Sess) (v : Val) (s m : State), m = s.begin t → r.path = .i3c ∨ r.path = .ddr →
    Heard m 0x20 idx sub r e x → nameCode idx sub = 0 → mayWrite idx sub x.level = true → r.len ≤ 4096 →
    (objRow idx sub).sizeOk r.data.length = true → v = (objRow idx sub).ty.read r.data → e.writeGate (objRow idx sub) idx sub = 0 →
    (objRow idx sub).acc = .rc →
    (idx < 0x9000 ∨ 0x9014 ≤ idx → v.nat = 1 → Gives (.granilWrite t r 0x20 idx sub) s (fun s' => Answered s' 0x20 idx sub r (.ok []) ∧
      s'.lv idx sub = 0 ∧ ObjectsBut [key idx sub] m s' ∧ AnswerFrame m s')) ∧
    (idx < 0x9000 ∨ 0x9014 ≤ idx → v.nat ≠ 1 → Gives (.granilWrite t r 0x20 idx sub) s (fun s' => Answered s' 0x20 idx sub r (.abort 5) ∧
      ObjectsBut [key 0x1100 7] m s' ∧ AnswerFrame m s')) ∧
    (0x9000 ≤ idx → idx < 0x9014 → Gives (.granilWrite t r 0x20 idx sub) s (fun s' => Answered s' 0x20 idx sub r (.ok []) ∧
      (∀ b, b < 32 → (s'.lv idx sub).testBit b =
        ((m.lv idx sub).testBit b && (!(v.nat.testBit b) || m.flt.present.any (fun p => p.source = src (idx - 0x9000) b)))) ∧
      ObjectsBut [key idx sub] m s' ∧ AnswerFrame m s'))

/-- R384 to R386: a segmented write is opened with its length, takes its bytes in order and applies the whole value at its end; a
segmented read snapshots the object and returns its bytes in order; ABORT discards the transfer. -/
def Obligations.SegmentedTransfers : Prop :=
  ∀ (t idx sub : Nat) (r : Req) (e : State) (x : Sess) (s m : State), m = s.begin t → nameCode idx sub = 0 → r.len ≤ 4096 →
    (Heard m 0x30 idx sub r e x →
      (r.flags.testBit 3 = false → mayWrite idx sub x.level = true → r.data.length = 4 → leNat r.data ≤ (objRow idx sub).buffer idx →
        (objRow idx sub).sizeOk (leNat r.data) = true → e.initStop idx sub = 0 → e.xferBusy x (key idx sub) = false →
        Gives (.segInitWrite t r idx sub) s (fun s' => Answered s' 0x30 idx sub r (.ok []) ∧ (s'.sess (whoOf r.path)).xfer =
          some { write := true, key := key idx sub, total := leNat r.data, next := (r.seq + 1) % 256, last := m.now } ∧ AnswerFrame m s')) ∧
      (r.flags.testBit 3 = true → mayRead idx sub x.level = true → r.data = [] → e.served idx sub false = true → e.readStop x idx sub = 0 →
        x.xfer = none → Gives (.segInitRead t r idx sub) s (fun s' =>
          Answered s' 0x30 idx sub r (.ok (leBytes 4 (e.readBytes x idx sub (r.flags.testBit 1)).length)) ∧
          ((s'.sess (whoOf r.path)).xfer.map Xfer.data) = some (e.readBytes x idx sub (r.flags.testBit 1)) ∧ s'.comm = m.comm))) ∧
    (∀ f, x.xfer = some f → f.key = key idx sub → f.next = r.seq % 256 →
      (f.write = true → mayWrite idx sub x.level = true →
        (Heard m 0x31 idx sub r e x → f.data.length + r.data.length ≤ f.total → Gives (.segDataWrite t r idx sub) s (fun s' =>
          Answered s' 0x31 idx sub r (.ok []) ∧ ((s'.sess (whoOf r.path)).xfer.map Xfer.data) = some (f.data ++ r.data) ∧ AnswerFrame m s')) ∧
        (Heard m 0x31 idx sub r e x → f.total < f.data.length + r.data.length → Gives (.segDataWrite t r idx sub) s (fun s' =>
          Answered s' 0x31 idx sub r (.abort 6) ∧ (s'.sess (whoOf r.path)).xfer = none ∧ AnswerFrame m s')) ∧
        (Heard m 0x32 idx sub r e x → r.data = [] → f.total ≤ f.data.length → (objRow idx sub).acc = .rs → idx ≠ 0x1F10 →
          e.effectSpecial x.who idx sub ((objRow idx sub).ty.read f.data) = none → e.writeGate (objRow idx sub) idx sub = 0 →
          e.rangeOk (objRow idx sub) idx sub ((objRow idx sub).ty.read f.data) = true → Gives (.segEndWrite t r idx sub) s (fun s' =>
            Answered s' 0x32 idx sub r (.ok []) ∧ s'.pend = objPut m.pend (key idx sub) ((objRow idx sub).ty.read f.data) ∧
            (s'.sess (whoOf r.path)).xfer = none ∧ s'.comm = m.comm))) ∧
      (f.write = false →
        (Heard m 0x31 idx sub r e x → r.data.length = 2 → 0 < leNat r.data → leNat r.data ≤ e.respLimit r.path →
          Gives (.segDataRead t r idx sub) s (fun s' => Answered s' 0x31 idx sub r (.ok (f.data.take (leNat r.data))) ∧
            ((s'.sess (whoOf r.path)).xfer.map Xfer.data) = some (f.data.drop (leNat r.data)) ∧ AnswerFrame m s')) ∧
        (Heard m 0x32 idx sub r e x → r.data = [] → Gives (.segEndRead t r idx sub) s (fun s' =>
          Answered s' 0x32 idx sub r (.ok []) ∧ (s'.sess (whoOf r.path)).xfer = none ∧ AnswerFrame m s'))) ∧
      (Heard m 0x3F idx sub r e x → Gives (.granilAbort t r idx sub) s (fun s' =>
        Answered s' 0x3F idx sub r (.abort 0) ∧ (s'.sess (whoOf r.path)).xfer = none ∧ AnswerFrame m s')))

/-- R349, R354, R375, R407, R413 to R417: COMMIT_REQ starts validation of the pending copy; START, STOP and BANK take effect from the
states that allow them; RESET resets all but what survives it; LEVEL_REQ changes the session's level, a wrong PIN is refused and
counted; a wear record that passes its checks is taken, once. -/
def Obligations.StateRequests : Prop :=
  ∀ (t : Nat) (r : Req) (e : State) (x : Sess) (v : Val) (s m : State), m = s.begin t →
    (Writes m 0x1F00 1 r e x v → s.sys.mode ≠ .damped → s.sys.mode ≠ .cold → (s.sys.mode = .kindling → s.sys.fwRuns = true) → s.lv 0x1F00 2 ≠ 4 →
      Gives (.commitReq t r) s (fun s' => Answered s' 0x20 0x1F00 1 r (.ok []) ∧ s'.sys = { m.sys with validating := some (v.nat, m.pend) } ∧
        s'.lv 0x1F00 2 = 1 ∧ AnswerFrame { m with sys := s'.sys } s')) ∧
    (Writes m 0x1F00 3 r e x v → s.sys.mode = .laid → s.sys.startFrom = none →
      (s.sys.holdN = false → Gives (.start t r) s (fun s' => Answered s' 0x20 0x1F00 3 r (.ok []) ∧ s'.sys.startFrom = some (some m.now) ∧
        s'.sys.modeReq = .lit ∧ s'.sys.mode = .laid ∧ (∀ c ∈ chanOn m.comm, (s'.chanOf c).startAt.isSome = true) ∧ s'.comm = m.comm)) ∧
      (s.sys.holdN = true → Gives (.start t r) s (fun s' => Answered s' 0x20 0x1F00 3 r (.ok []) ∧
        s'.sys = { m.sys with startFrom := some none, modeReq := .lit } ∧ AnswerFrame { m with sys := s'.sys } s'))) ∧
    (Writes m 0x1F00 4 r e x v →
      (s.sys.mode = .damped → s.sys.startFrom = none → Gives (.stop t r) s (fun s' => Answered s' 0x20 0x1F00 4 r (.ok []) ∧
        s'.sys = { m.sys with stopInDamped := true } ∧ AnswerFrame { m with sys := s'.sys } s')) ∧
      (s.sys.mode = .lit → s.sys.stopping = false → (∃ c : Fin 16, s.chRunning c = true) → Gives (.stop t r) s (fun s' =>
        Answered s' 0x20 0x1F00 4 r (.ok []) ∧ s'.sys.modeReq = .laid ∧ s'.sys.stopping = true ∧
        (∀ c : Fin 16, s.chRunning c = true → (s'.chanOf c).stopping = true) ∧
        ((∀ c : Fin 16, (s.chanOf c).startAt = none) → s'.comm = m.comm))) ∧
      (s.sys.mode = .laid → s.sys.startFrom = none → Gives (.stop t r) s (fun s' => Answered s' 0x20 0x1F00 4 r (.abort 7) ∧ AnswerFrame m s'))) ∧
    (Writes m 0x1F00 5 r e x v → s.sys.mode = .laid → s.sys.startFrom = none → Gives (.bank t r) s (fun s' =>
      Answered s' 0x20 0x1F00 5 r (.ok []) ∧ s'.sys = { m.sys with banking := true, modeReq := .banked } ∧ AnswerFrame { m with sys := s'.sys } s')) ∧
    (Writes m 0x1F00 6 r e x v → s.sys.mode ≠ .cold → Gives (.reset t r) s (fun s' => Answered s' 0x20 0x1F00 6 r (.ok []) ∧
      s'.sys.boot = .pg ∧ s'.lv 0x1F00 0xE = 2 ∧ s'.myId = m.myId ∧ s'.wear.entries = m.wear.entries ∧ s'.pend = [] ∧ s'.comm = [] ∧
      s'.pipe = {} ∧ s'.outp = {} ∧ s'.servo = {} ∧ s'.flt = {})) ∧
    (Writes m 0x1002 2 r e x v → onFlue r.path = false → (∀ u, x.lockUntil = some u → u ≤ m.now) → v.nat / 2 ^ 32 ≤ 3 →
      (v.nat / 2 ^ 32 = 3 → x.level < 3 → s.sys.mode = .kindling) →
      ((x.level < v.nat / 2 ^ 32 → (whoOf r.path).isMgmt = true → s.lv 0x1002 (2 + v.nat / 2 ^ 32) ≠ 0 ∧
          v.nat % 2 ^ 32 = s.lv 0x1002 (2 + v.nat / 2 ^ 32)) → Gives (.levelReq t r) s (fun s' => Answered s' 0x20 0x1002 2 r (.ok []) ∧
          (s'.sess (whoOf r.path)).level = v.nat / 2 ^ 32 ∧ AnswerFrame m s')) ∧
      (x.level < v.nat / 2 ^ 32 → (whoOf r.path).isMgmt = true → s.lv 0x1002 (2 + v.nat / 2 ^ 32) = 0 ∨
          v.nat % 2 ^ 32 ≠ s.lv 0x1002 (2 + v.nat / 2 ^ 32) → Gives (.levelReq t r) s (fun s' => Answered s' 0x20 0x1002 2 r (.abort 3) ∧
          (s'.sess (whoOf r.path)).level = x.level ∧
          (s'.sess (whoOf r.path)).lockUntil = (if 2 ≤ x.fails then some (m.now + tuSec 10) else none) ∧ AnswerFrame m s'))) ∧
    (∀ b, Writes m 0x1F20 1 r e x (.b b) → s.wearCheck b = 0 → Gives (.wearRecordWrite t r) s (fun s' => Answered s' 0x20 0x1F20 1 r (.ok []) ∧
      s'.sys.wearWritten = true ∧ s'.wear.hours0 = fieldAt b 23 20 ∧ s'.comm = m.comm)) ∧
    (∀ b, Writes m 0x1F20 1 r e x (.b b) → s.wearCheck b = 7 ∨ s.wearCheck b = 5 ∨ s.wearCheck b = 0xB → Gives (.wearRecordWrite t r) s (fun s' =>
      Answered s' 0x20 0x1F20 1 r (.abort (s.wearCheck b)) ∧ AnswerFrame m s'))

/-- R316, R319, R324, R330, R331, R333: host software's writes to the fault collector, the Ash log and the injection slots. -/
def Obligations.FaultRequests : Prop :=
  ∀ (t : Nat) (r : Req) (e : State) (x : Sess) (v : Val) (s m : State), m = s.begin t → onFlue r.path = false →
    (∀ g : Fin 20, Writes m (0x9000 + g) 1 r e x v → Gives (.statusClear t r g) s (fun s' => Answered s' 0x20 (0x9000 + g) 1 r (.ok []) ∧
      (∀ b, b < 32 → (s'.lv (0x9000 + g) 1).testBit b =
        ((m.lv (0x9000 + g) 1).testBit b && (!(v.nat.testBit b) || m.flt.present.any (fun p => p.source = src g b)))) ∧
      s'.flt.counts = m.flt.counts ∧ AnswerFrame m s')) ∧
    (∀ g : Fin 20, Writes m (0x9000 + g) 6 r e x v → Gives (.captureClear t r g) s (fun s' => Answered s' 0x20 (0x9000 + g) 6 r (.ok []) ∧
      s'.flt.captures = m.flt.captures.filter (fun c => decide (c.1 ≠ g.val)) ∧ AnswerFrame m s')) ∧
    (∀ (cls : Fin 2) (q : Recovery), Writes m (0x9103 + cls) 6 r e x v → v.nat ≠ 0xFFFF → v.nat ≠ domModule → v.nat / 0x1000 ≠ 1 →
      v.nat / 0x1000 ≠ 2 → s.recoveryOf v.nat = some q → q.dom = v.nat →
      (q.cls = 3 + cls → q.awaiting = true → s.holdsBack q = false → Gives (.release t r cls) s (fun s' =>
        Answered s' 0x20 (0x9103 + cls) 6 r (.ok []) ∧ s'.recoveryOf v.nat = none ∧ AnswerFrame m s')) ∧
      (q.awaiting = false → Gives (.release t r cls) s (fun s' => Answered s' 0x20 (0x9103 + cls) 6 r (.abort 7) ∧ AnswerFrame m s'))) ∧
    (∀ (a : AshRec) (as : List AshRec), Reads m 0x9400 2 r e x → s.flt.ash = a :: as → a.seq = s.lv 0x9400 1 → as.length < 128 →
      Gives (.ashRead t r) s (fun s' => s'.flt.ash = (a :: as).map (fun y => { y with wasRead := true }) ∧
        s'.lv 0x9400 1 = (((a :: as).getLast?.map AshRec.seq).getD 0 + 1) % 2 ^ 32 ∧
        Answered s' 0x10 0x9400 2 r (.ok (e.readBytes x 0x9400 2 (r.flags.testBit 1))) ∧ AnswerFrame m s')) ∧
    (Writes m 0x9400 5 r e x v → Gives (.ashClear t r) s (fun s' => Answered s' 0x20 0x9400 5 r (.ok []) ∧ s'.flt.ash = [] ∧
      s'.flt.nextSeq = m.flt.nextSeq ∧ AnswerFrame m s')) ∧
    (∀ i : Fin 4, Writes m (0xF010 + i) 4 r e x v →
      (v.nat = 0 → Gives (.injArm t r i) s (fun s' => Answered s' 0x20 (0xF010 + i) 4 r (.ok []) ∧ s'.lv (0xF010 + i) 4 = 0 ∧ AnswerFrame m s')) ∧
      (v.nat ≠ 0 → injTargetOk (s.lv (0xF010 + i) 1) = true → injPatternOk (s.lv (0xF010 + i) 1) (s.lv (0xF010 + i) 2) = true →
        (∀ j : Fin 4, j ≠ i → s.lv (0xF010 + j) 4 = 1 → s.lv (0xF010 + j) 1 ≠ s.lv (0xF010 + i) 1) → Gives (.injArm t r i) s (fun s' =>
          Answered s' 0x20 (0xF010 + i) 4 r (.ok []) ∧ s'.lv (0xF010 + i) 4 = 1 ∧ AnswerFrame m s')) ∧
      (v.nat ≠ 0 → injTargetOk (s.lv (0xF010 + i) 1) = false → Gives (.injArm t r i) s (fun s' =>
        Answered s' 0x20 (0xF010 + i) 4 r (.abort 5) ∧ s'.lv (0xF010 + i) 4 = m.lv (0xF010 + i) 4))) ∧
    (Writes m 0xF000 1 r e x v → Gives (.injStop t r) s (fun s' => Answered s' 0x20 0xF000 1 r (.ok []) ∧
      (∀ i : Fin 4, s'.lv (0xF010 + i) 4 = 0) ∧ AnswerFrame m s'))

/-- R118, R239, R249, R270, R285, R303: requests that retire or switch a part, and the start of an enumeration. -/
def Obligations.PartRequests : Prop :=
  ∀ (t : Nat) (r : Req) (e : State) (x : Sess) (v : Val) (s m : State), m = s.begin t →
    (∀ w : Fin 288, Writes m 0xC041 1 r e x v → v.nat = withyInit w → s.wState w = 0 →
      (28 ≤ sumList ((List.range 4).map (fun i => s.skeinAfter (4 * withyHearth w + i) w)) → Gives (.retireReq t r) s (fun s' => Answered s' 0x20 0xC041 1 r (.ok []) ∧
        (s'.withySt w).marked = true ∧ s'.comm = m.comm ∧ s'.clk = m.clk)) ∧
      (sumList ((List.range 4).map (fun i => s.skeinAfter (4 * withyHearth w + i) w)) < 28 → Gives (.retireReq t r) s (fun s' => Answered s' 0x20 0xC041 1 r (.abort 0xC) ∧ AnswerFrame m s'))) ∧
    (∀ (p : Fin 3) (lane : Fin 3), Writes m (0x8110 + p) 9 r e x v → v.nat = lane → (s.link p).active.testBit lane = true →
      ((s.link p).spare ≠ 3 → Gives (.laneRetire t r p) s (fun s' => Answered s' 0x20 (0x8110 + p) 9 r (.ok []) ∧
        (s'.link p).retired = setBit (m.link p).retired lane true ∧ (s'.link p).spare = 3 ∧
        (s'.link p).active = setBit (setBit (m.link p).active lane false) (m.link p).spare true)) ∧
      ((s.link p).spare = 3 → Gives (.laneRetire t r p) s (fun s' => Answered s' 0x20 (0x8110 + p) 9 r (.abort 0xC) ∧ AnswerFrame m s'))) ∧
    (Writes m 0x8100 6 r e x v →
      (s.lv 0x8100 3 = 0 → Gives (.enumStart t r) s (fun s' => Answered s' 0x20 0x8100 6 r (.abort 0xB) ∧ AnswerFrame m s')) ∧
      (s.lv 0x8100 3 ≠ 0 → s.myId < 1024 → s.flue.excess = false → Gives (.enumStart t r) s (fun s' =>
        Answered s' 0x20 0x8100 6 r (.ok []) ∧ s'.flue.lastPass = (m.serial, m.flue.lastPass.2 + 1) ∧ s'.myId = m.myId ∧
        (∀ p : Fin 3, m.portsUp.head? = some p.val → ∃ f : FlueFrame, Emit.flue p f ∈ s'.out ∧ f.typ = 0x41 ∧ f.pay.headD 9 = 0)))) ∧
    (∀ i : Fin 4, Writes m 0x8200 6 r e x v → v.nat = i →
      (s.pairState i = 1 → s.paired = true → s.handsAway i = false → Gives (.switchReq t r) s (fun s' => Answered s' 0x20 0x8200 6 r (.ok []) ∧
        s'.lv 0x8200 3 = setBit (m.lv 0x8200 3) i (!((m.lv 0x8200 3).testBit i)) ∧ s'.lv (0x8201 + i) 3 = 4 ∧
        s'.lv (0x8201 + i) 2 = (m.inc (0x8201 + i) 2).lv (0x8201 + i) 2)) ∧
      (s.pairState i = 1 → s.handsAway i = true → Gives (.switchReq t r) s (fun s' => Answered s' 0x20 0x8200 6 r (.ok []) ∧ AnswerFrame m s' ∧
        s'.lv 0x8200 3 = m.lv 0x8200 3)) ∧
      (s.pairState i ≠ 1 → Gives (.switchReq t r) s (fun s' => Answered s' 0x20 0x8200 6 r (.abort 7) ∧ AnswerFrame m s'))) ∧
    (Writes m 0x8210 0xF r e x v →
      (s.lv 0x8210 8 = 1 → Gives (.twinSwitchReq t r) s (fun s' => Answered s' 0x20 0x8210 0xF r (.ok []) ∧
        (∀ c : Fin 16, (s.cm 0x8210 4).testBit c = true → s.twinned c = true → (s'.pair.hand.get none c).isSome = true) ∧
        AnswerFrame { m with pair := s'.pair } s')) ∧
      (s.lv 0x8210 8 ≠ 1 → Gives (.twinSwitchReq t r) s (fun s' => Answered s' 0x20 0x8210 0xF r (.abort 7) ∧ AnswerFrame m s'))) ∧
    (∀ ch : Fin 8, Writes m 0x8000 5 r e x v → v.nat = ch → s.rankState ch = 1 → Gives (.rankRetire t r) s (fun s' =>
      Answered s' 0x20 0x8000 5 r (.ok []) ∧ s'.rankState ch = 2 ∧ countOf s' (dramSrc ch 4) = satAdd 16 (countOf m (dramSrc ch 4)) 1))

/-- R194, R197, R203, R206, R209, R211: TIME_SET and TIME_ADJUST step the counter, where a step is allowed; host samples, PTP frames and
time stamps; a gate change is set pending for its time; a meter's buckets fill. -/
def Obligations.TimeAndTrafficRequests : Prop :=
  ∀ (t : Nat) (r : Req) (e : State) (x : Sess) (v : Val) (s m : State), m = s.begin t →
    (Writes m 0x7000 2 r e x v → s.sourceNow = 0 → s.sys.mode ≠ .lit → 0 ≤ (m.mono : Int) + m.clk.off → Gives (.timeSet t r) s (fun s' =>
      Answered s' 0x20 0x7000 2 r (.ok []) ∧ s'.ctrNow = timeCtr v.nat ∧ s'.mono = m.mono ∧ s'.lv 0x7000 7 = (m.inc 0x7000 7).lv 0x7000 7)) ∧
    (Writes m 0x7000 3 r e x v → s.sourceNow = 0 → s.sys.mode ≠ .lit → Gives (.timeAdjust t r) s (fun s' =>
      Answered s' 0x20 0x7000 3 r (.ok []) ∧ s'.clk.off = m.clk.off + signed 64 v.nat * 2 ^ 24 ∧ s'.mono = m.mono)) ∧
    (Writes m 0x7000 2 r e x v → s.sourceNow ≠ 0 → Gives (.timeSet t r) s (fun s' => Answered s' 0x20 0x7000 2 r (.abort 7) ∧ AnswerFrame m s')) ∧
    (Writes m 0x7001 0x12 r e x v → Gives (.hostSample t r) s (fun s' => Answered s' 0x20 0x7001 0x12 r (.ok []) ∧ s'.servo.hostAt = some m.now ∧
      (s.sourceNow = 6 → s.order.contains 6 = true → s'.lv 0x7001 0xE = unsigned 64 (signed 64 v.nat)))) ∧
    (∀ q : Fin 2, Writes m (0x6808 + q) 1 r e x v → r.path = .i3c ∨ r.path = .ddr → s.cm (0x7010 + q) 1 = 2 → (m.ptpTxFrame q v.blk).2 = true →
      (s.ethPort (s.ptpPort q)).link = true → s.lv (0x6200 + s.ptpPort q) 1 = 0 → Gives (.ptpTx t r q) s (fun s' => Answered s' 0x20 (0x6808 + q) 1 r (.ok []) ∧
        (∃ f, (s'.ethPort (s.ptpPort q)).queue = (m.ethPort (s.ptpPort q)).queue ++ [f] ∧ f.cls = m.cm 0x6102 1) ∧ AnswerFrame m s')) ∧
    (∀ q : Fin 2, Reads m (0x6808 + q) 2 r e x → Gives (.ptpRxRead t r q) s (fun s' =>
      Answered s' 0x10 (0x6808 + q) 2 r (.ok (e.readBytes x (0x6808 + q) 2 (r.flags.testBit 1))) ∧ s'.servo.rx.get [] q = [] ∧
      AnswerFrame { m with servo := s'.servo } s')) ∧
    (∀ q : Fin 5, Reads m (0x6800 + q) 1 r e x → Gives (.tsRead t r q) s (fun s' =>
      Answered s' 0x10 (0x6800 + q) 1 r (.ok (e.readBytes x (0x6800 + q) 1 (r.flags.testBit 1))) ∧
      s'.servo.tsq.get [] q = (m.servo.tsq.get [] q).drop 64 ∧ AnswerFrame { m with servo := s'.servo } s')) ∧
    (∀ p : Fin 10, Writes m (0x6200 + p) 7 r e x v → s.sys.mode ≠ .laid → s.sys.mode ≠ .lit → gatesOk (s.lvb (0x6200 + p) 3) = true →
      400 ≤ (m.adminList p).cycle → (m.adminList p).cycle ≤ 400000000 → (m.adminList p).ext ≤ (m.adminList p).cycle →
      m.ctrNow + usCtr 1 ≤ (m.adminList p).base → Gives (.configChange t r p) s (fun s' => Answered s' 0x20 (0x6200 + p) 7 r (.ok []) ∧
        (s'.ethPort p).gate = { (m.ethPort p).gate with pend := some ((((m.adminList p).base : Int) - m.clk.off).toNat, m.adminList p) } ∧
        s'.lv (0x6200 + p) 8 = 1 ∧ s'.lv (0x6200 + p) 9 = ctrTime (m.adminList p).base ∧ AnswerFrame m s')) ∧
    (∀ (k : Fin 1024) (sub : Nat), Writes m (0x6400 + k) sub r e x v → sub ≤ 0xB → Gives (.meterConfigWrite t r k sub) s (fun s' =>
      Answered s' 0x20 (0x6400 + k) sub r (.ok []) ∧ objGet s'.live (key (0x6400 + k) sub) = v ∧
      s'.outp.meters.get {} k = { c := s'.lv (0x6400 + k) 8 * 65536, e := s'.lv (0x6400 + k) 0xA * 65536, at_ := m.mono }))

/-- R99, R145, R146, R159, R162 to R164, R167, R357: content requests: the library's upload, EDID, REF_IN settings, signatures, stand-in
counters and remote actions. -/
def Obligations.ContentRequests : Prop :=
  ∀ (t : Nat) (r : Req) (e : State) (x : Sess) (v : Val) (s m : State), m = s.begin t →
    (Writes m 0x2300 0xC r e x v → m.itemAlloc.2 = 0 → Gives (.itemAlloc t r) s (fun s' => Answered s' 0x20 0x2300 0xC r (.ok []) ∧
      (∃ c, (s'.item (s.lv 0x2300 3)).target = some c ∧ c.w = s.lv 0x2300 4 ∧ c.h = s.lv 0x2300 5 ∧ c.format = s.lv 0x2300 6 ∧
        c.frames = s.lv 0x2300 8 ∧ c.lines = []) ∧ AnswerFrame { m with inp := s'.inp } s')) ∧
    (∀ (b : List Byte) (c : ItemCopy) (row : List Nat), Writes m 0x2300 0xF r e x (.b b) → s.pwr.sag = 0 →
      (s.item (s.lv 0x2300 3)).target = some c → cutLines (c.w * samplesPerPixel c.format * 2) b = [row] →
      b.length = c.w * samplesPerPixel c.format * 2 → row.all (fun k => decide (k < 1024)) = true →
      s.lv 0x2300 0xD * c.h + s.lv 0x2300 0xE < c.frames * c.h → Gives (.itemData t r) s (fun s' => Answered s' 0x20 0x2300 0xF r (.ok []) ∧
        ((s'.item (s.lv 0x2300 3)).target.map ItemCopy.lines) = some (c.lines.put none (s.lv 0x2300 0xD * c.h + s.lv 0x2300 0xE) (some row)) ∧
        AnswerFrame { m with inp := s'.inp } s')) ∧
    (∀ c : ItemCopy, Writes m 0x2300 0x10 r e x v → (s.item (s.lv 0x2300 3)).target = some c →
      (c.frames * c.h ≤ c.lines.length → Gives (.itemDone t r) s (fun s' => Answered s' 0x20 0x2300 0x10 r (.ok []) ∧
        (s'.item (s.lv 0x2300 3)).curDone = true ∧ (s'.item (s.lv 0x2300 3)).second = none ∧ AnswerFrame { m with inp := s'.inp } s')) ∧
      (c.lines.length < c.frames * c.h → Gives (.itemDone t r) s (fun s' => Answered s' 0x20 0x2300 0x10 r (.abort 0xB) ∧ AnswerFrame m s'))) ∧
    (Writes m 0x2300 0x11 r e x v →
      (itemUsed s.comm (s.lv 0x2300 3) = false → Gives (.itemDelete t r) s (fun s' => Answered s' 0x20 0x2300 0x11 r (.ok []) ∧
        (s'.item (s.lv 0x2300 3)).cur = none ∧ (s'.item (s.lv 0x2300 3)).second = none ∧ AnswerFrame { m with inp := s'.inp } s')) ∧
      (itemUsed s.comm (s.lv 0x2300 3) = true → Gives (.itemDelete t r) s (fun s' => Answered s' 0x20 0x2300 0x11 r (.abort 0xA) ∧ AnswerFrame m s'))) ∧
    (∀ p : Fin 2, Writes m (0x2000 + p) 2 r e x v → (s.hdmi p).locked = false → Gives (.edidWrite t r p) s (fun s' => Answered s' 0x20 (0x2000 + p) 2 r (.ok []) ∧
      objGet s'.live (key (0x2000 + p) 2) = v ∧ (s'.hdmi p).edidWritten = true ∧ s'.comm = m.comm)) ∧
    (∀ sub, Writes m 0x2200 sub r e x v → sub = 2 ∨ sub = 3 ∨ sub = 4 → Gives (.refSettingWrite t r sub) s (fun s' =>
      Answered s' 0x20 0x2200 sub r (.ok []) ∧ objGet s'.live (key 0x2200 sub) = v ∧ s'.inp.ref.last = none ∧ s'.inp.ref.good = 0 ∧ s'.comm = m.comm)) ∧
    (∀ c : Fin 16, Writes m (0x3000 + c) 8 r e x v →
      (s.atFrames c = true → Gives (.compRelease t r c) s (fun s' => Answered s' 0x20 (0x3000 + c) 8 r (.ok []) ∧
        s'.compOf c = { m.compOf c with release := some m.mono } ∧ AnswerFrame { m with comp := s'.comp } s')) ∧
      (s.atFrames c = false → Gives (.compRelease t r c) s (fun s' => Answered s' 0x20 (0x3000 + c) 8 r (.ok []) ∧
        (s'.compOf c).action = 0 ∧ (s'.compOf c).release = none ∧ AnswerFrame { m with comp := s'.comp } s'))) ∧
    (∀ c : Fin 16, Writes m (0x3900 + c) 2 r e x v → s.atFrames c = false → Gives (.expectedWrite t r c) s (fun s' =>
      Answered s' 0x20 (0x3900 + c) 2 r (.ok []) ∧ (∀ g ∈ (s'.compOf c).regions, g.2.run = 0) ∧
      ((∀ d : Fin 16, s.atFrames d = false) → objGet s'.live (key (0x3900 + c) 2) = v))) ∧
    (Writes m 0x4211 2 r e x v →
      (s.runningChans ≠ [] → Gives (.standinsClear t r) s (fun s' => Answered s' 0x20 0x4211 2 r (.ok []) ∧
        s'.pipe = { m.pipe with standinsClear := true } ∧ AnswerFrame { m with pipe := s'.pipe } s')) ∧
      (s.runningChans = [] → Gives (.standinsClear t r) s (fun s' => Answered s' 0x20 0x4211 2 r (.ok []) ∧
        (∀ g ∈ s'.pipe.flows, g.2.standins = 0) ∧ AnswerFrame { m with pipe := s'.pipe } s'))) ∧
    (Writes m 0xB030 2 r e x v →
      (s.runningChans.find? (fun c => decide (chan s.comm c 2 = fieldAt v.blk 11 10)) = none → Gives (.remoteAction t r) s (fun s' =>
        Answered s' 0x20 0xB030 2 r (.ok []) ∧ s'.lv 0xB030 5 = (m.inc 0xB030 5).lv 0xB030 5 ∧ AnswerFrame m s')) ∧
      (∀ c, s.runningChans.find? (fun c => decide (chan s.comm c 2 = fieldAt v.blk 11 10)) = some c → s.atFrames c = true →
        Gives (.remoteAction t r) s (fun s' => Answered s' 0x20 0xB030 2 r (.ok []) ∧
          (∃ q : ActRec, s'.oper.queue = m.oper.queue ++ [q] ∧ q.c = c ∧ q.label = signed 64 (fieldAt v.blk 23 16) ∧ q.next = false ∧
            q.origin = fieldAt v.blk 9 8 ∧ q.seq = fieldAt v.blk 7 6 ∧ q.layer = fieldAt v.blk 5 5 ∧ q.action = fieldAt v.blk 4 4 ∧
            q.value = fieldAt v.blk 15 12) ∧ AnswerFrame { m with oper := s'.oper } s')))
end

