-- ==== Sys2Proof/Laws/Tbl.lean ====
section
/-!
SUPPORT. Laws of sparse tables: a read after a write, and that every write keeps the canonical form.
-/
namespace Sys2Proof

variable {α : Type}

@[simp] theorem Tbl.get_nil (d : α) (j : Nat) : Tbl.get d ([] : Tbl α) j = d := rfl

theorem Tbl.get_erase_self (d : α) (m : Tbl α) (j : Nat) : (m.erase j).get d j = d := by
  induction m with
  | nil => rfl
  | cons e m ih =>
    obtain ⟨k, v⟩ := e
    by_cases h : j = k <;> simp [Tbl.erase, Tbl.get, h]
    · subst h; exact ih
    · exact ih

theorem Tbl.get_erase_other (d : α) (m : Tbl α) {i j : Nat} (h : i ≠ j) : (m.erase j).get d i = m.get d i := by
  induction m with
  | nil => rfl
  | cons e m ih =>
    obtain ⟨k, v⟩ := e
    by_cases hj : j = k
    · subst hj; simp [Tbl.erase, Tbl.get, h, ih]
    · simp [Tbl.erase, Tbl.get, hj, ih]

theorem Tbl.get_insert_self (d : α) (m : Tbl α) (j : Nat) (v : α) : ((m.erase j).insert j v).get d j = v := by
  induction m with
  | nil => simp [Tbl.erase, Tbl.insert, Tbl.get]
  | cons e m ih =>
    obtain ⟨k, w⟩ := e
    by_cases hj : j = k
    · subst hj; simpa [Tbl.erase] using ih
    · simp only [Tbl.erase, hj, if_false, Tbl.insert]
      by_cases hl : j < k <;> simp [hl, Tbl.get, hj, ih]

theorem Tbl.get_insert_other (d : α) (m : Tbl α) {i j : Nat} (v : α) (h : i ≠ j) : (m.insert j v).get d i = m.get d i := by
  induction m with
  | nil => simp [Tbl.insert, Tbl.get, h]
  | cons e m ih =>
    obtain ⟨k, w⟩ := e
    by_cases hl : j < k
    · simp [Tbl.insert, hl, Tbl.get, h]
    · simp [Tbl.insert, hl, Tbl.get, ih]

section
variable [DecidableEq α]

/-- A read after a write to the same entry gives the value written. -/
@[simp] theorem Tbl.get_put_self (d : α) (m : Tbl α) (j : Nat) (v : α) : (m.put d j v).get d j = v := by
  unfold Tbl.put
  split
  · rename_i h; rw [Tbl.get_erase_self]; exact h.symm
  · exact Tbl.get_insert_self d m j v

/-- A write leaves every other entry alone. -/
theorem Tbl.get_put_other (d : α) (m : Tbl α) {i j : Nat} (v : α) (h : i ≠ j) {d' : α} : (m.put d' j v).get d i = m.get d i := by
  unfold Tbl.put
  split
  · exact Tbl.get_erase_other d m h
  · rw [Tbl.get_insert_other d _ v h, Tbl.get_erase_other d m h]

theorem Tbl.get_put (d : α) (m : Tbl α) (i j : Nat) (v : α) : (m.put d j v).get d i = if i = j then v else m.get d i := by
  split
  · rename_i h; subst h; simp
  · rename_i h; exact Tbl.get_put_other d m v h

end

/-- Keys of a rising table all lie above a bound. -/
def Tbl.above (n : Nat) (m : Tbl α) : Prop := ∀ e ∈ m, n < e.1

theorem Tbl.rising_cons {k : Nat} {v : α} {m : Tbl α} : Tbl.rising ((k, v) :: m) = true ↔ Tbl.above k m ∧ Tbl.rising m = true := by
  induction m generalizing k v with
  | nil => simp [Tbl.rising, Tbl.above]
  | cons e m ih =>
    obtain ⟨j, w⟩ := e
    rw [Tbl.rising, Bool.and_eq_true, decide_eq_true_eq]
    constructor
    · rintro ⟨hk, hr⟩
      refine ⟨?_, hr⟩
      intro x hx
      rcases List.mem_cons.mp hx with rfl | hx
      · exact hk
      · exact Nat.lt_trans hk ((ih.mp hr).1 x hx)
    · rintro ⟨ha, hr⟩
      exact ⟨ha (j, w) (List.mem_cons_self), hr⟩

theorem Tbl.mem_erase {m : Tbl α} {j : Nat} {e : Nat × α} : e ∈ Tbl.erase m j ↔ e ∈ m ∧ e.1 ≠ j := by
  induction m with
  | nil => simp [Tbl.erase]
  | cons x m ih =>
    obtain ⟨k, v⟩ := x
    by_cases h : j = k
    · subst h
      simp only [Tbl.erase, if_true, ih, List.mem_cons]
      constructor
      · rintro ⟨h1, h2⟩; exact ⟨.inr h1, h2⟩
      · rintro ⟨h1 | h1, h2⟩
        · subst h1; exact absurd rfl h2
        · exact ⟨h1, h2⟩
    · simp only [Tbl.erase, h, if_false, List.mem_cons, ih]
      constructor
      · rintro (h1 | ⟨h1, h2⟩)
        · subst h1; exact ⟨.inl rfl, fun hk => h hk.symm⟩
        · exact ⟨.inr h1, h2⟩
      · rintro ⟨h1 | h1, h2⟩
        · exact .inl h1
        · exact .inr ⟨h1, h2⟩

theorem Tbl.mem_insert {m : Tbl α} {j : Nat} {v : α} {e : Nat × α} : e ∈ Tbl.insert m j v ↔ e = (j, v) ∨ e ∈ m := by
  induction m with
  | nil => simp [Tbl.insert]
  | cons x m ih =>
    obtain ⟨k, w⟩ := x
    by_cases h : j < k
    · simp [Tbl.insert, h]
    · simp only [Tbl.insert, h, if_false, List.mem_cons, ih]
      constructor
      · rintro (h1 | h1 | h1)
        · exact .inr (.inl h1)
        · exact .inl h1
        · exact .inr (.inr h1)
      · rintro (h1 | h1 | h1)
        · exact .inr (.inl h1)
        · exact .inl h1
        · exact .inr (.inr h1)

theorem Tbl.rising_erase {m : Tbl α} (j : Nat) (h : m.rising = true) : (m.erase j).rising = true := by
  induction m with
  | nil => rfl
  | cons x m ih =>
    obtain ⟨k, v⟩ := x
    rw [Tbl.rising_cons] at h
    by_cases hj : j = k
    · subst hj; simpa [Tbl.erase] using ih h.2
    · simp only [Tbl.erase, hj, if_false]
      rw [Tbl.rising_cons]
      exact ⟨fun e he => h.1 e (Tbl.mem_erase.mp he).1, ih h.2⟩

theorem Tbl.rising_insert {m : Tbl α} {j : Nat} (v : α) (h : m.rising = true) (hj : ∀ e ∈ m, e.1 ≠ j) :
    (m.insert j v).rising = true := by
  induction m with
  | nil => rfl
  | cons x m ih =>
    obtain ⟨k, w⟩ := x
    rw [Tbl.rising_cons] at h
    by_cases hl : j < k
    · simp only [Tbl.insert, hl, if_true]
      rw [Tbl.rising_cons, Tbl.rising_cons]
      refine ⟨?_, h⟩
      intro e he
      rcases List.mem_cons.mp he with rfl | he
      · exact hl
      · exact Nat.lt_trans hl (h.1 e he)
    · simp only [Tbl.insert, hl, if_false]
      rw [Tbl.rising_cons]
      refine ⟨?_, ih h.2 (fun e he => hj e (List.mem_cons_of_mem _ he))⟩
      intro e he
      rcases Tbl.mem_insert.mp he with rfl | he
      · have : k ≠ j := hj (k, w) List.mem_cons_self
        show k < j
        omega
      · exact h.1 e he

/-- A write keeps the canonical form. -/
theorem Tbl.wf_put [DecidableEq α] (d : α) (m : Tbl α) (j : Nat) (v : α) (h : m.wf d = true) : (m.put d j v).wf d = true := by
  simp only [Tbl.wf, Bool.and_eq_true, List.all_eq_true, decide_eq_true_eq] at h ⊢
  unfold Tbl.put
  split
  · exact ⟨Tbl.rising_erase j h.1, fun e he => h.2 e (Tbl.mem_erase.mp he).1⟩
  · rename_i hv
    refine ⟨Tbl.rising_insert v (Tbl.rising_erase j h.1) (fun e he => (Tbl.mem_erase.mp he).2), ?_⟩
    intro e he
    rcases Tbl.mem_insert.mp he with rfl | he
    · exact hv
    · exact h.2 e (Tbl.mem_erase.mp he).1

theorem Tbl.wf_nil [DecidableEq α] (d : α) : Tbl.wf d ([] : Tbl α) = true := rfl

end Sys2Proof
end

