-- ==== Sys2Proof/Laws/State.lean ====
section
/-!
SUPPORT. Fields of the state after each update that the meanings share, so that no proof unfolds a record update.
-/
namespace Sys2Proof.Machine

@[simp] theorem State.begin_now (s : State) (t : Nat) : (s.begin t).now = max s.now t := rfl
@[simp] theorem State.begin_out (s : State) (t : Nat) : (s.begin t).out = (s.cellsTill (max s.now t)).2 := rfl
@[simp] theorem State.begin_pending (s : State) (t : Nat) : (s.begin t).pending = s.pending := rfl
@[simp] theorem State.begin_free (s : State) (t : Nat) : (s.begin t).free = s.free := rfl
@[simp] theorem State.begin_live (s : State) (t : Nat) : (s.begin t).live = s.live := rfl
@[simp] theorem State.begin_pend (s : State) (t : Nat) : (s.begin t).pend = s.pend := rfl
@[simp] theorem State.begin_committed (s : State) (t : Nat) : (s.begin t).committed = s.committed := rfl
@[simp] theorem State.begin_comm (s : State) (t : Nat) : (s.begin t).comm = s.comm := rfl
@[simp] theorem State.begin_wait (s : State) (t : Nat) : (s.begin t).wait = s.wait := rfl
@[simp] theorem State.begin_sys (s : State) (t : Nat) : (s.begin t).sys = s.sys := rfl
@[simp] theorem State.begin_clk (s : State) (t : Nat) : (s.begin t).clk = s.clk := rfl
@[simp] theorem State.begin_flt (s : State) (t : Nat) : (s.begin t).flt = s.flt := rfl
@[simp] theorem State.begin_gran (s : State) (t : Nat) : (s.begin t).gran = s.gran := rfl
@[simp] theorem State.begin_pwr (s : State) (t : Nat) : (s.begin t).pwr = s.pwr := rfl
@[simp] theorem State.begin_wear (s : State) (t : Nat) : (s.begin t).wear = s.wear := rfl
@[simp] theorem State.begin_inp (s : State) (t : Nat) : (s.begin t).inp = s.inp := rfl
@[simp] theorem State.begin_comp (s : State) (t : Nat) : (s.begin t).comp = s.comp := rfl
@[simp] theorem State.begin_pipe (s : State) (t : Nat) : (s.begin t).pipe = s.pipe := rfl
@[simp] theorem State.begin_outp (s : State) (t : Nat) : (s.begin t).outp = s.shownOutp t := rfl
@[simp] theorem State.begin_servo (s : State) (t : Nat) : (s.begin t).servo = s.servo := rfl
@[simp] theorem State.begin_audio (s : State) (t : Nat) : (s.begin t).audio = s.audio := rfl
@[simp] theorem State.begin_flue (s : State) (t : Nat) : (s.begin t).flue = { s.flue with links := (s.cellsTill (max s.now t)).1 } := rfl
@[simp] theorem State.begin_council (s : State) (t : Nat) : (s.begin t).council = s.council := rfl
@[simp] theorem State.begin_pair (s : State) (t : Nat) : (s.begin t).pair = s.pair := rfl
@[simp] theorem State.begin_mem (s : State) (t : Nat) : (s.begin t).mem = s.mem := rfl
@[simp] theorem State.begin_oper (s : State) (t : Nat) : (s.begin t).oper = s.oper := rfl
@[simp] theorem State.emit_now (s : State) (e : Emit) : (s.emit e).now = s.now := rfl
@[simp] theorem State.emit_out (s : State) (e : Emit) : (s.emit e).out = s.out ++ [e] := rfl
@[simp] theorem State.emit_pending (s : State) (e : Emit) : (s.emit e).pending = s.pending := rfl
@[simp] theorem State.emit_free (s : State) (e : Emit) : (s.emit e).free = s.free := rfl
@[simp] theorem State.emit_live (s : State) (e : Emit) : (s.emit e).live = s.live := rfl
@[simp] theorem State.emit_pend (s : State) (e : Emit) : (s.emit e).pend = s.pend := rfl
@[simp] theorem State.emit_committed (s : State) (e : Emit) : (s.emit e).committed = s.committed := rfl
@[simp] theorem State.emit_comm (s : State) (e : Emit) : (s.emit e).comm = s.comm := rfl
@[simp] theorem State.emit_wait (s : State) (e : Emit) : (s.emit e).wait = s.wait := rfl
@[simp] theorem State.emit_sys (s : State) (e : Emit) : (s.emit e).sys = s.sys := rfl
@[simp] theorem State.emit_clk (s : State) (e : Emit) : (s.emit e).clk = s.clk := rfl
@[simp] theorem State.emit_flt (s : State) (e : Emit) : (s.emit e).flt = s.flt := rfl
@[simp] theorem State.emit_gran (s : State) (e : Emit) : (s.emit e).gran = s.gran := rfl
@[simp] theorem State.emit_pwr (s : State) (e : Emit) : (s.emit e).pwr = s.pwr := rfl
@[simp] theorem State.emit_wear (s : State) (e : Emit) : (s.emit e).wear = s.wear := rfl
@[simp] theorem State.emit_inp (s : State) (e : Emit) : (s.emit e).inp = s.inp := rfl
@[simp] theorem State.emit_comp (s : State) (e : Emit) : (s.emit e).comp = s.comp := rfl
@[simp] theorem State.emit_pipe (s : State) (e : Emit) : (s.emit e).pipe = s.pipe := rfl
@[simp] theorem State.emit_outp (s : State) (e : Emit) : (s.emit e).outp = s.outp := rfl
@[simp] theorem State.emit_servo (s : State) (e : Emit) : (s.emit e).servo = s.servo := rfl
@[simp] theorem State.emit_audio (s : State) (e : Emit) : (s.emit e).audio = s.audio := rfl
@[simp] theorem State.emit_flue (s : State) (e : Emit) : (s.emit e).flue = s.flue := rfl
@[simp] theorem State.emit_council (s : State) (e : Emit) : (s.emit e).council = s.council := rfl
@[simp] theorem State.emit_pair (s : State) (e : Emit) : (s.emit e).pair = s.pair := rfl
@[simp] theorem State.emit_mem (s : State) (e : Emit) : (s.emit e).mem = s.mem := rfl
@[simp] theorem State.emit_oper (s : State) (e : Emit) : (s.emit e).oper = s.oper := rfl
@[simp] theorem State.setV_now (s : State) (i j : Nat) (v : Val) : (s.setV i j v).now = s.now := rfl
@[simp] theorem State.setV_out (s : State) (i j : Nat) (v : Val) : (s.setV i j v).out = s.out := rfl
@[simp] theorem State.setV_pending (s : State) (i j : Nat) (v : Val) : (s.setV i j v).pending = s.pending := rfl
@[simp] theorem State.setV_free (s : State) (i j : Nat) (v : Val) : (s.setV i j v).free = s.free := rfl
@[simp] theorem State.setV_live (s : State) (i j : Nat) (v : Val) : (s.setV i j v).live = objPut s.live (key i j) v := rfl
@[simp] theorem State.setV_pend (s : State) (i j : Nat) (v : Val) : (s.setV i j v).pend = s.pend := rfl
@[simp] theorem State.setV_committed (s : State) (i j : Nat) (v : Val) : (s.setV i j v).committed = s.committed := rfl
@[simp] theorem State.setV_comm (s : State) (i j : Nat) (v : Val) : (s.setV i j v).comm = s.comm := rfl
@[simp] theorem State.setV_wait (s : State) (i j : Nat) (v : Val) : (s.setV i j v).wait = s.wait := rfl
@[simp] theorem State.setV_sys (s : State) (i j : Nat) (v : Val) : (s.setV i j v).sys = s.sys := rfl
@[simp] theorem State.setV_clk (s : State) (i j : Nat) (v : Val) : (s.setV i j v).clk = s.clk := rfl
@[simp] theorem State.setV_flt (s : State) (i j : Nat) (v : Val) : (s.setV i j v).flt = s.flt := rfl
@[simp] theorem State.setV_gran (s : State) (i j : Nat) (v : Val) : (s.setV i j v).gran = s.gran := rfl
@[simp] theorem State.setV_pwr (s : State) (i j : Nat) (v : Val) : (s.setV i j v).pwr = s.pwr := rfl
@[simp] theorem State.setV_wear (s : State) (i j : Nat) (v : Val) : (s.setV i j v).wear = s.wear := rfl
@[simp] theorem State.setV_inp (s : State) (i j : Nat) (v : Val) : (s.setV i j v).inp = s.inp := rfl
@[simp] theorem State.setV_comp (s : State) (i j : Nat) (v : Val) : (s.setV i j v).comp = s.comp := rfl
@[simp] theorem State.setV_pipe (s : State) (i j : Nat) (v : Val) : (s.setV i j v).pipe = s.pipe := rfl
@[simp] theorem State.setV_outp (s : State) (i j : Nat) (v : Val) : (s.setV i j v).outp = s.outp := rfl
@[simp] theorem State.setV_servo (s : State) (i j : Nat) (v : Val) : (s.setV i j v).servo = s.servo := rfl
@[simp] theorem State.setV_audio (s : State) (i j : Nat) (v : Val) : (s.setV i j v).audio = s.audio := rfl
@[simp] theorem State.setV_flue (s : State) (i j : Nat) (v : Val) : (s.setV i j v).flue = s.flue := rfl
@[simp] theorem State.setV_council (s : State) (i j : Nat) (v : Val) : (s.setV i j v).council = s.council := rfl
@[simp] theorem State.setV_pair (s : State) (i j : Nat) (v : Val) : (s.setV i j v).pair = s.pair := rfl
@[simp] theorem State.setV_mem (s : State) (i j : Nat) (v : Val) : (s.setV i j v).mem = s.mem := rfl
@[simp] theorem State.setV_oper (s : State) (i j : Nat) (v : Val) : (s.setV i j v).oper = s.oper := rfl
@[simp] theorem State.setN_now (s : State) (i j v : Nat) : (s.setN i j v).now = s.now := rfl
@[simp] theorem State.setN_out (s : State) (i j v : Nat) : (s.setN i j v).out = s.out := rfl
@[simp] theorem State.setN_pending (s : State) (i j v : Nat) : (s.setN i j v).pending = s.pending := rfl
@[simp] theorem State.setN_free (s : State) (i j v : Nat) : (s.setN i j v).free = s.free := rfl
@[simp] theorem State.setN_live (s : State) (i j v : Nat) : (s.setN i j v).live = objPut s.live (key i j) (.n v) := rfl
@[simp] theorem State.setN_pend (s : State) (i j v : Nat) : (s.setN i j v).pend = s.pend := rfl
@[simp] theorem State.setN_committed (s : State) (i j v : Nat) : (s.setN i j v).committed = s.committed := rfl
@[simp] theorem State.setN_comm (s : State) (i j v : Nat) : (s.setN i j v).comm = s.comm := rfl
@[simp] theorem State.setN_wait (s : State) (i j v : Nat) : (s.setN i j v).wait = s.wait := rfl
@[simp] theorem State.setN_sys (s : State) (i j v : Nat) : (s.setN i j v).sys = s.sys := rfl
@[simp] theorem State.setN_clk (s : State) (i j v : Nat) : (s.setN i j v).clk = s.clk := rfl
@[simp] theorem State.setN_flt (s : State) (i j v : Nat) : (s.setN i j v).flt = s.flt := rfl
@[simp] theorem State.setN_gran (s : State) (i j v : Nat) : (s.setN i j v).gran = s.gran := rfl
@[simp] theorem State.setN_pwr (s : State) (i j v : Nat) : (s.setN i j v).pwr = s.pwr := rfl
@[simp] theorem State.setN_wear (s : State) (i j v : Nat) : (s.setN i j v).wear = s.wear := rfl
@[simp] theorem State.setN_inp (s : State) (i j v : Nat) : (s.setN i j v).inp = s.inp := rfl
@[simp] theorem State.setN_comp (s : State) (i j v : Nat) : (s.setN i j v).comp = s.comp := rfl
@[simp] theorem State.setN_pipe (s : State) (i j v : Nat) : (s.setN i j v).pipe = s.pipe := rfl
@[simp] theorem State.setN_outp (s : State) (i j v : Nat) : (s.setN i j v).outp = s.outp := rfl
@[simp] theorem State.setN_servo (s : State) (i j v : Nat) : (s.setN i j v).servo = s.servo := rfl
@[simp] theorem State.setN_audio (s : State) (i j v : Nat) : (s.setN i j v).audio = s.audio := rfl
@[simp] theorem State.setN_flue (s : State) (i j v : Nat) : (s.setN i j v).flue = s.flue := rfl
@[simp] theorem State.setN_council (s : State) (i j v : Nat) : (s.setN i j v).council = s.council := rfl
@[simp] theorem State.setN_pair (s : State) (i j v : Nat) : (s.setN i j v).pair = s.pair := rfl
@[simp] theorem State.setN_mem (s : State) (i j v : Nat) : (s.setN i j v).mem = s.mem := rfl
@[simp] theorem State.setN_oper (s : State) (i j v : Nat) : (s.setN i j v).oper = s.oper := rfl
@[simp] theorem State.setB_now (s : State) (i j : Nat) (b : List Byte) : (s.setB i j b).now = s.now := rfl
@[simp] theorem State.setB_out (s : State) (i j : Nat) (b : List Byte) : (s.setB i j b).out = s.out := rfl
@[simp] theorem State.setB_pending (s : State) (i j : Nat) (b : List Byte) : (s.setB i j b).pending = s.pending := rfl
@[simp] theorem State.setB_free (s : State) (i j : Nat) (b : List Byte) : (s.setB i j b).free = s.free := rfl
@[simp] theorem State.setB_live (s : State) (i j : Nat) (b : List Byte) : (s.setB i j b).live = objPut s.live (key i j) (.b b) := rfl
@[simp] theorem State.setB_pend (s : State) (i j : Nat) (b : List Byte) : (s.setB i j b).pend = s.pend := rfl
@[simp] theorem State.setB_committed (s : State) (i j : Nat) (b : List Byte) : (s.setB i j b).committed = s.committed := rfl
@[simp] theorem State.setB_comm (s : State) (i j : Nat) (b : List Byte) : (s.setB i j b).comm = s.comm := rfl
@[simp] theorem State.setB_wait (s : State) (i j : Nat) (b : List Byte) : (s.setB i j b).wait = s.wait := rfl
@[simp] theorem State.setB_sys (s : State) (i j : Nat) (b : List Byte) : (s.setB i j b).sys = s.sys := rfl
@[simp] theorem State.setB_clk (s : State) (i j : Nat) (b : List Byte) : (s.setB i j b).clk = s.clk := rfl
@[simp] theorem State.setB_flt (s : State) (i j : Nat) (b : List Byte) : (s.setB i j b).flt = s.flt := rfl
@[simp] theorem State.setB_gran (s : State) (i j : Nat) (b : List Byte) : (s.setB i j b).gran = s.gran := rfl
@[simp] theorem State.setB_pwr (s : State) (i j : Nat) (b : List Byte) : (s.setB i j b).pwr = s.pwr := rfl
@[simp] theorem State.setB_wear (s : State) (i j : Nat) (b : List Byte) : (s.setB i j b).wear = s.wear := rfl
@[simp] theorem State.setB_inp (s : State) (i j : Nat) (b : List Byte) : (s.setB i j b).inp = s.inp := rfl
@[simp] theorem State.setB_comp (s : State) (i j : Nat) (b : List Byte) : (s.setB i j b).comp = s.comp := rfl
@[simp] theorem State.setB_pipe (s : State) (i j : Nat) (b : List Byte) : (s.setB i j b).pipe = s.pipe := rfl
@[simp] theorem State.setB_outp (s : State) (i j : Nat) (b : List Byte) : (s.setB i j b).outp = s.outp := rfl
@[simp] theorem State.setB_servo (s : State) (i j : Nat) (b : List Byte) : (s.setB i j b).servo = s.servo := rfl
@[simp] theorem State.setB_audio (s : State) (i j : Nat) (b : List Byte) : (s.setB i j b).audio = s.audio := rfl
@[simp] theorem State.setB_flue (s : State) (i j : Nat) (b : List Byte) : (s.setB i j b).flue = s.flue := rfl
@[simp] theorem State.setB_council (s : State) (i j : Nat) (b : List Byte) : (s.setB i j b).council = s.council := rfl
@[simp] theorem State.setB_pair (s : State) (i j : Nat) (b : List Byte) : (s.setB i j b).pair = s.pair := rfl
@[simp] theorem State.setB_mem (s : State) (i j : Nat) (b : List Byte) : (s.setB i j b).mem = s.mem := rfl
@[simp] theorem State.setB_oper (s : State) (i j : Nat) (b : List Byte) : (s.setB i j b).oper = s.oper := rfl
@[simp] theorem State.addN_now (s : State) (i j d : Nat) : (s.addN i j d).now = s.now := rfl
@[simp] theorem State.addN_out (s : State) (i j d : Nat) : (s.addN i j d).out = s.out := rfl
@[simp] theorem State.addN_pending (s : State) (i j d : Nat) : (s.addN i j d).pending = s.pending := rfl
@[simp] theorem State.addN_free (s : State) (i j d : Nat) : (s.addN i j d).free = s.free := rfl
@[simp] theorem State.addN_pend (s : State) (i j d : Nat) : (s.addN i j d).pend = s.pend := rfl
@[simp] theorem State.addN_committed (s : State) (i j d : Nat) : (s.addN i j d).committed = s.committed := rfl
@[simp] theorem State.addN_comm (s : State) (i j d : Nat) : (s.addN i j d).comm = s.comm := rfl
@[simp] theorem State.addN_wait (s : State) (i j d : Nat) : (s.addN i j d).wait = s.wait := rfl
@[simp] theorem State.addN_sys (s : State) (i j d : Nat) : (s.addN i j d).sys = s.sys := rfl
@[simp] theorem State.addN_clk (s : State) (i j d : Nat) : (s.addN i j d).clk = s.clk := rfl
@[simp] theorem State.addN_flt (s : State) (i j d : Nat) : (s.addN i j d).flt = s.flt := rfl
@[simp] theorem State.addN_gran (s : State) (i j d : Nat) : (s.addN i j d).gran = s.gran := rfl
@[simp] theorem State.addN_pwr (s : State) (i j d : Nat) : (s.addN i j d).pwr = s.pwr := rfl
@[simp] theorem State.addN_wear (s : State) (i j d : Nat) : (s.addN i j d).wear = s.wear := rfl
@[simp] theorem State.addN_inp (s : State) (i j d : Nat) : (s.addN i j d).inp = s.inp := rfl
@[simp] theorem State.addN_comp (s : State) (i j d : Nat) : (s.addN i j d).comp = s.comp := rfl
@[simp] theorem State.addN_pipe (s : State) (i j d : Nat) : (s.addN i j d).pipe = s.pipe := rfl
@[simp] theorem State.addN_outp (s : State) (i j d : Nat) : (s.addN i j d).outp = s.outp := rfl
@[simp] theorem State.addN_servo (s : State) (i j d : Nat) : (s.addN i j d).servo = s.servo := rfl
@[simp] theorem State.addN_audio (s : State) (i j d : Nat) : (s.addN i j d).audio = s.audio := rfl
@[simp] theorem State.addN_flue (s : State) (i j d : Nat) : (s.addN i j d).flue = s.flue := rfl
@[simp] theorem State.addN_council (s : State) (i j d : Nat) : (s.addN i j d).council = s.council := rfl
@[simp] theorem State.addN_pair (s : State) (i j d : Nat) : (s.addN i j d).pair = s.pair := rfl
@[simp] theorem State.addN_mem (s : State) (i j d : Nat) : (s.addN i j d).mem = s.mem := rfl
@[simp] theorem State.addN_oper (s : State) (i j d : Nat) : (s.addN i j d).oper = s.oper := rfl
@[simp] theorem State.inc_now (s : State) (i j : Nat) : (s.inc i j).now = s.now := rfl
@[simp] theorem State.inc_out (s : State) (i j : Nat) : (s.inc i j).out = s.out := rfl
@[simp] theorem State.inc_pending (s : State) (i j : Nat) : (s.inc i j).pending = s.pending := rfl
@[simp] theorem State.inc_free (s : State) (i j : Nat) : (s.inc i j).free = s.free := rfl
@[simp] theorem State.inc_pend (s : State) (i j : Nat) : (s.inc i j).pend = s.pend := rfl
@[simp] theorem State.inc_committed (s : State) (i j : Nat) : (s.inc i j).committed = s.committed := rfl
@[simp] theorem State.inc_comm (s : State) (i j : Nat) : (s.inc i j).comm = s.comm := rfl
@[simp] theorem State.inc_wait (s : State) (i j : Nat) : (s.inc i j).wait = s.wait := rfl
@[simp] theorem State.inc_sys (s : State) (i j : Nat) : (s.inc i j).sys = s.sys := rfl
@[simp] theorem State.inc_clk (s : State) (i j : Nat) : (s.inc i j).clk = s.clk := rfl
@[simp] theorem State.inc_flt (s : State) (i j : Nat) : (s.inc i j).flt = s.flt := rfl
@[simp] theorem State.inc_gran (s : State) (i j : Nat) : (s.inc i j).gran = s.gran := rfl
@[simp] theorem State.inc_pwr (s : State) (i j : Nat) : (s.inc i j).pwr = s.pwr := rfl
@[simp] theorem State.inc_wear (s : State) (i j : Nat) : (s.inc i j).wear = s.wear := rfl
@[simp] theorem State.inc_inp (s : State) (i j : Nat) : (s.inc i j).inp = s.inp := rfl
@[simp] theorem State.inc_comp (s : State) (i j : Nat) : (s.inc i j).comp = s.comp := rfl
@[simp] theorem State.inc_pipe (s : State) (i j : Nat) : (s.inc i j).pipe = s.pipe := rfl
@[simp] theorem State.inc_outp (s : State) (i j : Nat) : (s.inc i j).outp = s.outp := rfl
@[simp] theorem State.inc_servo (s : State) (i j : Nat) : (s.inc i j).servo = s.servo := rfl
@[simp] theorem State.inc_audio (s : State) (i j : Nat) : (s.inc i j).audio = s.audio := rfl
@[simp] theorem State.inc_flue (s : State) (i j : Nat) : (s.inc i j).flue = s.flue := rfl
@[simp] theorem State.inc_council (s : State) (i j : Nat) : (s.inc i j).council = s.council := rfl
@[simp] theorem State.inc_pair (s : State) (i j : Nat) : (s.inc i j).pair = s.pair := rfl
@[simp] theorem State.inc_mem (s : State) (i j : Nat) : (s.inc i j).mem = s.mem := rfl
@[simp] theorem State.inc_oper (s : State) (i j : Nat) : (s.inc i j).oper = s.oper := rfl
@[simp] theorem State.syncClk_now (s : State) : (s.syncClk).now = s.now := rfl
@[simp] theorem State.syncClk_out (s : State) : (s.syncClk).out = s.out := rfl
@[simp] theorem State.syncClk_pending (s : State) : (s.syncClk).pending = s.pending := rfl
@[simp] theorem State.syncClk_free (s : State) : (s.syncClk).free = s.free := rfl
@[simp] theorem State.syncClk_live (s : State) : (s.syncClk).live = s.live := rfl
@[simp] theorem State.syncClk_pend (s : State) : (s.syncClk).pend = s.pend := rfl
@[simp] theorem State.syncClk_committed (s : State) : (s.syncClk).committed = s.committed := rfl
@[simp] theorem State.syncClk_comm (s : State) : (s.syncClk).comm = s.comm := rfl
@[simp] theorem State.syncClk_wait (s : State) : (s.syncClk).wait = s.wait := rfl
@[simp] theorem State.syncClk_sys (s : State) : (s.syncClk).sys = s.sys := rfl
@[simp] theorem State.syncClk_clk (s : State) : (s.syncClk).clk = { s.clk with mono := s.mono, at_ := s.now } := rfl
@[simp] theorem State.syncClk_flt (s : State) : (s.syncClk).flt = s.flt := rfl
@[simp] theorem State.syncClk_gran (s : State) : (s.syncClk).gran = s.gran := rfl
@[simp] theorem State.syncClk_pwr (s : State) : (s.syncClk).pwr = s.pwr := rfl
@[simp] theorem State.syncClk_wear (s : State) : (s.syncClk).wear = s.wear := rfl
@[simp] theorem State.syncClk_inp (s : State) : (s.syncClk).inp = s.inp := rfl
@[simp] theorem State.syncClk_comp (s : State) : (s.syncClk).comp = s.comp := rfl
@[simp] theorem State.syncClk_pipe (s : State) : (s.syncClk).pipe = s.pipe := rfl
@[simp] theorem State.syncClk_outp (s : State) : (s.syncClk).outp = s.outp := rfl
@[simp] theorem State.syncClk_servo (s : State) : (s.syncClk).servo = s.servo := rfl
@[simp] theorem State.syncClk_audio (s : State) : (s.syncClk).audio = s.audio := rfl
@[simp] theorem State.syncClk_flue (s : State) : (s.syncClk).flue = s.flue := rfl
@[simp] theorem State.syncClk_council (s : State) : (s.syncClk).council = s.council := rfl
@[simp] theorem State.syncClk_pair (s : State) : (s.syncClk).pair = s.pair := rfl
@[simp] theorem State.syncClk_mem (s : State) : (s.syncClk).mem = s.mem := rfl
@[simp] theorem State.syncClk_oper (s : State) : (s.syncClk).oper = s.oper := rfl
@[simp] theorem State.updPwr_now (s : State) (f : Power → Power) : (s.updPwr f).now = s.now := rfl
@[simp] theorem State.updPwr_out (s : State) (f : Power → Power) : (s.updPwr f).out = s.out := rfl
@[simp] theorem State.updPwr_pending (s : State) (f : Power → Power) : (s.updPwr f).pending = s.pending := rfl
@[simp] theorem State.updPwr_free (s : State) (f : Power → Power) : (s.updPwr f).free = s.free := rfl
@[simp] theorem State.updPwr_live (s : State) (f : Power → Power) : (s.updPwr f).live = s.live := rfl
@[simp] theorem State.updPwr_pend (s : State) (f : Power → Power) : (s.updPwr f).pend = s.pend := rfl
@[simp] theorem State.updPwr_committed (s : State) (f : Power → Power) : (s.updPwr f).committed = s.committed := rfl
@[simp] theorem State.updPwr_comm (s : State) (f : Power → Power) : (s.updPwr f).comm = s.comm := rfl
@[simp] theorem State.updPwr_wait (s : State) (f : Power → Power) : (s.updPwr f).wait = s.wait := rfl
@[simp] theorem State.updPwr_sys (s : State) (f : Power → Power) : (s.updPwr f).sys = s.sys := rfl
@[simp] theorem State.updPwr_clk (s : State) (f : Power → Power) : (s.updPwr f).clk = s.clk := rfl
@[simp] theorem State.updPwr_flt (s : State) (f : Power → Power) : (s.updPwr f).flt = s.flt := rfl
@[simp] theorem State.updPwr_gran (s : State) (f : Power → Power) : (s.updPwr f).gran = s.gran := rfl
@[simp] theorem State.updPwr_pwr (s : State) (f : Power → Power) : (s.updPwr f).pwr = f s.pwr := rfl
@[simp] theorem State.updPwr_wear (s : State) (f : Power → Power) : (s.updPwr f).wear = s.wear := rfl
@[simp] theorem State.updPwr_inp (s : State) (f : Power → Power) : (s.updPwr f).inp = s.inp := rfl
@[simp] theorem State.updPwr_comp (s : State) (f : Power → Power) : (s.updPwr f).comp = s.comp := rfl
@[simp] theorem State.updPwr_pipe (s : State) (f : Power → Power) : (s.updPwr f).pipe = s.pipe := rfl
@[simp] theorem State.updPwr_outp (s : State) (f : Power → Power) : (s.updPwr f).outp = s.outp := rfl
@[simp] theorem State.updPwr_servo (s : State) (f : Power → Power) : (s.updPwr f).servo = s.servo := rfl
@[simp] theorem State.updPwr_audio (s : State) (f : Power → Power) : (s.updPwr f).audio = s.audio := rfl
@[simp] theorem State.updPwr_flue (s : State) (f : Power → Power) : (s.updPwr f).flue = s.flue := rfl
@[simp] theorem State.updPwr_council (s : State) (f : Power → Power) : (s.updPwr f).council = s.council := rfl
@[simp] theorem State.updPwr_pair (s : State) (f : Power → Power) : (s.updPwr f).pair = s.pair := rfl
@[simp] theorem State.updPwr_mem (s : State) (f : Power → Power) : (s.updPwr f).mem = s.mem := rfl
@[simp] theorem State.updPwr_oper (s : State) (f : Power → Power) : (s.updPwr f).oper = s.oper := rfl
@[simp] theorem State.updPipe_now (s : State) (f : Pipe → Pipe) : (s.updPipe f).now = s.now := rfl
@[simp] theorem State.updPipe_out (s : State) (f : Pipe → Pipe) : (s.updPipe f).out = s.out := rfl
@[simp] theorem State.updPipe_pending (s : State) (f : Pipe → Pipe) : (s.updPipe f).pending = s.pending := rfl
@[simp] theorem State.updPipe_free (s : State) (f : Pipe → Pipe) : (s.updPipe f).free = s.free := rfl
@[simp] theorem State.updPipe_live (s : State) (f : Pipe → Pipe) : (s.updPipe f).live = s.live := rfl
@[simp] theorem State.updPipe_pend (s : State) (f : Pipe → Pipe) : (s.updPipe f).pend = s.pend := rfl
@[simp] theorem State.updPipe_committed (s : State) (f : Pipe → Pipe) : (s.updPipe f).committed = s.committed := rfl
@[simp] theorem State.updPipe_comm (s : State) (f : Pipe → Pipe) : (s.updPipe f).comm = s.comm := rfl
@[simp] theorem State.updPipe_wait (s : State) (f : Pipe → Pipe) : (s.updPipe f).wait = s.wait := rfl
@[simp] theorem State.updPipe_sys (s : State) (f : Pipe → Pipe) : (s.updPipe f).sys = s.sys := rfl
@[simp] theorem State.updPipe_clk (s : State) (f : Pipe → Pipe) : (s.updPipe f).clk = s.clk := rfl
@[simp] theorem State.updPipe_flt (s : State) (f : Pipe → Pipe) : (s.updPipe f).flt = s.flt := rfl
@[simp] theorem State.updPipe_gran (s : State) (f : Pipe → Pipe) : (s.updPipe f).gran = s.gran := rfl
@[simp] theorem State.updPipe_pwr (s : State) (f : Pipe → Pipe) : (s.updPipe f).pwr = s.pwr := rfl
@[simp] theorem State.updPipe_wear (s : State) (f : Pipe → Pipe) : (s.updPipe f).wear = s.wear := rfl
@[simp] theorem State.updPipe_inp (s : State) (f : Pipe → Pipe) : (s.updPipe f).inp = s.inp := rfl
@[simp] theorem State.updPipe_comp (s : State) (f : Pipe → Pipe) : (s.updPipe f).comp = s.comp := rfl
@[simp] theorem State.updPipe_pipe (s : State) (f : Pipe → Pipe) : (s.updPipe f).pipe = f s.pipe := rfl
@[simp] theorem State.updPipe_outp (s : State) (f : Pipe → Pipe) : (s.updPipe f).outp = s.outp := rfl
@[simp] theorem State.updPipe_servo (s : State) (f : Pipe → Pipe) : (s.updPipe f).servo = s.servo := rfl
@[simp] theorem State.updPipe_audio (s : State) (f : Pipe → Pipe) : (s.updPipe f).audio = s.audio := rfl
@[simp] theorem State.updPipe_flue (s : State) (f : Pipe → Pipe) : (s.updPipe f).flue = s.flue := rfl
@[simp] theorem State.updPipe_council (s : State) (f : Pipe → Pipe) : (s.updPipe f).council = s.council := rfl
@[simp] theorem State.updPipe_pair (s : State) (f : Pipe → Pipe) : (s.updPipe f).pair = s.pair := rfl
@[simp] theorem State.updPipe_mem (s : State) (f : Pipe → Pipe) : (s.updPipe f).mem = s.mem := rfl
@[simp] theorem State.updPipe_oper (s : State) (f : Pipe → Pipe) : (s.updPipe f).oper = s.oper := rfl
@[simp] theorem State.updOutp_now (s : State) (f : Output → Output) : (s.updOutp f).now = s.now := rfl
@[simp] theorem State.updOutp_out (s : State) (f : Output → Output) : (s.updOutp f).out = s.out := rfl
@[simp] theorem State.updOutp_pending (s : State) (f : Output → Output) : (s.updOutp f).pending = s.pending := rfl
@[simp] theorem State.updOutp_free (s : State) (f : Output → Output) : (s.updOutp f).free = s.free := rfl
@[simp] theorem State.updOutp_live (s : State) (f : Output → Output) : (s.updOutp f).live = s.live := rfl
@[simp] theorem State.updOutp_pend (s : State) (f : Output → Output) : (s.updOutp f).pend = s.pend := rfl
@[simp] theorem State.updOutp_committed (s : State) (f : Output → Output) : (s.updOutp f).committed = s.committed := rfl
@[simp] theorem State.updOutp_comm (s : State) (f : Output → Output) : (s.updOutp f).comm = s.comm := rfl
@[simp] theorem State.updOutp_wait (s : State) (f : Output → Output) : (s.updOutp f).wait = s.wait := rfl
@[simp] theorem State.updOutp_sys (s : State) (f : Output → Output) : (s.updOutp f).sys = s.sys := rfl
@[simp] theorem State.updOutp_clk (s : State) (f : Output → Output) : (s.updOutp f).clk = s.clk := rfl
@[simp] theorem State.updOutp_flt (s : State) (f : Output → Output) : (s.updOutp f).flt = s.flt := rfl
@[simp] theorem State.updOutp_gran (s : State) (f : Output → Output) : (s.updOutp f).gran = s.gran := rfl
@[simp] theorem State.updOutp_pwr (s : State) (f : Output → Output) : (s.updOutp f).pwr = s.pwr := rfl
@[simp] theorem State.updOutp_wear (s : State) (f : Output → Output) : (s.updOutp f).wear = s.wear := rfl
@[simp] theorem State.updOutp_inp (s : State) (f : Output → Output) : (s.updOutp f).inp = s.inp := rfl
@[simp] theorem State.updOutp_comp (s : State) (f : Output → Output) : (s.updOutp f).comp = s.comp := rfl
@[simp] theorem State.updOutp_pipe (s : State) (f : Output → Output) : (s.updOutp f).pipe = s.pipe := rfl
@[simp] theorem State.updOutp_outp (s : State) (f : Output → Output) : (s.updOutp f).outp = f s.outp := rfl
@[simp] theorem State.updOutp_servo (s : State) (f : Output → Output) : (s.updOutp f).servo = s.servo := rfl
@[simp] theorem State.updOutp_audio (s : State) (f : Output → Output) : (s.updOutp f).audio = s.audio := rfl
@[simp] theorem State.updOutp_flue (s : State) (f : Output → Output) : (s.updOutp f).flue = s.flue := rfl
@[simp] theorem State.updOutp_council (s : State) (f : Output → Output) : (s.updOutp f).council = s.council := rfl
@[simp] theorem State.updOutp_pair (s : State) (f : Output → Output) : (s.updOutp f).pair = s.pair := rfl
@[simp] theorem State.updOutp_mem (s : State) (f : Output → Output) : (s.updOutp f).mem = s.mem := rfl
@[simp] theorem State.updOutp_oper (s : State) (f : Output → Output) : (s.updOutp f).oper = s.oper := rfl
@[simp] theorem State.updServo_now (s : State) (f : Servo → Servo) : (s.updServo f).now = s.now := rfl
@[simp] theorem State.updServo_out (s : State) (f : Servo → Servo) : (s.updServo f).out = s.out := rfl
@[simp] theorem State.updServo_pending (s : State) (f : Servo → Servo) : (s.updServo f).pending = s.pending := rfl
@[simp] theorem State.updServo_free (s : State) (f : Servo → Servo) : (s.updServo f).free = s.free := rfl
@[simp] theorem State.updServo_live (s : State) (f : Servo → Servo) : (s.updServo f).live = s.live := rfl
@[simp] theorem State.updServo_pend (s : State) (f : Servo → Servo) : (s.updServo f).pend = s.pend := rfl
@[simp] theorem State.updServo_committed (s : State) (f : Servo → Servo) : (s.updServo f).committed = s.committed := rfl
@[simp] theorem State.updServo_comm (s : State) (f : Servo → Servo) : (s.updServo f).comm = s.comm := rfl
@[simp] theorem State.updServo_wait (s : State) (f : Servo → Servo) : (s.updServo f).wait = s.wait := rfl
@[simp] theorem State.updServo_sys (s : State) (f : Servo → Servo) : (s.updServo f).sys = s.sys := rfl
@[simp] theorem State.updServo_clk (s : State) (f : Servo → Servo) : (s.updServo f).clk = s.clk := rfl
@[simp] theorem State.updServo_flt (s : State) (f : Servo → Servo) : (s.updServo f).flt = s.flt := rfl
@[simp] theorem State.updServo_gran (s : State) (f : Servo → Servo) : (s.updServo f).gran = s.gran := rfl
@[simp] theorem State.updServo_pwr (s : State) (f : Servo → Servo) : (s.updServo f).pwr = s.pwr := rfl
@[simp] theorem State.updServo_wear (s : State) (f : Servo → Servo) : (s.updServo f).wear = s.wear := rfl
@[simp] theorem State.updServo_inp (s : State) (f : Servo → Servo) : (s.updServo f).inp = s.inp := rfl
@[simp] theorem State.updServo_comp (s : State) (f : Servo → Servo) : (s.updServo f).comp = s.comp := rfl
@[simp] theorem State.updServo_pipe (s : State) (f : Servo → Servo) : (s.updServo f).pipe = s.pipe := rfl
@[simp] theorem State.updServo_outp (s : State) (f : Servo → Servo) : (s.updServo f).outp = s.outp := rfl
@[simp] theorem State.updServo_servo (s : State) (f : Servo → Servo) : (s.updServo f).servo = f s.servo := rfl
@[simp] theorem State.updServo_audio (s : State) (f : Servo → Servo) : (s.updServo f).audio = s.audio := rfl
@[simp] theorem State.updServo_flue (s : State) (f : Servo → Servo) : (s.updServo f).flue = s.flue := rfl
@[simp] theorem State.updServo_council (s : State) (f : Servo → Servo) : (s.updServo f).council = s.council := rfl
@[simp] theorem State.updServo_pair (s : State) (f : Servo → Servo) : (s.updServo f).pair = s.pair := rfl
@[simp] theorem State.updServo_mem (s : State) (f : Servo → Servo) : (s.updServo f).mem = s.mem := rfl
@[simp] theorem State.updServo_oper (s : State) (f : Servo → Servo) : (s.updServo f).oper = s.oper := rfl
@[simp] theorem State.updAudio_now (s : State) (f : Audio → Audio) : (s.updAudio f).now = s.now := rfl
@[simp] theorem State.updAudio_out (s : State) (f : Audio → Audio) : (s.updAudio f).out = s.out := rfl
@[simp] theorem State.updAudio_pending (s : State) (f : Audio → Audio) : (s.updAudio f).pending = s.pending := rfl
@[simp] theorem State.updAudio_free (s : State) (f : Audio → Audio) : (s.updAudio f).free = s.free := rfl
@[simp] theorem State.updAudio_live (s : State) (f : Audio → Audio) : (s.updAudio f).live = s.live := rfl
@[simp] theorem State.updAudio_pend (s : State) (f : Audio → Audio) : (s.updAudio f).pend = s.pend := rfl
@[simp] theorem State.updAudio_committed (s : State) (f : Audio → Audio) : (s.updAudio f).committed = s.committed := rfl
@[simp] theorem State.updAudio_comm (s : State) (f : Audio → Audio) : (s.updAudio f).comm = s.comm := rfl
@[simp] theorem State.updAudio_wait (s : State) (f : Audio → Audio) : (s.updAudio f).wait = s.wait := rfl
@[simp] theorem State.updAudio_sys (s : State) (f : Audio → Audio) : (s.updAudio f).sys = s.sys := rfl
@[simp] theorem State.updAudio_clk (s : State) (f : Audio → Audio) : (s.updAudio f).clk = s.clk := rfl
@[simp] theorem State.updAudio_flt (s : State) (f : Audio → Audio) : (s.updAudio f).flt = s.flt := rfl
@[simp] theorem State.updAudio_gran (s : State) (f : Audio → Audio) : (s.updAudio f).gran = s.gran := rfl
@[simp] theorem State.updAudio_pwr (s : State) (f : Audio → Audio) : (s.updAudio f).pwr = s.pwr := rfl
@[simp] theorem State.updAudio_wear (s : State) (f : Audio → Audio) : (s.updAudio f).wear = s.wear := rfl
@[simp] theorem State.updAudio_inp (s : State) (f : Audio → Audio) : (s.updAudio f).inp = s.inp := rfl
@[simp] theorem State.updAudio_comp (s : State) (f : Audio → Audio) : (s.updAudio f).comp = s.comp := rfl
@[simp] theorem State.updAudio_pipe (s : State) (f : Audio → Audio) : (s.updAudio f).pipe = s.pipe := rfl
@[simp] theorem State.updAudio_outp (s : State) (f : Audio → Audio) : (s.updAudio f).outp = s.outp := rfl
@[simp] theorem State.updAudio_servo (s : State) (f : Audio → Audio) : (s.updAudio f).servo = s.servo := rfl
@[simp] theorem State.updAudio_audio (s : State) (f : Audio → Audio) : (s.updAudio f).audio = f s.audio := rfl
@[simp] theorem State.updAudio_flue (s : State) (f : Audio → Audio) : (s.updAudio f).flue = s.flue := rfl
@[simp] theorem State.updAudio_council (s : State) (f : Audio → Audio) : (s.updAudio f).council = s.council := rfl
@[simp] theorem State.updAudio_pair (s : State) (f : Audio → Audio) : (s.updAudio f).pair = s.pair := rfl
@[simp] theorem State.updAudio_mem (s : State) (f : Audio → Audio) : (s.updAudio f).mem = s.mem := rfl
@[simp] theorem State.updAudio_oper (s : State) (f : Audio → Audio) : (s.updAudio f).oper = s.oper := rfl
@[simp] theorem State.updFlue_now (s : State) (f : Flue → Flue) : (s.updFlue f).now = s.now := rfl
@[simp] theorem State.updFlue_out (s : State) (f : Flue → Flue) : (s.updFlue f).out = s.out := rfl
@[simp] theorem State.updFlue_pending (s : State) (f : Flue → Flue) : (s.updFlue f).pending = s.pending := rfl
@[simp] theorem State.updFlue_free (s : State) (f : Flue → Flue) : (s.updFlue f).free = s.free := rfl
@[simp] theorem State.updFlue_live (s : State) (f : Flue → Flue) : (s.updFlue f).live = s.live := rfl
@[simp] theorem State.updFlue_pend (s : State) (f : Flue → Flue) : (s.updFlue f).pend = s.pend := rfl
@[simp] theorem State.updFlue_committed (s : State) (f : Flue → Flue) : (s.updFlue f).committed = s.committed := rfl
@[simp] theorem State.updFlue_comm (s : State) (f : Flue → Flue) : (s.updFlue f).comm = s.comm := rfl
@[simp] theorem State.updFlue_wait (s : State) (f : Flue → Flue) : (s.updFlue f).wait = s.wait := rfl
@[simp] theorem State.updFlue_sys (s : State) (f : Flue → Flue) : (s.updFlue f).sys = s.sys := rfl
@[simp] theorem State.updFlue_clk (s : State) (f : Flue → Flue) : (s.updFlue f).clk = s.clk := rfl
@[simp] theorem State.updFlue_flt (s : State) (f : Flue → Flue) : (s.updFlue f).flt = s.flt := rfl
@[simp] theorem State.updFlue_gran (s : State) (f : Flue → Flue) : (s.updFlue f).gran = s.gran := rfl
@[simp] theorem State.updFlue_pwr (s : State) (f : Flue → Flue) : (s.updFlue f).pwr = s.pwr := rfl
@[simp] theorem State.updFlue_wear (s : State) (f : Flue → Flue) : (s.updFlue f).wear = s.wear := rfl
@[simp] theorem State.updFlue_inp (s : State) (f : Flue → Flue) : (s.updFlue f).inp = s.inp := rfl
@[simp] theorem State.updFlue_comp (s : State) (f : Flue → Flue) : (s.updFlue f).comp = s.comp := rfl
@[simp] theorem State.updFlue_pipe (s : State) (f : Flue → Flue) : (s.updFlue f).pipe = s.pipe := rfl
@[simp] theorem State.updFlue_outp (s : State) (f : Flue → Flue) : (s.updFlue f).outp = s.outp := rfl
@[simp] theorem State.updFlue_servo (s : State) (f : Flue → Flue) : (s.updFlue f).servo = s.servo := rfl
@[simp] theorem State.updFlue_audio (s : State) (f : Flue → Flue) : (s.updFlue f).audio = s.audio := rfl
@[simp] theorem State.updFlue_flue (s : State) (f : Flue → Flue) : (s.updFlue f).flue = f s.flue := rfl
@[simp] theorem State.updFlue_council (s : State) (f : Flue → Flue) : (s.updFlue f).council = s.council := rfl
@[simp] theorem State.updFlue_pair (s : State) (f : Flue → Flue) : (s.updFlue f).pair = s.pair := rfl
@[simp] theorem State.updFlue_mem (s : State) (f : Flue → Flue) : (s.updFlue f).mem = s.mem := rfl
@[simp] theorem State.updFlue_oper (s : State) (f : Flue → Flue) : (s.updFlue f).oper = s.oper := rfl
@[simp] theorem State.updMem_now (s : State) (f : Mem → Mem) : (s.updMem f).now = s.now := rfl
@[simp] theorem State.updMem_out (s : State) (f : Mem → Mem) : (s.updMem f).out = s.out := rfl
@[simp] theorem State.updMem_pending (s : State) (f : Mem → Mem) : (s.updMem f).pending = s.pending := rfl
@[simp] theorem State.updMem_free (s : State) (f : Mem → Mem) : (s.updMem f).free = s.free := rfl
@[simp] theorem State.updMem_live (s : State) (f : Mem → Mem) : (s.updMem f).live = s.live := rfl
@[simp] theorem State.updMem_pend (s : State) (f : Mem → Mem) : (s.updMem f).pend = s.pend := rfl
@[simp] theorem State.updMem_committed (s : State) (f : Mem → Mem) : (s.updMem f).committed = s.committed := rfl
@[simp] theorem State.updMem_comm (s : State) (f : Mem → Mem) : (s.updMem f).comm = s.comm := rfl
@[simp] theorem State.updMem_wait (s : State) (f : Mem → Mem) : (s.updMem f).wait = s.wait := rfl
@[simp] theorem State.updMem_sys (s : State) (f : Mem → Mem) : (s.updMem f).sys = s.sys := rfl
@[simp] theorem State.updMem_clk (s : State) (f : Mem → Mem) : (s.updMem f).clk = s.clk := rfl
@[simp] theorem State.updMem_flt (s : State) (f : Mem → Mem) : (s.updMem f).flt = s.flt := rfl
@[simp] theorem State.updMem_gran (s : State) (f : Mem → Mem) : (s.updMem f).gran = s.gran := rfl
@[simp] theorem State.updMem_pwr (s : State) (f : Mem → Mem) : (s.updMem f).pwr = s.pwr := rfl
@[simp] theorem State.updMem_wear (s : State) (f : Mem → Mem) : (s.updMem f).wear = s.wear := rfl
@[simp] theorem State.updMem_inp (s : State) (f : Mem → Mem) : (s.updMem f).inp = s.inp := rfl
@[simp] theorem State.updMem_comp (s : State) (f : Mem → Mem) : (s.updMem f).comp = s.comp := rfl
@[simp] theorem State.updMem_pipe (s : State) (f : Mem → Mem) : (s.updMem f).pipe = s.pipe := rfl
@[simp] theorem State.updMem_outp (s : State) (f : Mem → Mem) : (s.updMem f).outp = s.outp := rfl
@[simp] theorem State.updMem_servo (s : State) (f : Mem → Mem) : (s.updMem f).servo = s.servo := rfl
@[simp] theorem State.updMem_audio (s : State) (f : Mem → Mem) : (s.updMem f).audio = s.audio := rfl
@[simp] theorem State.updMem_flue (s : State) (f : Mem → Mem) : (s.updMem f).flue = s.flue := rfl
@[simp] theorem State.updMem_council (s : State) (f : Mem → Mem) : (s.updMem f).council = s.council := rfl
@[simp] theorem State.updMem_pair (s : State) (f : Mem → Mem) : (s.updMem f).pair = s.pair := rfl
@[simp] theorem State.updMem_mem (s : State) (f : Mem → Mem) : (s.updMem f).mem = f s.mem := rfl
@[simp] theorem State.updMem_oper (s : State) (f : Mem → Mem) : (s.updMem f).oper = s.oper := rfl
@[simp] theorem State.updGran_now (s : State) (f : Gran → Gran) : (s.updGran f).now = s.now := rfl
@[simp] theorem State.updGran_out (s : State) (f : Gran → Gran) : (s.updGran f).out = s.out := rfl
@[simp] theorem State.updGran_pending (s : State) (f : Gran → Gran) : (s.updGran f).pending = s.pending := rfl
@[simp] theorem State.updGran_free (s : State) (f : Gran → Gran) : (s.updGran f).free = s.free := rfl
@[simp] theorem State.updGran_live (s : State) (f : Gran → Gran) : (s.updGran f).live = s.live := rfl
@[simp] theorem State.updGran_pend (s : State) (f : Gran → Gran) : (s.updGran f).pend = s.pend := rfl
@[simp] theorem State.updGran_committed (s : State) (f : Gran → Gran) : (s.updGran f).committed = s.committed := rfl
@[simp] theorem State.updGran_comm (s : State) (f : Gran → Gran) : (s.updGran f).comm = s.comm := rfl
@[simp] theorem State.updGran_wait (s : State) (f : Gran → Gran) : (s.updGran f).wait = s.wait := rfl
@[simp] theorem State.updGran_sys (s : State) (f : Gran → Gran) : (s.updGran f).sys = s.sys := rfl
@[simp] theorem State.updGran_clk (s : State) (f : Gran → Gran) : (s.updGran f).clk = s.clk := rfl
@[simp] theorem State.updGran_flt (s : State) (f : Gran → Gran) : (s.updGran f).flt = s.flt := rfl
@[simp] theorem State.updGran_gran (s : State) (f : Gran → Gran) : (s.updGran f).gran = f s.gran := rfl
@[simp] theorem State.updGran_pwr (s : State) (f : Gran → Gran) : (s.updGran f).pwr = s.pwr := rfl
@[simp] theorem State.updGran_wear (s : State) (f : Gran → Gran) : (s.updGran f).wear = s.wear := rfl
@[simp] theorem State.updGran_inp (s : State) (f : Gran → Gran) : (s.updGran f).inp = s.inp := rfl
@[simp] theorem State.updGran_comp (s : State) (f : Gran → Gran) : (s.updGran f).comp = s.comp := rfl
@[simp] theorem State.updGran_pipe (s : State) (f : Gran → Gran) : (s.updGran f).pipe = s.pipe := rfl
@[simp] theorem State.updGran_outp (s : State) (f : Gran → Gran) : (s.updGran f).outp = s.outp := rfl
@[simp] theorem State.updGran_servo (s : State) (f : Gran → Gran) : (s.updGran f).servo = s.servo := rfl
@[simp] theorem State.updGran_audio (s : State) (f : Gran → Gran) : (s.updGran f).audio = s.audio := rfl
@[simp] theorem State.updGran_flue (s : State) (f : Gran → Gran) : (s.updGran f).flue = s.flue := rfl
@[simp] theorem State.updGran_council (s : State) (f : Gran → Gran) : (s.updGran f).council = s.council := rfl
@[simp] theorem State.updGran_pair (s : State) (f : Gran → Gran) : (s.updGran f).pair = s.pair := rfl
@[simp] theorem State.updGran_mem (s : State) (f : Gran → Gran) : (s.updGran f).mem = s.mem := rfl
@[simp] theorem State.updGran_oper (s : State) (f : Gran → Gran) : (s.updGran f).oper = s.oper := rfl
@[simp] theorem State.updInp_now (s : State) (f : Inputs → Inputs) : (s.updInp f).now = s.now := rfl
@[simp] theorem State.updInp_out (s : State) (f : Inputs → Inputs) : (s.updInp f).out = s.out := rfl
@[simp] theorem State.updInp_pending (s : State) (f : Inputs → Inputs) : (s.updInp f).pending = s.pending := rfl
@[simp] theorem State.updInp_free (s : State) (f : Inputs → Inputs) : (s.updInp f).free = s.free := rfl
@[simp] theorem State.updInp_live (s : State) (f : Inputs → Inputs) : (s.updInp f).live = s.live := rfl
@[simp] theorem State.updInp_pend (s : State) (f : Inputs → Inputs) : (s.updInp f).pend = s.pend := rfl
@[simp] theorem State.updInp_committed (s : State) (f : Inputs → Inputs) : (s.updInp f).committed = s.committed := rfl
@[simp] theorem State.updInp_comm (s : State) (f : Inputs → Inputs) : (s.updInp f).comm = s.comm := rfl
@[simp] theorem State.updInp_wait (s : State) (f : Inputs → Inputs) : (s.updInp f).wait = s.wait := rfl
@[simp] theorem State.updInp_sys (s : State) (f : Inputs → Inputs) : (s.updInp f).sys = s.sys := rfl
@[simp] theorem State.updInp_clk (s : State) (f : Inputs → Inputs) : (s.updInp f).clk = s.clk := rfl
@[simp] theorem State.updInp_flt (s : State) (f : Inputs → Inputs) : (s.updInp f).flt = s.flt := rfl
@[simp] theorem State.updInp_gran (s : State) (f : Inputs → Inputs) : (s.updInp f).gran = s.gran := rfl
@[simp] theorem State.updInp_pwr (s : State) (f : Inputs → Inputs) : (s.updInp f).pwr = s.pwr := rfl
@[simp] theorem State.updInp_wear (s : State) (f : Inputs → Inputs) : (s.updInp f).wear = s.wear := rfl
@[simp] theorem State.updInp_inp (s : State) (f : Inputs → Inputs) : (s.updInp f).inp = f s.inp := rfl
@[simp] theorem State.updInp_comp (s : State) (f : Inputs → Inputs) : (s.updInp f).comp = s.comp := rfl
@[simp] theorem State.updInp_pipe (s : State) (f : Inputs → Inputs) : (s.updInp f).pipe = s.pipe := rfl
@[simp] theorem State.updInp_outp (s : State) (f : Inputs → Inputs) : (s.updInp f).outp = s.outp := rfl
@[simp] theorem State.updInp_servo (s : State) (f : Inputs → Inputs) : (s.updInp f).servo = s.servo := rfl
@[simp] theorem State.updInp_audio (s : State) (f : Inputs → Inputs) : (s.updInp f).audio = s.audio := rfl
@[simp] theorem State.updInp_flue (s : State) (f : Inputs → Inputs) : (s.updInp f).flue = s.flue := rfl
@[simp] theorem State.updInp_council (s : State) (f : Inputs → Inputs) : (s.updInp f).council = s.council := rfl
@[simp] theorem State.updInp_pair (s : State) (f : Inputs → Inputs) : (s.updInp f).pair = s.pair := rfl
@[simp] theorem State.updInp_mem (s : State) (f : Inputs → Inputs) : (s.updInp f).mem = s.mem := rfl
@[simp] theorem State.updInp_oper (s : State) (f : Inputs → Inputs) : (s.updInp f).oper = s.oper := rfl
@[simp] theorem State.updOper_now (s : State) (f : Oper → Oper) : (s.updOper f).now = s.now := rfl
@[simp] theorem State.updOper_out (s : State) (f : Oper → Oper) : (s.updOper f).out = s.out := rfl
@[simp] theorem State.updOper_pending (s : State) (f : Oper → Oper) : (s.updOper f).pending = s.pending := rfl
@[simp] theorem State.updOper_free (s : State) (f : Oper → Oper) : (s.updOper f).free = s.free := rfl
@[simp] theorem State.updOper_live (s : State) (f : Oper → Oper) : (s.updOper f).live = s.live := rfl
@[simp] theorem State.updOper_pend (s : State) (f : Oper → Oper) : (s.updOper f).pend = s.pend := rfl
@[simp] theorem State.updOper_committed (s : State) (f : Oper → Oper) : (s.updOper f).committed = s.committed := rfl
@[simp] theorem State.updOper_comm (s : State) (f : Oper → Oper) : (s.updOper f).comm = s.comm := rfl
@[simp] theorem State.updOper_wait (s : State) (f : Oper → Oper) : (s.updOper f).wait = s.wait := rfl
@[simp] theorem State.updOper_sys (s : State) (f : Oper → Oper) : (s.updOper f).sys = s.sys := rfl
@[simp] theorem State.updOper_clk (s : State) (f : Oper → Oper) : (s.updOper f).clk = s.clk := rfl
@[simp] theorem State.updOper_flt (s : State) (f : Oper → Oper) : (s.updOper f).flt = s.flt := rfl
@[simp] theorem State.updOper_gran (s : State) (f : Oper → Oper) : (s.updOper f).gran = s.gran := rfl
@[simp] theorem State.updOper_pwr (s : State) (f : Oper → Oper) : (s.updOper f).pwr = s.pwr := rfl
@[simp] theorem State.updOper_wear (s : State) (f : Oper → Oper) : (s.updOper f).wear = s.wear := rfl
@[simp] theorem State.updOper_inp (s : State) (f : Oper → Oper) : (s.updOper f).inp = s.inp := rfl
@[simp] theorem State.updOper_comp (s : State) (f : Oper → Oper) : (s.updOper f).comp = s.comp := rfl
@[simp] theorem State.updOper_pipe (s : State) (f : Oper → Oper) : (s.updOper f).pipe = s.pipe := rfl
@[simp] theorem State.updOper_outp (s : State) (f : Oper → Oper) : (s.updOper f).outp = s.outp := rfl
@[simp] theorem State.updOper_servo (s : State) (f : Oper → Oper) : (s.updOper f).servo = s.servo := rfl
@[simp] theorem State.updOper_audio (s : State) (f : Oper → Oper) : (s.updOper f).audio = s.audio := rfl
@[simp] theorem State.updOper_flue (s : State) (f : Oper → Oper) : (s.updOper f).flue = s.flue := rfl
@[simp] theorem State.updOper_council (s : State) (f : Oper → Oper) : (s.updOper f).council = s.council := rfl
@[simp] theorem State.updOper_pair (s : State) (f : Oper → Oper) : (s.updOper f).pair = s.pair := rfl
@[simp] theorem State.updOper_mem (s : State) (f : Oper → Oper) : (s.updOper f).mem = s.mem := rfl
@[simp] theorem State.updOper_oper (s : State) (f : Oper → Oper) : (s.updOper f).oper = f s.oper := rfl
@[simp] theorem State.updPairs_now (s : State) (f : Pairs → Pairs) : (s.updPairs f).now = s.now := rfl
@[simp] theorem State.updPairs_out (s : State) (f : Pairs → Pairs) : (s.updPairs f).out = s.out := rfl
@[simp] theorem State.updPairs_pending (s : State) (f : Pairs → Pairs) : (s.updPairs f).pending = s.pending := rfl
@[simp] theorem State.updPairs_free (s : State) (f : Pairs → Pairs) : (s.updPairs f).free = s.free := rfl
@[simp] theorem State.updPairs_live (s : State) (f : Pairs → Pairs) : (s.updPairs f).live = s.live := rfl
@[simp] theorem State.updPairs_pend (s : State) (f : Pairs → Pairs) : (s.updPairs f).pend = s.pend := rfl
@[simp] theorem State.updPairs_committed (s : State) (f : Pairs → Pairs) : (s.updPairs f).committed = s.committed := rfl
@[simp] theorem State.updPairs_comm (s : State) (f : Pairs → Pairs) : (s.updPairs f).comm = s.comm := rfl
@[simp] theorem State.updPairs_wait (s : State) (f : Pairs → Pairs) : (s.updPairs f).wait = s.wait := rfl
@[simp] theorem State.updPairs_sys (s : State) (f : Pairs → Pairs) : (s.updPairs f).sys = s.sys := rfl
@[simp] theorem State.updPairs_clk (s : State) (f : Pairs → Pairs) : (s.updPairs f).clk = s.clk := rfl
@[simp] theorem State.updPairs_flt (s : State) (f : Pairs → Pairs) : (s.updPairs f).flt = s.flt := rfl
@[simp] theorem State.updPairs_gran (s : State) (f : Pairs → Pairs) : (s.updPairs f).gran = s.gran := rfl
@[simp] theorem State.updPairs_pwr (s : State) (f : Pairs → Pairs) : (s.updPairs f).pwr = s.pwr := rfl
@[simp] theorem State.updPairs_wear (s : State) (f : Pairs → Pairs) : (s.updPairs f).wear = s.wear := rfl
@[simp] theorem State.updPairs_inp (s : State) (f : Pairs → Pairs) : (s.updPairs f).inp = s.inp := rfl
@[simp] theorem State.updPairs_comp (s : State) (f : Pairs → Pairs) : (s.updPairs f).comp = s.comp := rfl
@[simp] theorem State.updPairs_pipe (s : State) (f : Pairs → Pairs) : (s.updPairs f).pipe = s.pipe := rfl
@[simp] theorem State.updPairs_outp (s : State) (f : Pairs → Pairs) : (s.updPairs f).outp = s.outp := rfl
@[simp] theorem State.updPairs_servo (s : State) (f : Pairs → Pairs) : (s.updPairs f).servo = s.servo := rfl
@[simp] theorem State.updPairs_audio (s : State) (f : Pairs → Pairs) : (s.updPairs f).audio = s.audio := rfl
@[simp] theorem State.updPairs_flue (s : State) (f : Pairs → Pairs) : (s.updPairs f).flue = s.flue := rfl
@[simp] theorem State.updPairs_council (s : State) (f : Pairs → Pairs) : (s.updPairs f).council = s.council := rfl
@[simp] theorem State.updPairs_pair (s : State) (f : Pairs → Pairs) : (s.updPairs f).pair = f s.pair := rfl
@[simp] theorem State.updPairs_mem (s : State) (f : Pairs → Pairs) : (s.updPairs f).mem = s.mem := rfl
@[simp] theorem State.updPairs_oper (s : State) (f : Pairs → Pairs) : (s.updPairs f).oper = s.oper := rfl
@[simp] theorem State.updAPort_now (s : State) (p : Nat) (f : AudioPort → AudioPort) : (s.updAPort p f).now = s.now := rfl
@[simp] theorem State.updAPort_out (s : State) (p : Nat) (f : AudioPort → AudioPort) : (s.updAPort p f).out = s.out := rfl
@[simp] theorem State.updAPort_pending (s : State) (p : Nat) (f : AudioPort → AudioPort) : (s.updAPort p f).pending = s.pending := rfl
@[simp] theorem State.updAPort_free (s : State) (p : Nat) (f : AudioPort → AudioPort) : (s.updAPort p f).free = s.free := rfl
@[simp] theorem State.updAPort_live (s : State) (p : Nat) (f : AudioPort → AudioPort) : (s.updAPort p f).live = s.live := rfl
@[simp] theorem State.updAPort_pend (s : State) (p : Nat) (f : AudioPort → AudioPort) : (s.updAPort p f).pend = s.pend := rfl
@[simp] theorem State.updAPort_committed (s : State) (p : Nat) (f : AudioPort → AudioPort) : (s.updAPort p f).committed = s.committed := rfl
@[simp] theorem State.updAPort_comm (s : State) (p : Nat) (f : AudioPort → AudioPort) : (s.updAPort p f).comm = s.comm := rfl
@[simp] theorem State.updAPort_wait (s : State) (p : Nat) (f : AudioPort → AudioPort) : (s.updAPort p f).wait = s.wait := rfl
@[simp] theorem State.updAPort_sys (s : State) (p : Nat) (f : AudioPort → AudioPort) : (s.updAPort p f).sys = s.sys := rfl
@[simp] theorem State.updAPort_clk (s : State) (p : Nat) (f : AudioPort → AudioPort) : (s.updAPort p f).clk = s.clk := rfl
@[simp] theorem State.updAPort_flt (s : State) (p : Nat) (f : AudioPort → AudioPort) : (s.updAPort p f).flt = s.flt := rfl
@[simp] theorem State.updAPort_gran (s : State) (p : Nat) (f : AudioPort → AudioPort) : (s.updAPort p f).gran = s.gran := rfl
@[simp] theorem State.updAPort_pwr (s : State) (p : Nat) (f : AudioPort → AudioPort) : (s.updAPort p f).pwr = s.pwr := rfl
@[simp] theorem State.updAPort_wear (s : State) (p : Nat) (f : AudioPort → AudioPort) : (s.updAPort p f).wear = s.wear := rfl
@[simp] theorem State.updAPort_inp (s : State) (p : Nat) (f : AudioPort → AudioPort) : (s.updAPort p f).inp = s.inp := rfl
@[simp] theorem State.updAPort_comp (s : State) (p : Nat) (f : AudioPort → AudioPort) : (s.updAPort p f).comp = s.comp := rfl
@[simp] theorem State.updAPort_pipe (s : State) (p : Nat) (f : AudioPort → AudioPort) : (s.updAPort p f).pipe = s.pipe := rfl
@[simp] theorem State.updAPort_outp (s : State) (p : Nat) (f : AudioPort → AudioPort) : (s.updAPort p f).outp = s.outp := rfl
@[simp] theorem State.updAPort_servo (s : State) (p : Nat) (f : AudioPort → AudioPort) : (s.updAPort p f).servo = s.servo := rfl
@[simp] theorem State.updAPort_audio (s : State) (p : Nat) (f : AudioPort → AudioPort) : (s.updAPort p f).audio = { s.audio with ports := s.audio.ports.upd {} p f } := rfl
@[simp] theorem State.updAPort_flue (s : State) (p : Nat) (f : AudioPort → AudioPort) : (s.updAPort p f).flue = s.flue := rfl
@[simp] theorem State.updAPort_council (s : State) (p : Nat) (f : AudioPort → AudioPort) : (s.updAPort p f).council = s.council := rfl
@[simp] theorem State.updAPort_pair (s : State) (p : Nat) (f : AudioPort → AudioPort) : (s.updAPort p f).pair = s.pair := rfl
@[simp] theorem State.updAPort_mem (s : State) (p : Nat) (f : AudioPort → AudioPort) : (s.updAPort p f).mem = s.mem := rfl
@[simp] theorem State.updAPort_oper (s : State) (p : Nat) (f : AudioPort → AudioPort) : (s.updAPort p f).oper = s.oper := rfl
@[simp] theorem State.updLink_now (s : State) (p : Nat) (f : Link → Link) : (s.updLink p f).now = s.now := rfl
@[simp] theorem State.updLink_out (s : State) (p : Nat) (f : Link → Link) : (s.updLink p f).out = s.out := rfl
@[simp] theorem State.updLink_pending (s : State) (p : Nat) (f : Link → Link) : (s.updLink p f).pending = s.pending := rfl
@[simp] theorem State.updLink_free (s : State) (p : Nat) (f : Link → Link) : (s.updLink p f).free = s.free := rfl
@[simp] theorem State.updLink_live (s : State) (p : Nat) (f : Link → Link) : (s.updLink p f).live = s.live := rfl
@[simp] theorem State.updLink_pend (s : State) (p : Nat) (f : Link → Link) : (s.updLink p f).pend = s.pend := rfl
@[simp] theorem State.updLink_committed (s : State) (p : Nat) (f : Link → Link) : (s.updLink p f).committed = s.committed := rfl
@[simp] theorem State.updLink_comm (s : State) (p : Nat) (f : Link → Link) : (s.updLink p f).comm = s.comm := rfl
@[simp] theorem State.updLink_wait (s : State) (p : Nat) (f : Link → Link) : (s.updLink p f).wait = s.wait := rfl
@[simp] theorem State.updLink_sys (s : State) (p : Nat) (f : Link → Link) : (s.updLink p f).sys = s.sys := rfl
@[simp] theorem State.updLink_clk (s : State) (p : Nat) (f : Link → Link) : (s.updLink p f).clk = s.clk := rfl
@[simp] theorem State.updLink_flt (s : State) (p : Nat) (f : Link → Link) : (s.updLink p f).flt = s.flt := rfl
@[simp] theorem State.updLink_gran (s : State) (p : Nat) (f : Link → Link) : (s.updLink p f).gran = s.gran := rfl
@[simp] theorem State.updLink_pwr (s : State) (p : Nat) (f : Link → Link) : (s.updLink p f).pwr = s.pwr := rfl
@[simp] theorem State.updLink_wear (s : State) (p : Nat) (f : Link → Link) : (s.updLink p f).wear = s.wear := rfl
@[simp] theorem State.updLink_inp (s : State) (p : Nat) (f : Link → Link) : (s.updLink p f).inp = s.inp := rfl
@[simp] theorem State.updLink_comp (s : State) (p : Nat) (f : Link → Link) : (s.updLink p f).comp = s.comp := rfl
@[simp] theorem State.updLink_pipe (s : State) (p : Nat) (f : Link → Link) : (s.updLink p f).pipe = s.pipe := rfl
@[simp] theorem State.updLink_outp (s : State) (p : Nat) (f : Link → Link) : (s.updLink p f).outp = s.outp := rfl
@[simp] theorem State.updLink_servo (s : State) (p : Nat) (f : Link → Link) : (s.updLink p f).servo = s.servo := rfl
@[simp] theorem State.updLink_audio (s : State) (p : Nat) (f : Link → Link) : (s.updLink p f).audio = s.audio := rfl
@[simp] theorem State.updLink_flue (s : State) (p : Nat) (f : Link → Link) : (s.updLink p f).flue = { s.flue with links := s.flue.links.upd {} p f } := rfl
@[simp] theorem State.updLink_council (s : State) (p : Nat) (f : Link → Link) : (s.updLink p f).council = s.council := rfl
@[simp] theorem State.updLink_pair (s : State) (p : Nat) (f : Link → Link) : (s.updLink p f).pair = s.pair := rfl
@[simp] theorem State.updLink_mem (s : State) (p : Nat) (f : Link → Link) : (s.updLink p f).mem = s.mem := rfl
@[simp] theorem State.updLink_oper (s : State) (p : Nat) (f : Link → Link) : (s.updLink p f).oper = s.oper := rfl
@[simp] theorem State.updCouncil_now (s : State) (c : Nat) (f : Council → Council) : (s.updCouncil c f).now = s.now := rfl
@[simp] theorem State.updCouncil_out (s : State) (c : Nat) (f : Council → Council) : (s.updCouncil c f).out = s.out := rfl
@[simp] theorem State.updCouncil_pending (s : State) (c : Nat) (f : Council → Council) : (s.updCouncil c f).pending = s.pending := rfl
@[simp] theorem State.updCouncil_free (s : State) (c : Nat) (f : Council → Council) : (s.updCouncil c f).free = s.free := rfl
@[simp] theorem State.updCouncil_live (s : State) (c : Nat) (f : Council → Council) : (s.updCouncil c f).live = s.live := rfl
@[simp] theorem State.updCouncil_pend (s : State) (c : Nat) (f : Council → Council) : (s.updCouncil c f).pend = s.pend := rfl
@[simp] theorem State.updCouncil_committed (s : State) (c : Nat) (f : Council → Council) : (s.updCouncil c f).committed = s.committed := rfl
@[simp] theorem State.updCouncil_comm (s : State) (c : Nat) (f : Council → Council) : (s.updCouncil c f).comm = s.comm := rfl
@[simp] theorem State.updCouncil_wait (s : State) (c : Nat) (f : Council → Council) : (s.updCouncil c f).wait = s.wait := rfl
@[simp] theorem State.updCouncil_sys (s : State) (c : Nat) (f : Council → Council) : (s.updCouncil c f).sys = s.sys := rfl
@[simp] theorem State.updCouncil_clk (s : State) (c : Nat) (f : Council → Council) : (s.updCouncil c f).clk = s.clk := rfl
@[simp] theorem State.updCouncil_flt (s : State) (c : Nat) (f : Council → Council) : (s.updCouncil c f).flt = s.flt := rfl
@[simp] theorem State.updCouncil_gran (s : State) (c : Nat) (f : Council → Council) : (s.updCouncil c f).gran = s.gran := rfl
@[simp] theorem State.updCouncil_pwr (s : State) (c : Nat) (f : Council → Council) : (s.updCouncil c f).pwr = s.pwr := rfl
@[simp] theorem State.updCouncil_wear (s : State) (c : Nat) (f : Council → Council) : (s.updCouncil c f).wear = s.wear := rfl
@[simp] theorem State.updCouncil_inp (s : State) (c : Nat) (f : Council → Council) : (s.updCouncil c f).inp = s.inp := rfl
@[simp] theorem State.updCouncil_comp (s : State) (c : Nat) (f : Council → Council) : (s.updCouncil c f).comp = s.comp := rfl
@[simp] theorem State.updCouncil_pipe (s : State) (c : Nat) (f : Council → Council) : (s.updCouncil c f).pipe = s.pipe := rfl
@[simp] theorem State.updCouncil_outp (s : State) (c : Nat) (f : Council → Council) : (s.updCouncil c f).outp = s.outp := rfl
@[simp] theorem State.updCouncil_servo (s : State) (c : Nat) (f : Council → Council) : (s.updCouncil c f).servo = s.servo := rfl
@[simp] theorem State.updCouncil_audio (s : State) (c : Nat) (f : Council → Council) : (s.updCouncil c f).audio = s.audio := rfl
@[simp] theorem State.updCouncil_flue (s : State) (c : Nat) (f : Council → Council) : (s.updCouncil c f).flue = s.flue := rfl
@[simp] theorem State.updCouncil_council (s : State) (c : Nat) (f : Council → Council) : (s.updCouncil c f).council = s.council.upd {} c f := rfl
@[simp] theorem State.updCouncil_pair (s : State) (c : Nat) (f : Council → Council) : (s.updCouncil c f).pair = s.pair := rfl
@[simp] theorem State.updCouncil_mem (s : State) (c : Nat) (f : Council → Council) : (s.updCouncil c f).mem = s.mem := rfl
@[simp] theorem State.updCouncil_oper (s : State) (c : Nat) (f : Council → Council) : (s.updCouncil c f).oper = s.oper := rfl
@[simp] theorem State.updSub_now (s : State) (ch sub : Nat) (f : DramSub → DramSub) : (s.updSub ch sub f).now = s.now := rfl
@[simp] theorem State.updSub_out (s : State) (ch sub : Nat) (f : DramSub → DramSub) : (s.updSub ch sub f).out = s.out := rfl
@[simp] theorem State.updSub_pending (s : State) (ch sub : Nat) (f : DramSub → DramSub) : (s.updSub ch sub f).pending = s.pending := rfl
@[simp] theorem State.updSub_free (s : State) (ch sub : Nat) (f : DramSub → DramSub) : (s.updSub ch sub f).free = s.free := rfl
@[simp] theorem State.updSub_live (s : State) (ch sub : Nat) (f : DramSub → DramSub) : (s.updSub ch sub f).live = s.live := rfl
@[simp] theorem State.updSub_pend (s : State) (ch sub : Nat) (f : DramSub → DramSub) : (s.updSub ch sub f).pend = s.pend := rfl
@[simp] theorem State.updSub_committed (s : State) (ch sub : Nat) (f : DramSub → DramSub) : (s.updSub ch sub f).committed = s.committed := rfl
@[simp] theorem State.updSub_comm (s : State) (ch sub : Nat) (f : DramSub → DramSub) : (s.updSub ch sub f).comm = s.comm := rfl
@[simp] theorem State.updSub_wait (s : State) (ch sub : Nat) (f : DramSub → DramSub) : (s.updSub ch sub f).wait = s.wait := rfl
@[simp] theorem State.updSub_sys (s : State) (ch sub : Nat) (f : DramSub → DramSub) : (s.updSub ch sub f).sys = s.sys := rfl
@[simp] theorem State.updSub_clk (s : State) (ch sub : Nat) (f : DramSub → DramSub) : (s.updSub ch sub f).clk = s.clk := rfl
@[simp] theorem State.updSub_flt (s : State) (ch sub : Nat) (f : DramSub → DramSub) : (s.updSub ch sub f).flt = s.flt := rfl
@[simp] theorem State.updSub_gran (s : State) (ch sub : Nat) (f : DramSub → DramSub) : (s.updSub ch sub f).gran = s.gran := rfl
@[simp] theorem State.updSub_pwr (s : State) (ch sub : Nat) (f : DramSub → DramSub) : (s.updSub ch sub f).pwr = s.pwr := rfl
@[simp] theorem State.updSub_wear (s : State) (ch sub : Nat) (f : DramSub → DramSub) : (s.updSub ch sub f).wear = s.wear := rfl
@[simp] theorem State.updSub_inp (s : State) (ch sub : Nat) (f : DramSub → DramSub) : (s.updSub ch sub f).inp = s.inp := rfl
@[simp] theorem State.updSub_comp (s : State) (ch sub : Nat) (f : DramSub → DramSub) : (s.updSub ch sub f).comp = s.comp := rfl
@[simp] theorem State.updSub_pipe (s : State) (ch sub : Nat) (f : DramSub → DramSub) : (s.updSub ch sub f).pipe = s.pipe := rfl
@[simp] theorem State.updSub_outp (s : State) (ch sub : Nat) (f : DramSub → DramSub) : (s.updSub ch sub f).outp = s.outp := rfl
@[simp] theorem State.updSub_servo (s : State) (ch sub : Nat) (f : DramSub → DramSub) : (s.updSub ch sub f).servo = s.servo := rfl
@[simp] theorem State.updSub_audio (s : State) (ch sub : Nat) (f : DramSub → DramSub) : (s.updSub ch sub f).audio = s.audio := rfl
@[simp] theorem State.updSub_flue (s : State) (ch sub : Nat) (f : DramSub → DramSub) : (s.updSub ch sub f).flue = s.flue := rfl
@[simp] theorem State.updSub_council (s : State) (ch sub : Nat) (f : DramSub → DramSub) : (s.updSub ch sub f).council = s.council := rfl
@[simp] theorem State.updSub_pair (s : State) (ch sub : Nat) (f : DramSub → DramSub) : (s.updSub ch sub f).pair = s.pair := rfl
@[simp] theorem State.updSub_mem (s : State) (ch sub : Nat) (f : DramSub → DramSub) : (s.updSub ch sub f).mem = { s.mem with subs := s.mem.subs.upd {} (2 * ch + sub) f } := rfl
@[simp] theorem State.updSub_oper (s : State) (ch sub : Nat) (f : DramSub → DramSub) : (s.updSub ch sub f).oper = s.oper := rfl
@[simp] theorem State.updDram_now (s : State) (ch : Nat) (f : DramCh → DramCh) : (s.updDram ch f).now = s.now := rfl
@[simp] theorem State.updDram_out (s : State) (ch : Nat) (f : DramCh → DramCh) : (s.updDram ch f).out = s.out := rfl
@[simp] theorem State.updDram_pending (s : State) (ch : Nat) (f : DramCh → DramCh) : (s.updDram ch f).pending = s.pending := rfl
@[simp] theorem State.updDram_free (s : State) (ch : Nat) (f : DramCh → DramCh) : (s.updDram ch f).free = s.free := rfl
@[simp] theorem State.updDram_live (s : State) (ch : Nat) (f : DramCh → DramCh) : (s.updDram ch f).live = s.live := rfl
@[simp] theorem State.updDram_pend (s : State) (ch : Nat) (f : DramCh → DramCh) : (s.updDram ch f).pend = s.pend := rfl
@[simp] theorem State.updDram_committed (s : State) (ch : Nat) (f : DramCh → DramCh) : (s.updDram ch f).committed = s.committed := rfl
@[simp] theorem State.updDram_comm (s : State) (ch : Nat) (f : DramCh → DramCh) : (s.updDram ch f).comm = s.comm := rfl
@[simp] theorem State.updDram_wait (s : State) (ch : Nat) (f : DramCh → DramCh) : (s.updDram ch f).wait = s.wait := rfl
@[simp] theorem State.updDram_sys (s : State) (ch : Nat) (f : DramCh → DramCh) : (s.updDram ch f).sys = s.sys := rfl
@[simp] theorem State.updDram_clk (s : State) (ch : Nat) (f : DramCh → DramCh) : (s.updDram ch f).clk = s.clk := rfl
@[simp] theorem State.updDram_flt (s : State) (ch : Nat) (f : DramCh → DramCh) : (s.updDram ch f).flt = s.flt := rfl
@[simp] theorem State.updDram_gran (s : State) (ch : Nat) (f : DramCh → DramCh) : (s.updDram ch f).gran = s.gran := rfl
@[simp] theorem State.updDram_pwr (s : State) (ch : Nat) (f : DramCh → DramCh) : (s.updDram ch f).pwr = s.pwr := rfl
@[simp] theorem State.updDram_wear (s : State) (ch : Nat) (f : DramCh → DramCh) : (s.updDram ch f).wear = s.wear := rfl
@[simp] theorem State.updDram_inp (s : State) (ch : Nat) (f : DramCh → DramCh) : (s.updDram ch f).inp = s.inp := rfl
@[simp] theorem State.updDram_comp (s : State) (ch : Nat) (f : DramCh → DramCh) : (s.updDram ch f).comp = s.comp := rfl
@[simp] theorem State.updDram_pipe (s : State) (ch : Nat) (f : DramCh → DramCh) : (s.updDram ch f).pipe = s.pipe := rfl
@[simp] theorem State.updDram_outp (s : State) (ch : Nat) (f : DramCh → DramCh) : (s.updDram ch f).outp = s.outp := rfl
@[simp] theorem State.updDram_servo (s : State) (ch : Nat) (f : DramCh → DramCh) : (s.updDram ch f).servo = s.servo := rfl
@[simp] theorem State.updDram_audio (s : State) (ch : Nat) (f : DramCh → DramCh) : (s.updDram ch f).audio = s.audio := rfl
@[simp] theorem State.updDram_flue (s : State) (ch : Nat) (f : DramCh → DramCh) : (s.updDram ch f).flue = s.flue := rfl
@[simp] theorem State.updDram_council (s : State) (ch : Nat) (f : DramCh → DramCh) : (s.updDram ch f).council = s.council := rfl
@[simp] theorem State.updDram_pair (s : State) (ch : Nat) (f : DramCh → DramCh) : (s.updDram ch f).pair = s.pair := rfl
@[simp] theorem State.updDram_mem (s : State) (ch : Nat) (f : DramCh → DramCh) : (s.updDram ch f).mem = { s.mem with chans := s.mem.chans.upd {} ch f } := rfl
@[simp] theorem State.updDram_oper (s : State) (ch : Nat) (f : DramCh → DramCh) : (s.updDram ch f).oper = s.oper := rfl
@[simp] theorem State.updComp_now (s : State) (c : Nat) (f : Comp → Comp) : (s.updComp c f).now = s.now := rfl
@[simp] theorem State.updComp_out (s : State) (c : Nat) (f : Comp → Comp) : (s.updComp c f).out = s.out := rfl
@[simp] theorem State.updComp_pending (s : State) (c : Nat) (f : Comp → Comp) : (s.updComp c f).pending = s.pending := rfl
@[simp] theorem State.updComp_free (s : State) (c : Nat) (f : Comp → Comp) : (s.updComp c f).free = s.free := rfl
@[simp] theorem State.updComp_live (s : State) (c : Nat) (f : Comp → Comp) : (s.updComp c f).live = s.live := rfl
@[simp] theorem State.updComp_pend (s : State) (c : Nat) (f : Comp → Comp) : (s.updComp c f).pend = s.pend := rfl
@[simp] theorem State.updComp_committed (s : State) (c : Nat) (f : Comp → Comp) : (s.updComp c f).committed = s.committed := rfl
@[simp] theorem State.updComp_comm (s : State) (c : Nat) (f : Comp → Comp) : (s.updComp c f).comm = s.comm := rfl
@[simp] theorem State.updComp_wait (s : State) (c : Nat) (f : Comp → Comp) : (s.updComp c f).wait = s.wait := rfl
@[simp] theorem State.updComp_sys (s : State) (c : Nat) (f : Comp → Comp) : (s.updComp c f).sys = s.sys := rfl
@[simp] theorem State.updComp_clk (s : State) (c : Nat) (f : Comp → Comp) : (s.updComp c f).clk = s.clk := rfl
@[simp] theorem State.updComp_flt (s : State) (c : Nat) (f : Comp → Comp) : (s.updComp c f).flt = s.flt := rfl
@[simp] theorem State.updComp_gran (s : State) (c : Nat) (f : Comp → Comp) : (s.updComp c f).gran = s.gran := rfl
@[simp] theorem State.updComp_pwr (s : State) (c : Nat) (f : Comp → Comp) : (s.updComp c f).pwr = s.pwr := rfl
@[simp] theorem State.updComp_wear (s : State) (c : Nat) (f : Comp → Comp) : (s.updComp c f).wear = s.wear := rfl
@[simp] theorem State.updComp_inp (s : State) (c : Nat) (f : Comp → Comp) : (s.updComp c f).inp = s.inp := rfl
@[simp] theorem State.updComp_comp (s : State) (c : Nat) (f : Comp → Comp) : (s.updComp c f).comp = s.comp.upd {} c f := rfl
@[simp] theorem State.updComp_pipe (s : State) (c : Nat) (f : Comp → Comp) : (s.updComp c f).pipe = s.pipe := rfl
@[simp] theorem State.updComp_outp (s : State) (c : Nat) (f : Comp → Comp) : (s.updComp c f).outp = s.outp := rfl
@[simp] theorem State.updComp_servo (s : State) (c : Nat) (f : Comp → Comp) : (s.updComp c f).servo = s.servo := rfl
@[simp] theorem State.updComp_audio (s : State) (c : Nat) (f : Comp → Comp) : (s.updComp c f).audio = s.audio := rfl
@[simp] theorem State.updComp_flue (s : State) (c : Nat) (f : Comp → Comp) : (s.updComp c f).flue = s.flue := rfl
@[simp] theorem State.updComp_council (s : State) (c : Nat) (f : Comp → Comp) : (s.updComp c f).council = s.council := rfl
@[simp] theorem State.updComp_pair (s : State) (c : Nat) (f : Comp → Comp) : (s.updComp c f).pair = s.pair := rfl
@[simp] theorem State.updComp_mem (s : State) (c : Nat) (f : Comp → Comp) : (s.updComp c f).mem = s.mem := rfl
@[simp] theorem State.updComp_oper (s : State) (c : Nat) (f : Comp → Comp) : (s.updComp c f).oper = s.oper := rfl
@[simp] theorem State.updInput_now (s : State) (i : Nat) (f : Input → Input) : (s.updInput i f).now = s.now := rfl
@[simp] theorem State.updInput_out (s : State) (i : Nat) (f : Input → Input) : (s.updInput i f).out = s.out := rfl
@[simp] theorem State.updInput_pending (s : State) (i : Nat) (f : Input → Input) : (s.updInput i f).pending = s.pending := rfl
@[simp] theorem State.updInput_free (s : State) (i : Nat) (f : Input → Input) : (s.updInput i f).free = s.free := rfl
@[simp] theorem State.updInput_live (s : State) (i : Nat) (f : Input → Input) : (s.updInput i f).live = s.live := rfl
@[simp] theorem State.updInput_pend (s : State) (i : Nat) (f : Input → Input) : (s.updInput i f).pend = s.pend := rfl
@[simp] theorem State.updInput_committed (s : State) (i : Nat) (f : Input → Input) : (s.updInput i f).committed = s.committed := rfl
@[simp] theorem State.updInput_comm (s : State) (i : Nat) (f : Input → Input) : (s.updInput i f).comm = s.comm := rfl
@[simp] theorem State.updInput_wait (s : State) (i : Nat) (f : Input → Input) : (s.updInput i f).wait = s.wait := rfl
@[simp] theorem State.updInput_sys (s : State) (i : Nat) (f : Input → Input) : (s.updInput i f).sys = s.sys := rfl
@[simp] theorem State.updInput_clk (s : State) (i : Nat) (f : Input → Input) : (s.updInput i f).clk = s.clk := rfl
@[simp] theorem State.updInput_flt (s : State) (i : Nat) (f : Input → Input) : (s.updInput i f).flt = s.flt := rfl
@[simp] theorem State.updInput_gran (s : State) (i : Nat) (f : Input → Input) : (s.updInput i f).gran = s.gran := rfl
@[simp] theorem State.updInput_pwr (s : State) (i : Nat) (f : Input → Input) : (s.updInput i f).pwr = s.pwr := rfl
@[simp] theorem State.updInput_wear (s : State) (i : Nat) (f : Input → Input) : (s.updInput i f).wear = s.wear := rfl
@[simp] theorem State.updInput_inp (s : State) (i : Nat) (f : Input → Input) : (s.updInput i f).inp = { s.inp with ins := s.inp.ins.upd {} i f } := rfl
@[simp] theorem State.updInput_comp (s : State) (i : Nat) (f : Input → Input) : (s.updInput i f).comp = s.comp := rfl
@[simp] theorem State.updInput_pipe (s : State) (i : Nat) (f : Input → Input) : (s.updInput i f).pipe = s.pipe := rfl
@[simp] theorem State.updInput_outp (s : State) (i : Nat) (f : Input → Input) : (s.updInput i f).outp = s.outp := rfl
@[simp] theorem State.updInput_servo (s : State) (i : Nat) (f : Input → Input) : (s.updInput i f).servo = s.servo := rfl
@[simp] theorem State.updInput_audio (s : State) (i : Nat) (f : Input → Input) : (s.updInput i f).audio = s.audio := rfl
@[simp] theorem State.updInput_flue (s : State) (i : Nat) (f : Input → Input) : (s.updInput i f).flue = s.flue := rfl
@[simp] theorem State.updInput_council (s : State) (i : Nat) (f : Input → Input) : (s.updInput i f).council = s.council := rfl
@[simp] theorem State.updInput_pair (s : State) (i : Nat) (f : Input → Input) : (s.updInput i f).pair = s.pair := rfl
@[simp] theorem State.updInput_mem (s : State) (i : Nat) (f : Input → Input) : (s.updInput i f).mem = s.mem := rfl
@[simp] theorem State.updInput_oper (s : State) (i : Nat) (f : Input → Input) : (s.updInput i f).oper = s.oper := rfl
@[simp] theorem State.updHdmi_now (s : State) (p : Nat) (f : Hdmi → Hdmi) : (s.updHdmi p f).now = s.now := rfl
@[simp] theorem State.updHdmi_out (s : State) (p : Nat) (f : Hdmi → Hdmi) : (s.updHdmi p f).out = s.out := rfl
@[simp] theorem State.updHdmi_pending (s : State) (p : Nat) (f : Hdmi → Hdmi) : (s.updHdmi p f).pending = s.pending := rfl
@[simp] theorem State.updHdmi_free (s : State) (p : Nat) (f : Hdmi → Hdmi) : (s.updHdmi p f).free = s.free := rfl
@[simp] theorem State.updHdmi_live (s : State) (p : Nat) (f : Hdmi → Hdmi) : (s.updHdmi p f).live = s.live := rfl
@[simp] theorem State.updHdmi_pend (s : State) (p : Nat) (f : Hdmi → Hdmi) : (s.updHdmi p f).pend = s.pend := rfl
@[simp] theorem State.updHdmi_committed (s : State) (p : Nat) (f : Hdmi → Hdmi) : (s.updHdmi p f).committed = s.committed := rfl
@[simp] theorem State.updHdmi_comm (s : State) (p : Nat) (f : Hdmi → Hdmi) : (s.updHdmi p f).comm = s.comm := rfl
@[simp] theorem State.updHdmi_wait (s : State) (p : Nat) (f : Hdmi → Hdmi) : (s.updHdmi p f).wait = s.wait := rfl
@[simp] theorem State.updHdmi_sys (s : State) (p : Nat) (f : Hdmi → Hdmi) : (s.updHdmi p f).sys = s.sys := rfl
@[simp] theorem State.updHdmi_clk (s : State) (p : Nat) (f : Hdmi → Hdmi) : (s.updHdmi p f).clk = s.clk := rfl
@[simp] theorem State.updHdmi_flt (s : State) (p : Nat) (f : Hdmi → Hdmi) : (s.updHdmi p f).flt = s.flt := rfl
@[simp] theorem State.updHdmi_gran (s : State) (p : Nat) (f : Hdmi → Hdmi) : (s.updHdmi p f).gran = s.gran := rfl
@[simp] theorem State.updHdmi_pwr (s : State) (p : Nat) (f : Hdmi → Hdmi) : (s.updHdmi p f).pwr = s.pwr := rfl
@[simp] theorem State.updHdmi_wear (s : State) (p : Nat) (f : Hdmi → Hdmi) : (s.updHdmi p f).wear = s.wear := rfl
@[simp] theorem State.updHdmi_inp (s : State) (p : Nat) (f : Hdmi → Hdmi) : (s.updHdmi p f).inp = { s.inp with hdmi := s.inp.hdmi.upd {} p f } := rfl
@[simp] theorem State.updHdmi_comp (s : State) (p : Nat) (f : Hdmi → Hdmi) : (s.updHdmi p f).comp = s.comp := rfl
@[simp] theorem State.updHdmi_pipe (s : State) (p : Nat) (f : Hdmi → Hdmi) : (s.updHdmi p f).pipe = s.pipe := rfl
@[simp] theorem State.updHdmi_outp (s : State) (p : Nat) (f : Hdmi → Hdmi) : (s.updHdmi p f).outp = s.outp := rfl
@[simp] theorem State.updHdmi_servo (s : State) (p : Nat) (f : Hdmi → Hdmi) : (s.updHdmi p f).servo = s.servo := rfl
@[simp] theorem State.updHdmi_audio (s : State) (p : Nat) (f : Hdmi → Hdmi) : (s.updHdmi p f).audio = s.audio := rfl
@[simp] theorem State.updHdmi_flue (s : State) (p : Nat) (f : Hdmi → Hdmi) : (s.updHdmi p f).flue = s.flue := rfl
@[simp] theorem State.updHdmi_council (s : State) (p : Nat) (f : Hdmi → Hdmi) : (s.updHdmi p f).council = s.council := rfl
@[simp] theorem State.updHdmi_pair (s : State) (p : Nat) (f : Hdmi → Hdmi) : (s.updHdmi p f).pair = s.pair := rfl
@[simp] theorem State.updHdmi_mem (s : State) (p : Nat) (f : Hdmi → Hdmi) : (s.updHdmi p f).mem = s.mem := rfl
@[simp] theorem State.updHdmi_oper (s : State) (p : Nat) (f : Hdmi → Hdmi) : (s.updHdmi p f).oper = s.oper := rfl
@[simp] theorem State.updEnt_now (s : State) (e : Nat) (f : TxEnt → TxEnt) : (s.updEnt e f).now = s.now := rfl
@[simp] theorem State.updEnt_out (s : State) (e : Nat) (f : TxEnt → TxEnt) : (s.updEnt e f).out = s.out := rfl
@[simp] theorem State.updEnt_pending (s : State) (e : Nat) (f : TxEnt → TxEnt) : (s.updEnt e f).pending = s.pending := rfl
@[simp] theorem State.updEnt_free (s : State) (e : Nat) (f : TxEnt → TxEnt) : (s.updEnt e f).free = s.free := rfl
@[simp] theorem State.updEnt_live (s : State) (e : Nat) (f : TxEnt → TxEnt) : (s.updEnt e f).live = s.live := rfl
@[simp] theorem State.updEnt_pend (s : State) (e : Nat) (f : TxEnt → TxEnt) : (s.updEnt e f).pend = s.pend := rfl
@[simp] theorem State.updEnt_committed (s : State) (e : Nat) (f : TxEnt → TxEnt) : (s.updEnt e f).committed = s.committed := rfl
@[simp] theorem State.updEnt_comm (s : State) (e : Nat) (f : TxEnt → TxEnt) : (s.updEnt e f).comm = s.comm := rfl
@[simp] theorem State.updEnt_wait (s : State) (e : Nat) (f : TxEnt → TxEnt) : (s.updEnt e f).wait = s.wait := rfl
@[simp] theorem State.updEnt_sys (s : State) (e : Nat) (f : TxEnt → TxEnt) : (s.updEnt e f).sys = s.sys := rfl
@[simp] theorem State.updEnt_clk (s : State) (e : Nat) (f : TxEnt → TxEnt) : (s.updEnt e f).clk = s.clk := rfl
@[simp] theorem State.updEnt_flt (s : State) (e : Nat) (f : TxEnt → TxEnt) : (s.updEnt e f).flt = s.flt := rfl
@[simp] theorem State.updEnt_gran (s : State) (e : Nat) (f : TxEnt → TxEnt) : (s.updEnt e f).gran = s.gran := rfl
@[simp] theorem State.updEnt_pwr (s : State) (e : Nat) (f : TxEnt → TxEnt) : (s.updEnt e f).pwr = s.pwr := rfl
@[simp] theorem State.updEnt_wear (s : State) (e : Nat) (f : TxEnt → TxEnt) : (s.updEnt e f).wear = s.wear := rfl
@[simp] theorem State.updEnt_inp (s : State) (e : Nat) (f : TxEnt → TxEnt) : (s.updEnt e f).inp = s.inp := rfl
@[simp] theorem State.updEnt_comp (s : State) (e : Nat) (f : TxEnt → TxEnt) : (s.updEnt e f).comp = s.comp := rfl
@[simp] theorem State.updEnt_pipe (s : State) (e : Nat) (f : TxEnt → TxEnt) : (s.updEnt e f).pipe = s.pipe := rfl
@[simp] theorem State.updEnt_outp (s : State) (e : Nat) (f : TxEnt → TxEnt) : (s.updEnt e f).outp = { s.outp with ents := s.outp.ents.upd {} e f } := rfl
@[simp] theorem State.updEnt_servo (s : State) (e : Nat) (f : TxEnt → TxEnt) : (s.updEnt e f).servo = s.servo := rfl
@[simp] theorem State.updEnt_audio (s : State) (e : Nat) (f : TxEnt → TxEnt) : (s.updEnt e f).audio = s.audio := rfl
@[simp] theorem State.updEnt_flue (s : State) (e : Nat) (f : TxEnt → TxEnt) : (s.updEnt e f).flue = s.flue := rfl
@[simp] theorem State.updEnt_council (s : State) (e : Nat) (f : TxEnt → TxEnt) : (s.updEnt e f).council = s.council := rfl
@[simp] theorem State.updEnt_pair (s : State) (e : Nat) (f : TxEnt → TxEnt) : (s.updEnt e f).pair = s.pair := rfl
@[simp] theorem State.updEnt_mem (s : State) (e : Nat) (f : TxEnt → TxEnt) : (s.updEnt e f).mem = s.mem := rfl
@[simp] theorem State.updEnt_oper (s : State) (e : Nat) (f : TxEnt → TxEnt) : (s.updEnt e f).oper = s.oper := rfl
@[simp] theorem State.updPort_now (s : State) (p : Nat) (f : Port → Port) : (s.updPort p f).now = s.now := rfl
@[simp] theorem State.updPort_out (s : State) (p : Nat) (f : Port → Port) : (s.updPort p f).out = s.out := rfl
@[simp] theorem State.updPort_pending (s : State) (p : Nat) (f : Port → Port) : (s.updPort p f).pending = s.pending := rfl
@[simp] theorem State.updPort_free (s : State) (p : Nat) (f : Port → Port) : (s.updPort p f).free = s.free := rfl
@[simp] theorem State.updPort_live (s : State) (p : Nat) (f : Port → Port) : (s.updPort p f).live = s.live := rfl
@[simp] theorem State.updPort_pend (s : State) (p : Nat) (f : Port → Port) : (s.updPort p f).pend = s.pend := rfl
@[simp] theorem State.updPort_committed (s : State) (p : Nat) (f : Port → Port) : (s.updPort p f).committed = s.committed := rfl
@[simp] theorem State.updPort_comm (s : State) (p : Nat) (f : Port → Port) : (s.updPort p f).comm = s.comm := rfl
@[simp] theorem State.updPort_wait (s : State) (p : Nat) (f : Port → Port) : (s.updPort p f).wait = s.wait := rfl
@[simp] theorem State.updPort_sys (s : State) (p : Nat) (f : Port → Port) : (s.updPort p f).sys = s.sys := rfl
@[simp] theorem State.updPort_clk (s : State) (p : Nat) (f : Port → Port) : (s.updPort p f).clk = s.clk := rfl
@[simp] theorem State.updPort_flt (s : State) (p : Nat) (f : Port → Port) : (s.updPort p f).flt = s.flt := rfl
@[simp] theorem State.updPort_gran (s : State) (p : Nat) (f : Port → Port) : (s.updPort p f).gran = s.gran := rfl
@[simp] theorem State.updPort_pwr (s : State) (p : Nat) (f : Port → Port) : (s.updPort p f).pwr = s.pwr := rfl
@[simp] theorem State.updPort_wear (s : State) (p : Nat) (f : Port → Port) : (s.updPort p f).wear = s.wear := rfl
@[simp] theorem State.updPort_inp (s : State) (p : Nat) (f : Port → Port) : (s.updPort p f).inp = s.inp := rfl
@[simp] theorem State.updPort_comp (s : State) (p : Nat) (f : Port → Port) : (s.updPort p f).comp = s.comp := rfl
@[simp] theorem State.updPort_pipe (s : State) (p : Nat) (f : Port → Port) : (s.updPort p f).pipe = s.pipe := rfl
@[simp] theorem State.updPort_outp (s : State) (p : Nat) (f : Port → Port) : (s.updPort p f).outp = { s.outp with ports := s.outp.ports.upd {} p f } := rfl
@[simp] theorem State.updPort_servo (s : State) (p : Nat) (f : Port → Port) : (s.updPort p f).servo = s.servo := rfl
@[simp] theorem State.updPort_audio (s : State) (p : Nat) (f : Port → Port) : (s.updPort p f).audio = s.audio := rfl
@[simp] theorem State.updPort_flue (s : State) (p : Nat) (f : Port → Port) : (s.updPort p f).flue = s.flue := rfl
@[simp] theorem State.updPort_council (s : State) (p : Nat) (f : Port → Port) : (s.updPort p f).council = s.council := rfl
@[simp] theorem State.updPort_pair (s : State) (p : Nat) (f : Port → Port) : (s.updPort p f).pair = s.pair := rfl
@[simp] theorem State.updPort_mem (s : State) (p : Nat) (f : Port → Port) : (s.updPort p f).mem = s.mem := rfl
@[simp] theorem State.updPort_oper (s : State) (p : Nat) (f : Port → Port) : (s.updPort p f).oper = s.oper := rfl
@[simp] theorem State.updPair_now (s : State) (i : Nat) (f : PairSt → PairSt) : (s.updPair i f).now = s.now := rfl
@[simp] theorem State.updPair_out (s : State) (i : Nat) (f : PairSt → PairSt) : (s.updPair i f).out = s.out := rfl
@[simp] theorem State.updPair_pending (s : State) (i : Nat) (f : PairSt → PairSt) : (s.updPair i f).pending = s.pending := rfl
@[simp] theorem State.updPair_free (s : State) (i : Nat) (f : PairSt → PairSt) : (s.updPair i f).free = s.free := rfl
@[simp] theorem State.updPair_live (s : State) (i : Nat) (f : PairSt → PairSt) : (s.updPair i f).live = s.live := rfl
@[simp] theorem State.updPair_pend (s : State) (i : Nat) (f : PairSt → PairSt) : (s.updPair i f).pend = s.pend := rfl
@[simp] theorem State.updPair_committed (s : State) (i : Nat) (f : PairSt → PairSt) : (s.updPair i f).committed = s.committed := rfl
@[simp] theorem State.updPair_comm (s : State) (i : Nat) (f : PairSt → PairSt) : (s.updPair i f).comm = s.comm := rfl
@[simp] theorem State.updPair_wait (s : State) (i : Nat) (f : PairSt → PairSt) : (s.updPair i f).wait = s.wait := rfl
@[simp] theorem State.updPair_sys (s : State) (i : Nat) (f : PairSt → PairSt) : (s.updPair i f).sys = s.sys := rfl
@[simp] theorem State.updPair_clk (s : State) (i : Nat) (f : PairSt → PairSt) : (s.updPair i f).clk = s.clk := rfl
@[simp] theorem State.updPair_flt (s : State) (i : Nat) (f : PairSt → PairSt) : (s.updPair i f).flt = s.flt := rfl
@[simp] theorem State.updPair_gran (s : State) (i : Nat) (f : PairSt → PairSt) : (s.updPair i f).gran = s.gran := rfl
@[simp] theorem State.updPair_pwr (s : State) (i : Nat) (f : PairSt → PairSt) : (s.updPair i f).pwr = s.pwr := rfl
@[simp] theorem State.updPair_wear (s : State) (i : Nat) (f : PairSt → PairSt) : (s.updPair i f).wear = s.wear := rfl
@[simp] theorem State.updPair_inp (s : State) (i : Nat) (f : PairSt → PairSt) : (s.updPair i f).inp = s.inp := rfl
@[simp] theorem State.updPair_comp (s : State) (i : Nat) (f : PairSt → PairSt) : (s.updPair i f).comp = s.comp := rfl
@[simp] theorem State.updPair_pipe (s : State) (i : Nat) (f : PairSt → PairSt) : (s.updPair i f).pipe = s.pipe := rfl
@[simp] theorem State.updPair_outp (s : State) (i : Nat) (f : PairSt → PairSt) : (s.updPair i f).outp = s.outp := rfl
@[simp] theorem State.updPair_servo (s : State) (i : Nat) (f : PairSt → PairSt) : (s.updPair i f).servo = s.servo := rfl
@[simp] theorem State.updPair_audio (s : State) (i : Nat) (f : PairSt → PairSt) : (s.updPair i f).audio = s.audio := rfl
@[simp] theorem State.updPair_flue (s : State) (i : Nat) (f : PairSt → PairSt) : (s.updPair i f).flue = s.flue := rfl
@[simp] theorem State.updPair_council (s : State) (i : Nat) (f : PairSt → PairSt) : (s.updPair i f).council = s.council := rfl
@[simp] theorem State.updPair_pair (s : State) (i : Nat) (f : PairSt → PairSt) : (s.updPair i f).pair = { s.pair with pairs := s.pair.pairs.upd {} i f } := rfl
@[simp] theorem State.updPair_mem (s : State) (i : Nat) (f : PairSt → PairSt) : (s.updPair i f).mem = s.mem := rfl
@[simp] theorem State.updPair_oper (s : State) (i : Nat) (f : PairSt → PairSt) : (s.updPair i f).oper = s.oper := rfl
@[simp] theorem State.updChan_now (s : State) (c : Nat) (f : Chan → Chan) : (s.updChan c f).now = s.now := rfl
@[simp] theorem State.updChan_out (s : State) (c : Nat) (f : Chan → Chan) : (s.updChan c f).out = s.out := rfl
@[simp] theorem State.updChan_pending (s : State) (c : Nat) (f : Chan → Chan) : (s.updChan c f).pending = s.pending := rfl
@[simp] theorem State.updChan_free (s : State) (c : Nat) (f : Chan → Chan) : (s.updChan c f).free = s.free := rfl
@[simp] theorem State.updChan_live (s : State) (c : Nat) (f : Chan → Chan) : (s.updChan c f).live = s.live := rfl
@[simp] theorem State.updChan_pend (s : State) (c : Nat) (f : Chan → Chan) : (s.updChan c f).pend = s.pend := rfl
@[simp] theorem State.updChan_committed (s : State) (c : Nat) (f : Chan → Chan) : (s.updChan c f).committed = s.committed := rfl
@[simp] theorem State.updChan_comm (s : State) (c : Nat) (f : Chan → Chan) : (s.updChan c f).comm = s.comm := rfl
@[simp] theorem State.updChan_wait (s : State) (c : Nat) (f : Chan → Chan) : (s.updChan c f).wait = s.wait := rfl
@[simp] theorem State.updChan_sys (s : State) (c : Nat) (f : Chan → Chan) : (s.updChan c f).sys = s.sys := rfl
@[simp] theorem State.updChan_clk (s : State) (c : Nat) (f : Chan → Chan) : (s.updChan c f).clk = s.clk := rfl
@[simp] theorem State.updChan_flt (s : State) (c : Nat) (f : Chan → Chan) : (s.updChan c f).flt = s.flt := rfl
@[simp] theorem State.updChan_gran (s : State) (c : Nat) (f : Chan → Chan) : (s.updChan c f).gran = s.gran := rfl
@[simp] theorem State.updChan_pwr (s : State) (c : Nat) (f : Chan → Chan) : (s.updChan c f).pwr = s.pwr := rfl
@[simp] theorem State.updChan_wear (s : State) (c : Nat) (f : Chan → Chan) : (s.updChan c f).wear = s.wear := rfl
@[simp] theorem State.updChan_inp (s : State) (c : Nat) (f : Chan → Chan) : (s.updChan c f).inp = s.inp := rfl
@[simp] theorem State.updChan_comp (s : State) (c : Nat) (f : Chan → Chan) : (s.updChan c f).comp = s.comp := rfl
@[simp] theorem State.updChan_pipe (s : State) (c : Nat) (f : Chan → Chan) : (s.updChan c f).pipe = { s.pipe with chans := s.pipe.chans.upd {} c f } := rfl
@[simp] theorem State.updChan_outp (s : State) (c : Nat) (f : Chan → Chan) : (s.updChan c f).outp = s.outp := rfl
@[simp] theorem State.updChan_servo (s : State) (c : Nat) (f : Chan → Chan) : (s.updChan c f).servo = s.servo := rfl
@[simp] theorem State.updChan_audio (s : State) (c : Nat) (f : Chan → Chan) : (s.updChan c f).audio = s.audio := rfl
@[simp] theorem State.updChan_flue (s : State) (c : Nat) (f : Chan → Chan) : (s.updChan c f).flue = s.flue := rfl
@[simp] theorem State.updChan_council (s : State) (c : Nat) (f : Chan → Chan) : (s.updChan c f).council = s.council := rfl
@[simp] theorem State.updChan_pair (s : State) (c : Nat) (f : Chan → Chan) : (s.updChan c f).pair = s.pair := rfl
@[simp] theorem State.updChan_mem (s : State) (c : Nat) (f : Chan → Chan) : (s.updChan c f).mem = s.mem := rfl
@[simp] theorem State.updChan_oper (s : State) (c : Nat) (f : Chan → Chan) : (s.updChan c f).oper = s.oper := rfl
@[simp] theorem State.updFlow_now (s : State) (n : Nat) (f : FlowSt → FlowSt) : (s.updFlow n f).now = s.now := rfl
@[simp] theorem State.updFlow_out (s : State) (n : Nat) (f : FlowSt → FlowSt) : (s.updFlow n f).out = s.out := rfl
@[simp] theorem State.updFlow_pending (s : State) (n : Nat) (f : FlowSt → FlowSt) : (s.updFlow n f).pending = s.pending := rfl
@[simp] theorem State.updFlow_free (s : State) (n : Nat) (f : FlowSt → FlowSt) : (s.updFlow n f).free = s.free := rfl
@[simp] theorem State.updFlow_live (s : State) (n : Nat) (f : FlowSt → FlowSt) : (s.updFlow n f).live = s.live := rfl
@[simp] theorem State.updFlow_pend (s : State) (n : Nat) (f : FlowSt → FlowSt) : (s.updFlow n f).pend = s.pend := rfl
@[simp] theorem State.updFlow_committed (s : State) (n : Nat) (f : FlowSt → FlowSt) : (s.updFlow n f).committed = s.committed := rfl
@[simp] theorem State.updFlow_comm (s : State) (n : Nat) (f : FlowSt → FlowSt) : (s.updFlow n f).comm = s.comm := rfl
@[simp] theorem State.updFlow_wait (s : State) (n : Nat) (f : FlowSt → FlowSt) : (s.updFlow n f).wait = s.wait := rfl
@[simp] theorem State.updFlow_sys (s : State) (n : Nat) (f : FlowSt → FlowSt) : (s.updFlow n f).sys = s.sys := rfl
@[simp] theorem State.updFlow_clk (s : State) (n : Nat) (f : FlowSt → FlowSt) : (s.updFlow n f).clk = s.clk := rfl
@[simp] theorem State.updFlow_flt (s : State) (n : Nat) (f : FlowSt → FlowSt) : (s.updFlow n f).flt = s.flt := rfl
@[simp] theorem State.updFlow_gran (s : State) (n : Nat) (f : FlowSt → FlowSt) : (s.updFlow n f).gran = s.gran := rfl
@[simp] theorem State.updFlow_pwr (s : State) (n : Nat) (f : FlowSt → FlowSt) : (s.updFlow n f).pwr = s.pwr := rfl
@[simp] theorem State.updFlow_wear (s : State) (n : Nat) (f : FlowSt → FlowSt) : (s.updFlow n f).wear = s.wear := rfl
@[simp] theorem State.updFlow_inp (s : State) (n : Nat) (f : FlowSt → FlowSt) : (s.updFlow n f).inp = s.inp := rfl
@[simp] theorem State.updFlow_comp (s : State) (n : Nat) (f : FlowSt → FlowSt) : (s.updFlow n f).comp = s.comp := rfl
@[simp] theorem State.updFlow_pipe (s : State) (n : Nat) (f : FlowSt → FlowSt) : (s.updFlow n f).pipe = { s.pipe with flows := s.pipe.flows.upd {} n f } := rfl
@[simp] theorem State.updFlow_outp (s : State) (n : Nat) (f : FlowSt → FlowSt) : (s.updFlow n f).outp = s.outp := rfl
@[simp] theorem State.updFlow_servo (s : State) (n : Nat) (f : FlowSt → FlowSt) : (s.updFlow n f).servo = s.servo := rfl
@[simp] theorem State.updFlow_audio (s : State) (n : Nat) (f : FlowSt → FlowSt) : (s.updFlow n f).audio = s.audio := rfl
@[simp] theorem State.updFlow_flue (s : State) (n : Nat) (f : FlowSt → FlowSt) : (s.updFlow n f).flue = s.flue := rfl
@[simp] theorem State.updFlow_council (s : State) (n : Nat) (f : FlowSt → FlowSt) : (s.updFlow n f).council = s.council := rfl
@[simp] theorem State.updFlow_pair (s : State) (n : Nat) (f : FlowSt → FlowSt) : (s.updFlow n f).pair = s.pair := rfl
@[simp] theorem State.updFlow_mem (s : State) (n : Nat) (f : FlowSt → FlowSt) : (s.updFlow n f).mem = s.mem := rfl
@[simp] theorem State.updFlow_oper (s : State) (n : Nat) (f : FlowSt → FlowSt) : (s.updFlow n f).oper = s.oper := rfl
@[simp] theorem State.updHearth_now (s : State) (h : Nat) (f : Hearth → Hearth) : (s.updHearth h f).now = s.now := rfl
@[simp] theorem State.updHearth_out (s : State) (h : Nat) (f : Hearth → Hearth) : (s.updHearth h f).out = s.out := rfl
@[simp] theorem State.updHearth_pending (s : State) (h : Nat) (f : Hearth → Hearth) : (s.updHearth h f).pending = s.pending := rfl
@[simp] theorem State.updHearth_free (s : State) (h : Nat) (f : Hearth → Hearth) : (s.updHearth h f).free = s.free := rfl
@[simp] theorem State.updHearth_live (s : State) (h : Nat) (f : Hearth → Hearth) : (s.updHearth h f).live = s.live := rfl
@[simp] theorem State.updHearth_pend (s : State) (h : Nat) (f : Hearth → Hearth) : (s.updHearth h f).pend = s.pend := rfl
@[simp] theorem State.updHearth_committed (s : State) (h : Nat) (f : Hearth → Hearth) : (s.updHearth h f).committed = s.committed := rfl
@[simp] theorem State.updHearth_comm (s : State) (h : Nat) (f : Hearth → Hearth) : (s.updHearth h f).comm = s.comm := rfl
@[simp] theorem State.updHearth_wait (s : State) (h : Nat) (f : Hearth → Hearth) : (s.updHearth h f).wait = s.wait := rfl
@[simp] theorem State.updHearth_sys (s : State) (h : Nat) (f : Hearth → Hearth) : (s.updHearth h f).sys = s.sys := rfl
@[simp] theorem State.updHearth_clk (s : State) (h : Nat) (f : Hearth → Hearth) : (s.updHearth h f).clk = s.clk := rfl
@[simp] theorem State.updHearth_flt (s : State) (h : Nat) (f : Hearth → Hearth) : (s.updHearth h f).flt = s.flt := rfl
@[simp] theorem State.updHearth_gran (s : State) (h : Nat) (f : Hearth → Hearth) : (s.updHearth h f).gran = s.gran := rfl
@[simp] theorem State.updHearth_pwr (s : State) (h : Nat) (f : Hearth → Hearth) : (s.updHearth h f).pwr = s.pwr := rfl
@[simp] theorem State.updHearth_wear (s : State) (h : Nat) (f : Hearth → Hearth) : (s.updHearth h f).wear = s.wear := rfl
@[simp] theorem State.updHearth_inp (s : State) (h : Nat) (f : Hearth → Hearth) : (s.updHearth h f).inp = s.inp := rfl
@[simp] theorem State.updHearth_comp (s : State) (h : Nat) (f : Hearth → Hearth) : (s.updHearth h f).comp = s.comp := rfl
@[simp] theorem State.updHearth_pipe (s : State) (h : Nat) (f : Hearth → Hearth) : (s.updHearth h f).pipe = { s.pipe with hearths := s.pipe.hearths.upd {} h f } := rfl
@[simp] theorem State.updHearth_outp (s : State) (h : Nat) (f : Hearth → Hearth) : (s.updHearth h f).outp = s.outp := rfl
@[simp] theorem State.updHearth_servo (s : State) (h : Nat) (f : Hearth → Hearth) : (s.updHearth h f).servo = s.servo := rfl
@[simp] theorem State.updHearth_audio (s : State) (h : Nat) (f : Hearth → Hearth) : (s.updHearth h f).audio = s.audio := rfl
@[simp] theorem State.updHearth_flue (s : State) (h : Nat) (f : Hearth → Hearth) : (s.updHearth h f).flue = s.flue := rfl
@[simp] theorem State.updHearth_council (s : State) (h : Nat) (f : Hearth → Hearth) : (s.updHearth h f).council = s.council := rfl
@[simp] theorem State.updHearth_pair (s : State) (h : Nat) (f : Hearth → Hearth) : (s.updHearth h f).pair = s.pair := rfl
@[simp] theorem State.updHearth_mem (s : State) (h : Nat) (f : Hearth → Hearth) : (s.updHearth h f).mem = s.mem := rfl
@[simp] theorem State.updHearth_oper (s : State) (h : Nat) (f : Hearth → Hearth) : (s.updHearth h f).oper = s.oper := rfl
@[simp] theorem State.updWithy_now (s : State) (w : Nat) (f : Withy → Withy) : (s.updWithy w f).now = s.now := rfl
@[simp] theorem State.updWithy_out (s : State) (w : Nat) (f : Withy → Withy) : (s.updWithy w f).out = s.out := rfl
@[simp] theorem State.updWithy_pending (s : State) (w : Nat) (f : Withy → Withy) : (s.updWithy w f).pending = s.pending := rfl
@[simp] theorem State.updWithy_free (s : State) (w : Nat) (f : Withy → Withy) : (s.updWithy w f).free = s.free := rfl
@[simp] theorem State.updWithy_live (s : State) (w : Nat) (f : Withy → Withy) : (s.updWithy w f).live = s.live := rfl
@[simp] theorem State.updWithy_pend (s : State) (w : Nat) (f : Withy → Withy) : (s.updWithy w f).pend = s.pend := rfl
@[simp] theorem State.updWithy_committed (s : State) (w : Nat) (f : Withy → Withy) : (s.updWithy w f).committed = s.committed := rfl
@[simp] theorem State.updWithy_comm (s : State) (w : Nat) (f : Withy → Withy) : (s.updWithy w f).comm = s.comm := rfl
@[simp] theorem State.updWithy_wait (s : State) (w : Nat) (f : Withy → Withy) : (s.updWithy w f).wait = s.wait := rfl
@[simp] theorem State.updWithy_sys (s : State) (w : Nat) (f : Withy → Withy) : (s.updWithy w f).sys = s.sys := rfl
@[simp] theorem State.updWithy_clk (s : State) (w : Nat) (f : Withy → Withy) : (s.updWithy w f).clk = s.clk := rfl
@[simp] theorem State.updWithy_flt (s : State) (w : Nat) (f : Withy → Withy) : (s.updWithy w f).flt = s.flt := rfl
@[simp] theorem State.updWithy_gran (s : State) (w : Nat) (f : Withy → Withy) : (s.updWithy w f).gran = s.gran := rfl
@[simp] theorem State.updWithy_pwr (s : State) (w : Nat) (f : Withy → Withy) : (s.updWithy w f).pwr = s.pwr := rfl
@[simp] theorem State.updWithy_wear (s : State) (w : Nat) (f : Withy → Withy) : (s.updWithy w f).wear = s.wear := rfl
@[simp] theorem State.updWithy_inp (s : State) (w : Nat) (f : Withy → Withy) : (s.updWithy w f).inp = s.inp := rfl
@[simp] theorem State.updWithy_comp (s : State) (w : Nat) (f : Withy → Withy) : (s.updWithy w f).comp = s.comp := rfl
@[simp] theorem State.updWithy_outp (s : State) (w : Nat) (f : Withy → Withy) : (s.updWithy w f).outp = s.outp := rfl
@[simp] theorem State.updWithy_servo (s : State) (w : Nat) (f : Withy → Withy) : (s.updWithy w f).servo = s.servo := rfl
@[simp] theorem State.updWithy_audio (s : State) (w : Nat) (f : Withy → Withy) : (s.updWithy w f).audio = s.audio := rfl
@[simp] theorem State.updWithy_flue (s : State) (w : Nat) (f : Withy → Withy) : (s.updWithy w f).flue = s.flue := rfl
@[simp] theorem State.updWithy_council (s : State) (w : Nat) (f : Withy → Withy) : (s.updWithy w f).council = s.council := rfl
@[simp] theorem State.updWithy_pair (s : State) (w : Nat) (f : Withy → Withy) : (s.updWithy w f).pair = s.pair := rfl
@[simp] theorem State.updWithy_mem (s : State) (w : Nat) (f : Withy → Withy) : (s.updWithy w f).mem = s.mem := rfl
@[simp] theorem State.updWithy_oper (s : State) (w : Nat) (f : Withy → Withy) : (s.updWithy w f).oper = s.oper := rfl
@[simp] theorem State.updStripe_now (s : State) (c f k : Nat) (g : Stripe → Stripe) : (s.updStripe c f k g).now = s.now := rfl
@[simp] theorem State.updStripe_out (s : State) (c f k : Nat) (g : Stripe → Stripe) : (s.updStripe c f k g).out = s.out := rfl
@[simp] theorem State.updStripe_pending (s : State) (c f k : Nat) (g : Stripe → Stripe) : (s.updStripe c f k g).pending = s.pending := rfl
@[simp] theorem State.updStripe_free (s : State) (c f k : Nat) (g : Stripe → Stripe) : (s.updStripe c f k g).free = s.free := rfl
@[simp] theorem State.updStripe_live (s : State) (c f k : Nat) (g : Stripe → Stripe) : (s.updStripe c f k g).live = s.live := rfl
@[simp] theorem State.updStripe_pend (s : State) (c f k : Nat) (g : Stripe → Stripe) : (s.updStripe c f k g).pend = s.pend := rfl
@[simp] theorem State.updStripe_committed (s : State) (c f k : Nat) (g : Stripe → Stripe) : (s.updStripe c f k g).committed = s.committed := rfl
@[simp] theorem State.updStripe_comm (s : State) (c f k : Nat) (g : Stripe → Stripe) : (s.updStripe c f k g).comm = s.comm := rfl
@[simp] theorem State.updStripe_wait (s : State) (c f k : Nat) (g : Stripe → Stripe) : (s.updStripe c f k g).wait = s.wait := rfl
@[simp] theorem State.updStripe_sys (s : State) (c f k : Nat) (g : Stripe → Stripe) : (s.updStripe c f k g).sys = s.sys := rfl
@[simp] theorem State.updStripe_clk (s : State) (c f k : Nat) (g : Stripe → Stripe) : (s.updStripe c f k g).clk = s.clk := rfl
@[simp] theorem State.updStripe_flt (s : State) (c f k : Nat) (g : Stripe → Stripe) : (s.updStripe c f k g).flt = s.flt := rfl
@[simp] theorem State.updStripe_gran (s : State) (c f k : Nat) (g : Stripe → Stripe) : (s.updStripe c f k g).gran = s.gran := rfl
@[simp] theorem State.updStripe_pwr (s : State) (c f k : Nat) (g : Stripe → Stripe) : (s.updStripe c f k g).pwr = s.pwr := rfl
@[simp] theorem State.updStripe_wear (s : State) (c f k : Nat) (g : Stripe → Stripe) : (s.updStripe c f k g).wear = s.wear := rfl
@[simp] theorem State.updStripe_inp (s : State) (c f k : Nat) (g : Stripe → Stripe) : (s.updStripe c f k g).inp = s.inp := rfl
@[simp] theorem State.updStripe_comp (s : State) (c f k : Nat) (g : Stripe → Stripe) : (s.updStripe c f k g).comp = s.comp := rfl
@[simp] theorem State.updStripe_outp (s : State) (c f k : Nat) (g : Stripe → Stripe) : (s.updStripe c f k g).outp = s.outp := rfl
@[simp] theorem State.updStripe_servo (s : State) (c f k : Nat) (g : Stripe → Stripe) : (s.updStripe c f k g).servo = s.servo := rfl
@[simp] theorem State.updStripe_audio (s : State) (c f k : Nat) (g : Stripe → Stripe) : (s.updStripe c f k g).audio = s.audio := rfl
@[simp] theorem State.updStripe_flue (s : State) (c f k : Nat) (g : Stripe → Stripe) : (s.updStripe c f k g).flue = s.flue := rfl
@[simp] theorem State.updStripe_council (s : State) (c f k : Nat) (g : Stripe → Stripe) : (s.updStripe c f k g).council = s.council := rfl
@[simp] theorem State.updStripe_pair (s : State) (c f k : Nat) (g : Stripe → Stripe) : (s.updStripe c f k g).pair = s.pair := rfl
@[simp] theorem State.updStripe_mem (s : State) (c f k : Nat) (g : Stripe → Stripe) : (s.updStripe c f k g).mem = s.mem := rfl
@[simp] theorem State.updStripe_oper (s : State) (c f k : Nat) (g : Stripe → Stripe) : (s.updStripe c f k g).oper = s.oper := rfl
@[simp] theorem State.updPtp_now (s : State) (i : Nat) (f : Ptp → Ptp) : (s.updPtp i f).now = s.now := rfl
@[simp] theorem State.updPtp_out (s : State) (i : Nat) (f : Ptp → Ptp) : (s.updPtp i f).out = s.out := rfl
@[simp] theorem State.updPtp_pending (s : State) (i : Nat) (f : Ptp → Ptp) : (s.updPtp i f).pending = s.pending := rfl
@[simp] theorem State.updPtp_free (s : State) (i : Nat) (f : Ptp → Ptp) : (s.updPtp i f).free = s.free := rfl
@[simp] theorem State.updPtp_live (s : State) (i : Nat) (f : Ptp → Ptp) : (s.updPtp i f).live = s.live := rfl
@[simp] theorem State.updPtp_pend (s : State) (i : Nat) (f : Ptp → Ptp) : (s.updPtp i f).pend = s.pend := rfl
@[simp] theorem State.updPtp_committed (s : State) (i : Nat) (f : Ptp → Ptp) : (s.updPtp i f).committed = s.committed := rfl
@[simp] theorem State.updPtp_comm (s : State) (i : Nat) (f : Ptp → Ptp) : (s.updPtp i f).comm = s.comm := rfl
@[simp] theorem State.updPtp_wait (s : State) (i : Nat) (f : Ptp → Ptp) : (s.updPtp i f).wait = s.wait := rfl
@[simp] theorem State.updPtp_sys (s : State) (i : Nat) (f : Ptp → Ptp) : (s.updPtp i f).sys = s.sys := rfl
@[simp] theorem State.updPtp_clk (s : State) (i : Nat) (f : Ptp → Ptp) : (s.updPtp i f).clk = s.clk := rfl
@[simp] theorem State.updPtp_flt (s : State) (i : Nat) (f : Ptp → Ptp) : (s.updPtp i f).flt = s.flt := rfl
@[simp] theorem State.updPtp_gran (s : State) (i : Nat) (f : Ptp → Ptp) : (s.updPtp i f).gran = s.gran := rfl
@[simp] theorem State.updPtp_pwr (s : State) (i : Nat) (f : Ptp → Ptp) : (s.updPtp i f).pwr = s.pwr := rfl
@[simp] theorem State.updPtp_wear (s : State) (i : Nat) (f : Ptp → Ptp) : (s.updPtp i f).wear = s.wear := rfl
@[simp] theorem State.updPtp_inp (s : State) (i : Nat) (f : Ptp → Ptp) : (s.updPtp i f).inp = s.inp := rfl
@[simp] theorem State.updPtp_comp (s : State) (i : Nat) (f : Ptp → Ptp) : (s.updPtp i f).comp = s.comp := rfl
@[simp] theorem State.updPtp_pipe (s : State) (i : Nat) (f : Ptp → Ptp) : (s.updPtp i f).pipe = s.pipe := rfl
@[simp] theorem State.updPtp_outp (s : State) (i : Nat) (f : Ptp → Ptp) : (s.updPtp i f).outp = s.outp := rfl
@[simp] theorem State.updPtp_servo (s : State) (i : Nat) (f : Ptp → Ptp) : (s.updPtp i f).servo = { s.servo with ptp := s.servo.ptp.upd {} i f } := rfl
@[simp] theorem State.updPtp_audio (s : State) (i : Nat) (f : Ptp → Ptp) : (s.updPtp i f).audio = s.audio := rfl
@[simp] theorem State.updPtp_flue (s : State) (i : Nat) (f : Ptp → Ptp) : (s.updPtp i f).flue = s.flue := rfl
@[simp] theorem State.updPtp_council (s : State) (i : Nat) (f : Ptp → Ptp) : (s.updPtp i f).council = s.council := rfl
@[simp] theorem State.updPtp_pair (s : State) (i : Nat) (f : Ptp → Ptp) : (s.updPtp i f).pair = s.pair := rfl
@[simp] theorem State.updPtp_mem (s : State) (i : Nat) (f : Ptp → Ptp) : (s.updPtp i f).mem = s.mem := rfl
@[simp] theorem State.updPtp_oper (s : State) (i : Nat) (f : Ptp → Ptp) : (s.updPtp i f).oper = s.oper := rfl
@[simp] theorem State.updSess_now (s : State) (w : Who) (f : Sess → Sess) : (s.updSess w f).now = s.now := rfl
@[simp] theorem State.updSess_out (s : State) (w : Who) (f : Sess → Sess) : (s.updSess w f).out = s.out := rfl
@[simp] theorem State.updSess_pending (s : State) (w : Who) (f : Sess → Sess) : (s.updSess w f).pending = s.pending := rfl
@[simp] theorem State.updSess_free (s : State) (w : Who) (f : Sess → Sess) : (s.updSess w f).free = s.free := rfl
@[simp] theorem State.updSess_live (s : State) (w : Who) (f : Sess → Sess) : (s.updSess w f).live = s.live := rfl
@[simp] theorem State.updSess_pend (s : State) (w : Who) (f : Sess → Sess) : (s.updSess w f).pend = s.pend := rfl
@[simp] theorem State.updSess_committed (s : State) (w : Who) (f : Sess → Sess) : (s.updSess w f).committed = s.committed := rfl
@[simp] theorem State.updSess_comm (s : State) (w : Who) (f : Sess → Sess) : (s.updSess w f).comm = s.comm := rfl
@[simp] theorem State.updSess_wait (s : State) (w : Who) (f : Sess → Sess) : (s.updSess w f).wait = s.wait := rfl
@[simp] theorem State.updSess_sys (s : State) (w : Who) (f : Sess → Sess) : (s.updSess w f).sys = s.sys := rfl
@[simp] theorem State.updSess_clk (s : State) (w : Who) (f : Sess → Sess) : (s.updSess w f).clk = s.clk := rfl
@[simp] theorem State.updSess_flt (s : State) (w : Who) (f : Sess → Sess) : (s.updSess w f).flt = s.flt := rfl
@[simp] theorem State.updSess_pwr (s : State) (w : Who) (f : Sess → Sess) : (s.updSess w f).pwr = s.pwr := rfl
@[simp] theorem State.updSess_wear (s : State) (w : Who) (f : Sess → Sess) : (s.updSess w f).wear = s.wear := rfl
@[simp] theorem State.updSess_inp (s : State) (w : Who) (f : Sess → Sess) : (s.updSess w f).inp = s.inp := rfl
@[simp] theorem State.updSess_comp (s : State) (w : Who) (f : Sess → Sess) : (s.updSess w f).comp = s.comp := rfl
@[simp] theorem State.updSess_pipe (s : State) (w : Who) (f : Sess → Sess) : (s.updSess w f).pipe = s.pipe := rfl
@[simp] theorem State.updSess_outp (s : State) (w : Who) (f : Sess → Sess) : (s.updSess w f).outp = s.outp := rfl
@[simp] theorem State.updSess_servo (s : State) (w : Who) (f : Sess → Sess) : (s.updSess w f).servo = s.servo := rfl
@[simp] theorem State.updSess_audio (s : State) (w : Who) (f : Sess → Sess) : (s.updSess w f).audio = s.audio := rfl
@[simp] theorem State.updSess_flue (s : State) (w : Who) (f : Sess → Sess) : (s.updSess w f).flue = s.flue := rfl
@[simp] theorem State.updSess_council (s : State) (w : Who) (f : Sess → Sess) : (s.updSess w f).council = s.council := rfl
@[simp] theorem State.updSess_pair (s : State) (w : Who) (f : Sess → Sess) : (s.updSess w f).pair = s.pair := rfl
@[simp] theorem State.updSess_mem (s : State) (w : Who) (f : Sess → Sess) : (s.updSess w f).mem = s.mem := rfl
@[simp] theorem State.updSess_oper (s : State) (w : Who) (f : Sess → Sess) : (s.updSess w f).oper = s.oper := rfl

/-! Objects. -/

/-- The value of an object after it has been written. -/
theorem objGet_objPut (m : Tbl Val) (i j : Nat) (v : Val) : objGet (objPut m i v) j = if j = i then v else objGet m j := by
  unfold objGet objPut
  split
  · rename_i h; subst h; exact Tbl.get_put_self _ m j v
  · rename_i h; exact Tbl.get_put_other _ m v h

@[simp] theorem objGet_objPut_self (m : Tbl Val) (i : Nat) (v : Val) : objGet (objPut m i v) i = v := by simp [objGet_objPut]

theorem objGet_objPut_other (m : Tbl Val) {i j : Nat} (v : Val) (h : j ≠ i) : objGet (objPut m i v) j = objGet m j := by
  simp [objGet_objPut, h]

@[simp] theorem Val.nat_n (v : Nat) : (Val.n v).nat = v := rfl
@[simp] theorem Val.blk_b (v : List Byte) : (Val.b v).blk = v := rfl

/-- A number object after it has been set. -/
@[simp] theorem State.lv_setN_self (s : State) (i j v : Nat) : (s.setN i j v).lv i j = v := by simp [State.lv]

theorem State.lv_setN (s : State) (i j v a b : Nat) : (s.setN i j v).lv a b = if key a b = key i j then v else s.lv a b := by
  simp only [State.lv, State.setN_live, objGet_objPut]
  split <;> rfl

theorem State.lvb_setB (s : State) (i j : Nat) (v : List Byte) (a b : Nat) :
    (s.setB i j v).lvb a b = if key a b = key i j then v else s.lvb a b := by
  simp only [State.lvb, State.setB_live, objGet_objPut]
  split <;> rfl

/-- A number object after another has been set as bytes. -/
theorem State.lv_setB_other (s : State) (i j : Nat) (v : List Byte) (a b : Nat) (h : key a b ≠ key i j) : (s.setB i j v).lv a b = s.lv a b := by
  simp [State.lv, objGet_objPut, h]

/-- Objects depend on nothing but the stores. -/
theorem State.lv_congr {s s' : State} (h : s.live = s'.live) (i j : Nat) : s.lv i j = s'.lv i j := by simp [State.lv, h]

end Sys2Proof.Machine
end

