-- ==== Sys2Proof/Laws/Act.lean ====
section
/-!
SUPPORT. What every command has in common: the clauses that wrap each meaning, and what they keep.
-/
namespace Sys2Proof.Machine

/-- A command that leaves power-up as it stands, on a powered module: its effect, the instant, the queue untouched. -/
theorem act_next {t : Nat} {f : State → State} {s : State} (h : s.sys.boot ≠ .off) :
    act t f s = .next { f (s.begin t) with now := max s.now t, pending := s.pending, sys := s.sys.keep (f (s.begin t)).sys } := by
  simp [act, h]

/-- The same command on a module without power has no effect. -/
theorem act_off {t : Nat} {f : State → State} {s : State} (h : s.sys.boot = .off) : act t f s = .next (s.begin t) := by
  simp [act, h]

/-- A contact's change on a powered module is a command like any other. -/
theorem actPin_on {t : Nat} {pin f : State → State} {s : State} (h : s.sys.boot ≠ .off) : actPin t pin f s = act t f s := by
  simp [actPin, h]

theorem Sys.keep_boot (a b : Sys) : (a.keep b).boot = a.boot := rfl

theorem Sys.keep_mode {a : Sys} (b : Sys) (h : a.mode ≠ .cold) : (a.keep b).mode = b.mode := by simp [Sys.keep, h]

theorem Sys.keep_cold {a : Sys} (b : Sys) (h : a.mode = .cold) : (a.keep b).mode = .cold := by simp [Sys.keep, h]

/-- Where the effect leaves the hidden state of chapter 17 as it stood, the command does so. -/
@[simp] theorem Sys.keep_self (a : Sys) : a.keep a = a := by
  cases a with
  | mk boot rstLow mode => cases mode <;> simp [Sys.keep]

/-- A command that may change power-up: its effect, settled. -/
theorem actAny_next (t : Nat) (f : State → State) (s : State) :
    actAny t f s = .next { s.settle (f (s.begin t)) with now := max s.now t, pending := s.pending } := rfl

/-- Settling a state with power, entered from outside COLD, changes nothing. -/
theorem settle_on {a b : State} (hb : b.sys.boot ≠ .off) (ha : a.sys.mode ≠ .cold) : a.settle b = b := by
  simp [State.settle, hb, ha]

theorem settle_off {a b : State} (hb : b.sys.boot = .off) : a.settle b = b.unpowered := by
  simp [State.settle, hb]

theorem settle_boot (a b : State) : (a.settle b).sys.boot = b.sys.boot := by
  unfold State.settle
  split
  · rename_i h; rw [h]; rfl
  · split <;> rfl

theorem fiveVs_fiveVs (m : Tbl Hdmi) : fiveVs (fiveVs m) = fiveVs m := by
  simp [fiveVs, List.filter_map, Function.comp_def]

@[simp] theorem unpowered_unpowered (s : State) : s.unpowered.unpowered = s.unpowered := by
  simp [State.unpowered, fiveVs_fiveVs]

end Sys2Proof.Machine
end

