-- ==== Sys2Proof/Laws/Dram.lean ====
section
/-!
SUPPORT. Laws of the bytes of DRAM: a read after a write, the canonical form kept by every write, and what a write leaves alone.
-/
namespace Sys2Proof.Machine

/-- Reading a byte just written. -/
@[simp] theorem Mem.readByte_writeByte_self (m : Mem) (a : Nat) (v : Byte) : (m.writeByte a v).readByte a = v :=
  Tbl.get_put_self 0 m.cells a v

/-- A write of a byte leaves every other byte alone. -/
theorem Mem.readByte_writeByte_other (m : Mem) {a b : Nat} (v : Byte) (h : b ≠ a) : (m.writeByte a v).readByte b = m.readByte b :=
  Tbl.get_put_other 0 m.cells v h

/-- A write of a byte keeps the canonical form. -/
theorem Mem.wf_writeByte (m : Mem) (a : Nat) (v : Byte) (h : m.wf = true) : (m.writeByte a v).wf = true :=
  Tbl.wf_put 0 m.cells a v h

/-- A write of bytes keeps the canonical form. -/
theorem Mem.wf_writeBytes (m : Mem) (a : Nat) (vs : List Byte) (h : m.wf = true) : (m.writeBytes a vs).wf = true := by
  induction vs generalizing m a with
  | nil => exact h
  | cons v vs ih => exact ih (m.writeByte a v) (a + 1) (m.wf_writeByte a v h)

/-- A write of bytes leaves every byte outside them alone. -/
theorem Mem.readByte_writeBytes_other (m : Mem) {a b : Nat} (vs : List Byte) (h : b < a ∨ a + vs.length ≤ b) :
    (m.writeBytes a vs).readByte b = m.readByte b := by
  induction vs generalizing m a with
  | nil => rfl
  | cons v vs ih =>
    have hl : (v :: vs).length = vs.length + 1 := rfl
    show ((m.writeByte a v).writeBytes (a + 1) vs).readByte b = _
    rw [ih (m.writeByte a v) (by omega), m.readByte_writeByte_other v (by omega)]

/-- Byte `i` of bytes just written. -/
theorem Mem.readByte_writeBytes (m : Mem) (a : Nat) (vs : List Byte) (i : Nat) (h : i < vs.length) :
    (m.writeBytes a vs).readByte (a + i) = vs.getD i 0 := by
  induction vs generalizing m a i with
  | nil => exact absurd h (Nat.not_lt_zero i)
  | cons v vs ih =>
    show ((m.writeByte a v).writeBytes (a + 1) vs).readByte (a + i) = _
    cases i with
    | zero => rw [Mem.readByte_writeBytes_other _ vs (.inl (by omega))]; simp
    | succ i =>
      have hi : i < vs.length := Nat.lt_of_succ_lt_succ h
      rw [show a + (i + 1) = a + 1 + i by omega, ih (m.writeByte a v) (a + 1) i hi]
      simp

/-- A write of bytes changes nothing but bytes. -/
@[simp] theorem Mem.writeBytes_poison (m : Mem) (a : Nat) (vs : List Byte) : (m.writeBytes a vs).poison = m.poison := by
  induction vs generalizing m a with
  | nil => rfl
  | cons v vs ih => exact ih (m.writeByte a v) (a + 1)

@[simp] theorem Mem.writeBytes_subs (m : Mem) (a : Nat) (vs : List Byte) : (m.writeBytes a vs).subs = m.subs := by
  induction vs generalizing m a with
  | nil => rfl
  | cons v vs ih => exact ih (m.writeByte a v) (a + 1)

@[simp] theorem Mem.writeBytes_chans (m : Mem) (a : Nat) (vs : List Byte) : (m.writeBytes a vs).chans = m.chans := by
  induction vs generalizing m a with
  | nil => rfl
  | cons v vs ih => exact ih (m.writeByte a v) (a + 1)

/-- The machine right after reset lists no byte. -/
theorem reset_mem_wf : State.reset.mem.wf = true := rfl

end Sys2Proof.Machine
end

