-- ==== Sys2Proof/Laws/Exec.lean ====
section
/-!
SUPPORT. What a command can do whatever it is: it stops at an address without memory, or its effect is wrapped in one of the
clauses `Sys2Proof.Machine.act`, `Sys2Proof.Machine.actPin` and `Sys2Proof.Machine.actAny`.
-/
namespace Sys2Proof.Machine

/-- The commands whose effect may change how far power-up has come: those of Table 17-1, those that lose power, and those that may
reset the module. -/
def movesPowerUp (c : Instr) : Bool :=
  (requestOf c).isSome ||
  match c with
  | .powerStageStart _ _ => true
  | .pgAsserted _ => true
  | .rootPllLock _ => true
  | .kindlingEntered _ _ => true
  | .overvoltageLatchRelease _ _ => true
  | .sagLevelEnter _ _ => true
  | .rstNLow _ => true
  | _ => false

theorem exec_shape (c : Instr) (s : State) :
    exec c s = .fault .noSuchAddress ∨ (movesPowerUp c = false ∧ ∃ f, exec c s = act (instantOf c) f s) ∨
    (movesPowerUp c = false ∧ ∃ pin f, exec c s = actPin (instantOf c) pin f s) ∨
    (movesPowerUp c = true ∧ ∃ f, exec c s = actAny (instantOf c) f s) := by
  cases c
  case dramCommandSlot t ch sub arrivals =>
    simp only [exec, execDramCommandSlot]
    split
    · exact .inl rfl
    · exact .inr (.inl ⟨rfl, _, rfl⟩)
  case unsupportedCcc t direct =>
    refine .inr (.inl ⟨rfl, ?_⟩)
    cases direct
    · exact ⟨_, rfl⟩
    · simp only [exec, execUnsupportedCcc, cccDirect, if_true]
      exact ⟨_, rfl⟩
  all_goals simp only [exec,
    execPowerStageStart, execPgAsserted, execRootPllLock, execKindlingEntered, execDramTrainingDone, execInputOvervoltage,
    execPowerStageFault, execOvervoltageLatchRelease, execRailOutOfRegulation, execVaux33CurrentLimit, execRailSample,
    execSagLevelEnter, execSagLevelLeave, execPowerLoopTick, execThermalModelTick, execSpareDiodeTakeover,
    execThrottleStep, execThrottleRecoveryStep, execRetentionBandCheck, execWearMeasurement, execWearRecordWrite,
    execCommitReq, execCommitValidationDone, execStart, execStop, execBank, execBankedEntry, execWakeSource,
    execWakeComplete, execReset, execRstNLow, execRstNRelease, execHoldNAsserted, execHoldNReleased, execFrameStart,
    execStripeStart, execCompositionComplete, execSignatureActionTrigger, execStripeReady, execCouncilDependenceTf,
    execJobComplete, execSliceInOutputBuffer, execSeamFilterDone, execGrateCreditTick, execReadinessDeadline,
    execMissingStripeCopyDone, execSendWindowOpen, execTailSlotOpen, execChannelStopComplete, execObsWindowEnd,
    execWithyCheckerFault, execJobOverrun, execSpareSelfTestDone, execRetireReq, execRetirementDrainDone,
    execCouncilSummarySend, execCouncilSummaryRx, execCouncilWaitLimit, execCouncilBroadcastRx, execCouncilChildAbsent,
    execCouncilRootLost, execLayerNrAction, execCompRelease, execPipeCheckerFault, execExpectedWrite, execIngestPacketRx,
    execIngestFormatError, execCaptureFrameComplete, execFrameIncompleteTimeout, execLockedFrameRelease,
    execIngestLegLost, execHdmi5vRise, execHdmi5vDebounceEnd, execHdmi5vFall, execHdmiHpdLowEnd, execEdidWrite,
    execDdcAccess, execHdmiLock, execHdmiLockLoss, execAviInfoframeRx, execItemAlloc, execItemData, execItemDone,
    execItemDelete, execRelayLineRx, execRelayLineForward, execRefInEdge, execRefPeriodMissing, execRefSettingWrite,
    execPpsInEdge, execEthFrameRx, execEthLinkUp, execEthLinkDown, execNeighbourRefresh, execPacketEligible,
    execPortTxSelect, execGateIntervalEnd, execConfigChange, execGateChangeTime, execMeterConfigWrite,
    execQueueDepthSample, execHistWindowEnd, execTimeSet, execTimeAdjust, execPtpEventRx, execPtpAnnounceTimeout,
    execPtpSyncTimeout, execPtpDelayReqSend, execPtpTx, execPtpRxRead, execTsRead, execTsEntryStale, execHostSample,
    execHostSampleExpire, execSourcePreferenceTimer, execHoldoverMaxPassed, execStoveCounterCompare, execPpsOutPulse,
    execFlueTimeExchange, execFlueTimeFrameRx, execI2sFrameRx, execHdmiAudioPacketRx, execAsrcLocked, execAudioUnderrun,
    execAudioOverrun, execUnderrunHoldEnd, execAudioResume, execAudioPacketRelease, execFlueTrainingDone,
    execFlueTrainingRetry, execFlueLinkAdmit, execFlueLinkDown, execLaneSerExceeded, execLaneRetire, execLaneLost,
    execFlueFrameRx, execBroadcastFrameRx, execTopologyAdvertTimer, execTopologyAdvertRx, execEnumStart,
    execEnumerationFrameRx, execSwitchReq, execTwinSwitchReq, execHearthLevelFault, execArbitrationResult,
    execHearthSelfTestDone, execPairResyncDone, execBistPeriodTimer, execTwinHashRx, execSendTokenRx, execSendTokenMissed,
    execGiveUpFrameRx, execLastGaspRx, execFenceFrameRx, execDramCorrectedError, execDramUncorrectable, execPoisonedRead,
    execRankMigrationDone, execRankRetire, execScrubPass, execCaParityAlert, execDramRetrainDone, execDramTempPoll,
    execDramRefreshDue, execRfmDue, execSramCorrected, execSramUncorrectable, execPresentPulseEnd, execStatusClear,
    execIbiArbitration, execCaptureClear, execQuietPeriodEnd, execRelease, execAshRead, execAshClear, execInjArm,
    execInjStop, execStandinsClear, execKeyDebouncedChange, execKeyLongPress, execRemoteAction, execTouchInt,
    execTouchPoll, execTouchReportRead, execTouchHold, execTouchRetry, execGranilRead, execGranilWrite, execSegInitWrite,
    execSegInitRead, execSegDataWrite, execSegDataRead, execSegEndWrite, execSegEndRead, execGranilAbort, execSegTimeout,
    execFirmwareCheckDone, execForwardedResponseRx, execFwdTimeout, execLevelReq, execPinLockoutEnd,
    execSessionIdleTimeout, execI3cPrivateRead, execHdrDdrRead, execHotJoinRequest, execEntdaa, execSetnewda, execRstdaa,
    execEnec, execDisec, execSetmwl, execGetmwl, execSetmrl, execGetmrl, execGetpid, execGetbcr, execGetdcr,
    execGetstatus, execEnthdr0, execTestRstNChange, execTapIdcode, execTapBypass, execTapBoundaryScan,
    execRootPllLockLost, execCrossingFifoError, execBlockCheckerEvent, execUncorrectableFecCodeword,
    execTimeOutputPulseEnd, execLedBlinkTimer, execWakeDeferralEnd, execStartNoChannelTimer, execRequest, ccc, cccDirect]
  all_goals first
    | exact .inr (.inl ⟨rfl, _, rfl⟩)
    | exact .inr (.inr (.inl ⟨rfl, _, _, rfl⟩))
    | exact .inr (.inr (.inr ⟨rfl, _, rfl⟩))

end Sys2Proof.Machine
end

