-- ==== Sys2Proof/Laws/Faults.lean ====
section
/-!
SUPPORT. What the fault collector's shared operations do to COUNTS: a source that occurs is counted once, and no other source is, but
for the collector's own (group 0) and the injector's.
-/
namespace Sys2Proof.Machine

/-- A source whose count nothing but its own occurrence moves: outside group 0, and not INJ_ACTIVE's. -/
def plain (x : Nat) : Prop := 32 ≤ x ∧ x ≠ src 19 7

theorem countOf_congr {s s' : State} (h : s'.flt.counts = s.flt.counts) (x : Nat) : countOf s' x = countOf s x := by
  simp [countOf, h]

theorem askIbi_counts (s : State) (g b : Nat) : (s.askIbi g b).flt.counts = s.flt.counts := by
  unfold State.askIbi; split <;> rfl

theorem mark_countOf (s : State) (e x : Nat) :
    countOf (s.mark e) x = if x = e then satAdd 16 (countOf s e) 1 else countOf s x := by
  unfold State.mark
  simp only [countOf]
  split <;> simp [Tbl.get_put, askIbi_counts]

@[simp] theorem bePresent_counts (s : State) (e d c : Nat) : (s.bePresent e d c).flt.counts = s.flt.counts := rfl

@[simp] theorem capture_counts (s : State) (g : Nat) (c : Capture) : (s.capture g c).flt.counts = s.flt.counts := by
  unfold State.capture; split <;> rfl

@[simp] theorem ashPush_counts (s : State) (c : Capture) (k : Nat) : (s.ashPush c k).1.flt.counts = s.flt.counts := rfl

@[simp] theorem ashFault_counts (s : State) (c : Capture) (k : Nat) : (s.ashFault c k).1.flt.counts = s.flt.counts := by
  unfold State.ashFault; split <;> rfl

@[simp] theorem bePresent_countOf (s : State) (e d c x : Nat) : countOf (s.bePresent e d c) x = countOf s x := rfl
@[simp] theorem capture_countOf (s : State) (g : Nat) (c : Capture) (x : Nat) : countOf (s.capture g c) x = countOf s x :=
  countOf_congr (capture_counts s g c) x
@[simp] theorem ashPush_countOf (s : State) (c : Capture) (k x : Nat) : countOf (s.ashPush c k).1 x = countOf s x := rfl
@[simp] theorem ashFault_countOf (s : State) (c : Capture) (k x : Nat) : countOf (s.ashFault c k).1 x = countOf s x :=
  countOf_congr (ashFault_counts s c k) x
@[simp] theorem inc_countOf (s : State) (i j x : Nat) : countOf (s.inc i j) x = countOf s x := rfl
@[simp] theorem setN_countOf (s : State) (i j v x : Nat) : countOf (s.setN i j v) x = countOf s x := rfl
@[simp] theorem setB_countOf (s : State) (i j : Nat) (v : List Byte) (x : Nat) : countOf (s.setB i j v) x = countOf s x := rfl
@[simp] theorem emit_countOf (s : State) (e : Emit) (x : Nat) : countOf (s.emit e) x = countOf s x := rfl

theorem note_countOf (s : State) (e : Nat) {x : Nat} (hx : plain x) :
    countOf (s.note e) x = if x = e then satAdd 16 (countOf s e) 1 else countOf s x := by
  have h7 : x ≠ src 0 7 := by have := hx.1; simp [src]; omega
  unfold State.note
  simp only []
  split
  · split
    · simp [mark_countOf, h7]
    · simp [mark_countOf]
  · simp [mark_countOf]

/-- A class 0 occurrence of the collector's own moves no plain source's count. -/
theorem note_plain (s : State) (e : Nat) {x : Nat} (hx : plain x) (he : x ≠ e) : countOf (s.note e) x = countOf s x := by
  rw [note_countOf s e hx, if_neg he]

theorem plain_ne_zero {x b : Nat} (hx : plain x) (hb : b < 32) : x ≠ src 0 b := by
  have := hx.1; simp [src]; omega

theorem ashDone_plain (r : State × Bool) {x : Nat} (hx : plain x) : countOf (State.ashDone r) x = countOf r.1 x := by
  unfold State.ashDone
  split
  · rw [note_plain _ _ hx (plain_ne_zero hx (by decide)), inc_countOf]
  · rfl

theorem ashRecovery_plain (s : State) (r : Recovery) (k : Nat) {x : Nat} (hx : plain x) : countOf (s.ashRecovery r k) x = countOf s x := by
  unfold State.ashRecovery
  rw [ashDone_plain _ hx, ashPush_countOf]

theorem record_countOf (s : State) (e : Ev) (cls : Nat) (esc : Bool) {x : Nat} (hx : plain x) :
    countOf (s.record e cls esc) x = if x = e.source then satAdd 16 (countOf s e.source) 1 else countOf s x := by
  unfold State.record
  simp only []
  split
  · rw [ashDone_plain _ hx, ashFault_countOf, capture_countOf, bePresent_countOf, mark_countOf]
  · rw [capture_countOf, bePresent_countOf, mark_countOf]

theorem awaitCond_plain (s : State) {x : Nat} (hx : plain x) : countOf s.awaitCond x = countOf s x := by
  unfold State.awaitCond
  simp only []
  split
  · exact note_plain _ _ hx (plain_ne_zero hx (by decide))
  · split <;> rfl

theorem beginRecovery_plain (s : State) (dom cls : Nat) (c : Capture) (slot : Option Nat) (switch : Bool) {x : Nat} (hx : plain x) :
    countOf (s.beginRecovery dom cls c slot switch) x = countOf s x := by
  unfold State.beginRecovery
  simp only []
  rw [awaitCond_plain _ hx]
  have R : ∀ s : State, countOf s.requiet x = countOf s x := fun s => rfl
  rw [R]
  split
  · rw [ashRecovery_plain _ _ _ hx, ashRecovery_plain _ _ _ hx]
    split <;> rfl
  · rw [ashRecovery_plain _ _ _ hx]
    split <;> rfl

theorem setMode_plain (s : State) (m : Mode) {x : Nat} (hx : plain x) : countOf (s.setMode m) x = countOf s x := by
  unfold State.setMode
  simp only []
  rw [note_plain _ _ hx (plain_ne_zero hx (by decide)), inc_countOf, setN_countOf]
  rfl

theorem dampedCond_plain (s : State) {x : Nat} (hx : plain x) : countOf s.dampedCond x = countOf s x := by
  unfold State.dampedCond
  split
  · exact note_plain _ _ hx (plain_ne_zero hx (by decide))
  · rfl

theorem showInj_plain (s : State) {x : Nat} (hx : plain x) : countOf s.showInj x = countOf s x := by
  unfold State.showInj
  simp only []
  split
  · rw [note_plain _ _ hx hx.2, setN_countOf]
  · split
    · exact countOf_congr (by simp) x
    · exact setN_countOf _ _ _ _ _

theorem fireInj_plain (s : State) (i : Nat) {x : Nat} (hx : plain x) : countOf (s.fireInj i) x = countOf s x := by
  unfold State.fireInj
  simp only []
  split
  · rw [showInj_plain _ hx, setN_countOf, inc_countOf]
  · exact inc_countOf _ _ _ _

theorem takeInj_plain (s : State) (k : Nat) (u p : Nat → Bool) {x : Nat} (hx : plain x) : countOf (s.takeInj k u p).1 x = countOf s x := by
  unfold State.takeInj
  split
  · split
    · exact fireInj_plain _ _ hx
    · rfl
  · rfl

theorem invertSent_plain (s : State) (k p : Nat) (u : Nat → Bool) {x : Nat} (hx : plain x) : countOf (s.invertSent k p u) x = countOf s x := by
  unfold State.invertSent
  split
  · rw [emit_countOf]; exact fireInj_plain _ _ hx
  · rfl

theorem flueOut_plain (s : State) (p : Nat) (f : FlueFrame) {x : Nat} (hx : plain x) : countOf (s.flueOut p f) x = countOf s x := by
  unfold State.flueOut
  simp only []
  rw [emit_countOf, invertSent_plain _ _ _ _ hx, invertSent_plain _ _ _ _ hx]
  exact countOf_congr rfl x

theorem flueTo_plain (s : State) (f : FlueFrame) {x : Nat} (hx : plain x) : countOf (s.flueTo f) x = countOf s x := by
  unfold State.flueTo
  simp only []
  split
  · exact flueOut_plain _ _ _ hx
  · rfl

/-- What holds of every step of a fold holds of the fold. -/
theorem eachIn_plain {α : Type} (xs : List α) (f : α → State → State) (x : Nat) (h : ∀ a s, countOf (f a s) x = countOf s x) (s : State) :
    countOf (eachIn xs f s) x = countOf s x := by
  unfold eachIn
  induction xs generalizing s with
  | nil => rfl
  | cons a xs ih => rw [List.foldl_cons, ih, h]

theorem eachBelow_plain (n : Nat) (f : Nat → State → State) (x : Nat) (h : ∀ a s, countOf (f a s) x = countOf s x) (s : State) :
    countOf (eachBelow n f s) x = countOf s x := eachIn_plain (List.range n) f x h s

theorem giveUp_plain (s : State) (c k : Nat) {x : Nat} (hx : plain x) : countOf (s.giveUp c k) x = countOf s x := by
  unfold State.giveUp
  simp only []
  split
  · split
    · exact flueTo_plain _ _ hx
    · rw [eachBelow_plain]
      · exact flueTo_plain _ _ hx
      · intro a s; split <;> rfl
  · rfl

theorem enterDamped_plain (s : State) (e : Nat) {x : Nat} (hx : plain x) : countOf (s.enterDamped e) x = countOf s x := by
  unfold State.enterDamped
  simp only []
  rw [dampedCond_plain _ hx, setMode_plain _ _ hx]
  exact giveUp_plain s _ _ hx

theorem enterCold_plain (s : State) {x : Nat} (hx : plain x) : countOf s.enterCold x = countOf s x := by
  unfold State.enterCold
  split
  · rfl
  · simp only []
    have A : countOf (if (s.giveUp 0xFFFF 6).sys.validating.isSome then ((s.giveUp 0xFFFF 6).setN 0x1F00 2 3).setN 0x1F01 2 0
        else s.giveUp 0xFFFF 6) x = countOf s x := by
      split <;> simp [giveUp_plain s 0xFFFF 6 hx]
    generalize (if (s.giveUp 0xFFFF 6).sys.validating.isSome then ((s.giveUp 0xFFFF 6).setN 0x1F00 2 3).setN 0x1F01 2 0
        else s.giveUp 0xFFFF 6) = u at A ⊢
    rw [awaitCond_plain _ hx, dampedCond_plain _ hx, setMode_plain _ _ hx]
    exact A

theorem react_plain (s : State) (e : Ev) (cls : Nat) (esc : Bool) {x : Nat} (hx : plain x) : countOf (s.react e cls esc) x = countOf s x := by
  unfold State.react
  simp only []
  split
  · exact beginRecovery_plain _ _ _ _ _ _ hx
  · split
    · rw [beginRecovery_plain _ _ _ _ _ _ hx, enterDamped_plain _ _ hx]
    · split
      · exact enterCold_plain _ hx
      · rfl

/-- A source that occurs is counted once, and every other plain source keeps its count (R316). -/
theorem raise_countOf (s : State) (e : Ev) {x : Nat} (hx : plain x) (hu : evUsed e.source = true) :
    countOf (s.raise e) x = if x = e.source then satAdd 16 (countOf s e.source) 1 else countOf s x := by
  unfold State.raise
  simp only [hu, Bool.not_true, Bool.false_eq_true, if_false]
  have N : ∀ (s : State) (b : Nat), b < 32 → countOf (s.note (src 0 b)) x = countOf s x :=
    fun s b hb => note_plain s _ hx (plain_ne_zero hx hb)
  have E : ∀ (s : State), countOf s.escalate x = countOf s x := by
    intro s; unfold State.escalate; rw [N _ 3 (by decide), inc_countOf]
  generalize (if s.sys.mode = Mode.cold then evClass e.source else s.effClass e) = cls
  generalize decide (cls ≠ evClass e.source) = esc
  rw [← record_countOf s e cls esc hx]
  generalize s.record e cls esc = r
  have A : countOf (if esc = true then r.escalate else r) x = countOf r x := by split <;> simp [E]
  generalize (if esc = true then r.escalate else r) = r1 at A ⊢
  split
  · split
    · rw [N _ 5 (by decide), A]
    · rw [react_plain _ _ _ _ hx, N _ 5 (by decide), A]
  · split
    · exact A
    · rw [react_plain _ _ _ _ hx, A]

/-- A condition that becomes present is counted once (R315, R316). -/
theorem cond_countOf (s : State) (e : Ev) {x : Nat} (hx : plain x) (hu : evUsed e.source = true)
    (hn : s.flt.present.any (fun p => p.source = e.source && p.dom = e.dom) = false) :
    countOf (s.cond e true) x = if x = e.source then satAdd 16 (countOf s e.source) 1 else countOf s x := by
  unfold State.cond
  simp only [hn, Bool.not_false, Bool.and_self, if_true]
  exact raise_countOf s e hx hu

end Sys2Proof.Machine
end

