-- ==== Sys2Proof/Laws/FaultFrame.lean ====
section
/-!
SUPPORT. What an occurrence leaves alone: it may change objects, the collector, chapter 17's hidden state, handoffs, self-refresh, Flue ports
and what goes out, and nothing else.
-/
namespace Sys2Proof.Machine

theorem FaultFrame.refl (s : State) : FaultFrame s s := rfl

theorem FaultFrame.trans {a b c : State} (h : FaultFrame a b) (k : FaultFrame b c) : FaultFrame a c := by
  unfold FaultFrame at h k ⊢
  rw [k, h]

theorem FaultFrame.ite {s a b : State} {p : Prop} [Decidable p] (ha : FaultFrame s a) (hb : FaultFrame s b) :
    FaultFrame s (if p then a else b) := by split <;> assumption

theorem frame_sys (s : State) (x : Sys) : FaultFrame s { s with sys := x } := rfl
theorem frame_flt (s : State) (x : Faults) : FaultFrame s { s with flt := x } := rfl
theorem frame_cold (s : State) (x : Sys) (f : Faults) (m : Mem) : FaultFrame s { s with sys := x, flt := f, mem := m } := rfl
theorem inc_frame (s : State) (i j : Nat) : FaultFrame s (s.inc i j) := rfl
theorem setN_frame (s : State) (i j v : Nat) : FaultFrame s (s.setN i j v) := rfl
theorem setB_frame (s : State) (i j : Nat) (v : List Byte) : FaultFrame s (s.setB i j v) := rfl
theorem frame_flue (s : State) (x : Flue) : FaultFrame s { s with flue := x } := rfl
theorem emit_frame (s : State) (e : Emit) : FaultFrame s (s.emit e) := rfl

theorem askIbi_frame (s : State) (g b : Nat) : FaultFrame s (s.askIbi g b) := by
  unfold State.askIbi; exact .ite rfl (.refl s)

theorem mark_frame (s : State) (e : Nat) : FaultFrame s (s.mark e) := by
  unfold State.mark
  simp only []
  split
  · rfl
  · exact ((setN_frame s _ _ _).trans (askIbi_frame _ _ _)).trans rfl

theorem bePresent_frame (s : State) (e d c : Nat) : FaultFrame s (s.bePresent e d c) := rfl

theorem capture_frame (s : State) (g : Nat) (c : Capture) : FaultFrame s (s.capture g c) := by
  unfold State.capture; split <;> rfl

theorem ashPush_frame (s : State) (c : Capture) (k : Nat) : FaultFrame s (s.ashPush c k).1 := rfl

theorem ashFault_frame (s : State) (c : Capture) (k : Nat) : FaultFrame s (s.ashFault c k).1 := by
  unfold State.ashFault; split <;> rfl

theorem note_frame (s : State) (e : Nat) : FaultFrame s (s.note e) := by
  unfold State.note
  simp only []
  have A := ((mark_frame s e).trans (bePresent_frame _ e domModule 0)).trans
    (capture_frame _ (e / 32) { ts := s.stamp, init := blockInit 0 58, source := e, access := 8, cls := 0 })
  split
  · split
    · exact (((A.trans (ashFault_frame _ _ 1)).trans (inc_frame _ _ _)).trans (mark_frame _ _)).trans (bePresent_frame _ _ _ _)
    · exact A.trans (ashFault_frame _ _ 1)
  · exact A

theorem ashDone_frame (r : State × Bool) : FaultFrame r.1 (State.ashDone r) := by
  unfold State.ashDone; exact .ite ((inc_frame _ _ _).trans (note_frame _ _)) (.refl _)

theorem ashRecovery_frame (s : State) (r : Recovery) (k : Nat) : FaultFrame s (s.ashRecovery r k) :=
  (ashPush_frame s _ k).trans (ashDone_frame _)

theorem record_frame (s : State) (e : Ev) (cls : Nat) (esc : Bool) : FaultFrame s (s.record e cls esc) := by
  unfold State.record
  simp only []
  refine .ite (.trans (((mark_frame s e.source).trans (bePresent_frame _ _ _ _)).trans (capture_frame _ _ _))
    (.trans (ashFault_frame _ _ _) (ashDone_frame _))) ?_
  exact ((mark_frame s e.source).trans (bePresent_frame _ _ _ _)).trans (capture_frame _ _ _)

theorem awaitCond_frame (s : State) : FaultFrame s s.awaitCond := by
  unfold State.awaitCond
  simp only []
  exact .ite (note_frame _ _) (.ite rfl (.refl s))

theorem requiet_frame (s : State) : FaultFrame s s.requiet := rfl

theorem beginRecovery_frame (s : State) (dom cls : Nat) (c : Capture) (slot : Option Nat) (switch : Bool) :
    FaultFrame s (s.beginRecovery dom cls c slot switch) := by
  unfold State.beginRecovery
  simp only []
  have K : ∀ (u : State) (r : Recovery), FaultFrame s u →
      FaultFrame s (State.requiet (if r.host = true then (u.ashRecovery r 3).ashRecovery r 6 else u.ashRecovery r 3)).awaitCond := by
    intro u r hu
    have B : FaultFrame s (if r.host = true then (u.ashRecovery r 3).ashRecovery r 6 else u.ashRecovery r 3) :=
      .ite ((hu.trans (ashRecovery_frame _ _ _)).trans (ashRecovery_frame _ _ _)) (hu.trans (ashRecovery_frame _ _ _))
    exact (B.trans (requiet_frame _)).trans (awaitCond_frame _)
  cases slot
  · exact K _ { dom := dom, cls := cls, cap := c, host := _, awaiting := _, switchOver := switch } rfl
  · exact K _ { dom := dom, cls := cls, cap := c, host := _, awaiting := _, switchOver := switch } rfl

theorem setMode_frame (s : State) (m : Mode) : FaultFrame s (s.setMode m) := by
  unfold State.setMode
  simp only []
  exact (((frame_sys s _).trans (setN_frame _ _ _ _)).trans (inc_frame _ _ _)).trans (note_frame _ _)

theorem dampedCond_frame (s : State) : FaultFrame s s.dampedCond := by
  unfold State.dampedCond
  exact .ite (note_frame _ _) rfl

theorem showInj_frame (s : State) : FaultFrame s s.showInj := by
  unfold State.showInj
  simp only []
  exact .ite ((setN_frame s _ _ _).trans (note_frame _ _)) (.ite ((setN_frame s _ _ _).trans (frame_flt _ _)) (setN_frame s _ _ _))

theorem fireInj_frame (s : State) (i : Nat) : FaultFrame s (s.fireInj i) := by
  unfold State.fireInj
  simp only []
  exact .ite (((inc_frame s _ _).trans (setN_frame _ _ _ _)).trans (showInj_frame _)) (inc_frame s _ _)

theorem takeInj_frame (s : State) (k : Nat) (u p : Nat → Bool) : FaultFrame s (s.takeInj k u p).1 := by
  unfold State.takeInj
  split
  · split
    · exact fireInj_frame _ _
    · exact .refl s
  · exact .refl s

theorem invertSent_frame (s : State) (k p : Nat) (u : Nat → Bool) : FaultFrame s (s.invertSent k p u) := by
  unfold State.invertSent
  split
  · exact (fireInj_frame _ _).trans (emit_frame _ _)
  · exact .refl s

theorem flueOut_frame (s : State) (p : Nat) (f : FlueFrame) : FaultFrame s (s.flueOut p f) := by
  unfold State.flueOut
  simp only []
  refine .trans ?_ (emit_frame _ _)
  refine .trans ?_ (invertSent_frame _ _ _ _)
  refine .trans ?_ (invertSent_frame _ _ _ _)
  exact (setB_frame s _ _ _).trans (frame_flue _ _)

theorem flueTo_frame (s : State) (f : FlueFrame) : FaultFrame s (s.flueTo f) := by
  unfold State.flueTo
  exact .ite (flueOut_frame _ _ _) (.refl s)

theorem eachIn_frame {α : Type} (xs : List α) (f : α → State → State) (h : ∀ a s, FaultFrame s (f a s)) (s : State) :
    FaultFrame s (eachIn xs f s) := by
  unfold eachIn
  induction xs generalizing s with
  | nil => exact .refl s
  | cons a xs ih => exact (h a s).trans (ih _)

theorem eachBelow_frame (n : Nat) (f : Nat → State → State) (h : ∀ a s, FaultFrame s (f a s)) (s : State) :
    FaultFrame s (eachBelow n f s) := eachIn_frame (List.range n) f h s

theorem giveUp_frame (s : State) (c k : Nat) : FaultFrame s (s.giveUp c k) := by
  unfold State.giveUp
  simp only []
  refine .ite (.ite (flueTo_frame _ _) ((flueTo_frame _ _).trans (eachBelow_frame _ _ ?_ _))) (.refl s)
  intro a s
  exact .ite rfl (.refl s)

theorem enterDamped_frame (s : State) (e : Nat) : FaultFrame s (s.enterDamped e) := by
  unfold State.enterDamped
  simp only []
  have A := giveUp_frame s 0xFFFF 6
  generalize s.giveUp 0xFFFF 6 = g at A ⊢
  exact A.trans (((frame_sys g _).trans (setMode_frame _ _)).trans (dampedCond_frame _))

theorem enterCold_frame (s : State) : FaultFrame s s.enterCold := by
  unfold State.enterCold
  split
  · exact .refl s
  · simp only []
    have A : FaultFrame s (if (s.giveUp 0xFFFF 6).sys.validating.isSome then ((s.giveUp 0xFFFF 6).setN 0x1F00 2 3).setN 0x1F01 2 0
        else s.giveUp 0xFFFF 6) :=
      (giveUp_frame s 0xFFFF 6).trans (.ite ((setN_frame _ _ _ _).trans (setN_frame _ _ _ _)) (.refl _))
    generalize (if (s.giveUp 0xFFFF 6).sys.validating.isSome then ((s.giveUp 0xFFFF 6).setN 0x1F00 2 3).setN 0x1F01 2 0
        else s.giveUp 0xFFFF 6) = u at A ⊢
    exact A.trans ((((frame_cold u _ _ _).trans (setMode_frame _ _)).trans (dampedCond_frame _)).trans (awaitCond_frame _))

theorem react_frame (s : State) (e : Ev) (cls : Nat) (esc : Bool) : FaultFrame s (s.react e cls esc) := by
  unfold State.react
  simp only []
  exact .ite (beginRecovery_frame _ _ _ _ _ _) (.ite ((enterDamped_frame _ _).trans (beginRecovery_frame _ _ _ _ _ _))
    (.ite (enterCold_frame _) (requiet_frame _)))

/-- What an occurrence leaves alone. -/
theorem raise_frame (s : State) (e : Ev) : FaultFrame s (s.raise e) := by
  unfold State.raise
  split
  · exact .refl s
  · simp only []
    generalize (if s.sys.mode = Mode.cold then evClass e.source else s.effClass e) = cls
    generalize decide (cls ≠ evClass e.source) = esc
    have R := record_frame s e cls esc
    generalize s.record e cls esc = r at R ⊢
    have A : FaultFrame s (if esc = true then r.escalate else r) :=
      R.trans (.ite ((inc_frame _ _ _).trans (note_frame _ _)) (.refl _))
    generalize (if esc = true then r.escalate else r) = r1 at A ⊢
    split
    · have B := A.trans (note_frame r1 (src 0 5))
      exact .ite B (B.trans (react_frame _ _ _ _))
    · exact .ite A (A.trans (react_frame _ _ _ _))

theorem cond_frame (s : State) (e : Ev) (b : Bool) : FaultFrame s (s.cond e b) := by
  unfold State.cond
  exact .ite (raise_frame _ _) (.ite rfl (.refl s))

end Sys2Proof.Machine
end

