-- ==== Sys2Proof/Laws/Granil.lean ====
section
/-!
SUPPORT. What an answer leaves alone, and what a frame that is heard does: it is executed, and the answer is sent.
-/
namespace Sys2Proof.Machine

theorem AnswerFrame.refl (s : State) : AnswerFrame s s := rfl

theorem AnswerFrame.trans {a b c : State} (h : AnswerFrame a b) (k : AnswerFrame b c) : AnswerFrame a c := by
  unfold AnswerFrame at h k ⊢
  rw [k, h]

theorem AnswerFrame.ite {s a b : State} {p : Prop} [Decidable p] (ha : AnswerFrame s a) (hb : AnswerFrame s b) :
    AnswerFrame s (if p then a else b) := by split <;> assumption

theorem answer_setN (s : State) (i j v : Nat) : AnswerFrame s (s.setN i j v) := rfl
theorem answer_inc (s : State) (i j : Nat) : AnswerFrame s (s.inc i j) := rfl
theorem answer_setB (s : State) (i j : Nat) (v : List Byte) : AnswerFrame s (s.setB i j v) := rfl
theorem answer_links (s : State) (x : Tbl Link) : AnswerFrame s { s with flue := { s.flue with links := x } } := rfl
theorem answer_outp (s : State) (x : Output) : AnswerFrame s { s with outp := x } := rfl
theorem answer_flt (s : State) (x : Faults) : AnswerFrame s { s with flt := x } := rfl
theorem answer_emit (s : State) (e : Emit) : AnswerFrame s (s.emit e) := rfl
theorem answer_gran (s : State) (f : Gran → Gran) : AnswerFrame s (s.updGran f) := rfl
theorem answer_sess (s : State) (w : Who) (f : Sess → Sess) : AnswerFrame s (s.updSess w f) := rfl

theorem answer_mark (s : State) (e : Nat) : AnswerFrame s (s.mark e) := by
  unfold State.mark State.askIbi
  simp only []
  split
  · rfl
  · split <;> rfl

theorem answer_capture (s : State) (g : Nat) (c : Capture) : AnswerFrame s (s.capture g c) := by
  unfold State.capture; split <;> rfl

theorem answer_ashFault (s : State) (c : Capture) (k : Nat) : AnswerFrame s (s.ashFault c k).1 := by
  unfold State.ashFault; split <;> rfl

theorem answer_note (s : State) (e : Nat) : AnswerFrame s (s.note e) := by
  unfold State.note
  simp only []
  have A : AnswerFrame s (((s.mark e).bePresent e domModule 0).capture (e / 32)
      { ts := s.stamp, init := blockInit 0 58, source := e, access := 8, cls := 0 }) :=
    .trans (.trans (answer_mark s e) (answer_flt _ _)) (answer_capture _ _ _)
  split
  · split
    · exact (((A.trans (answer_ashFault _ _ 1)).trans (answer_inc _ _ _)).trans (answer_mark _ _)).trans (answer_flt _ _)
    · exact A.trans (answer_ashFault _ _ 1)
  · exact A

theorem answer_showInj (s : State) : AnswerFrame s s.showInj := by
  unfold State.showInj
  simp only []
  exact .ite ((answer_setN s _ _ _).trans (answer_note _ _)) (.ite ((answer_setN s _ _ _).trans (answer_flt _ _)) (answer_setN s _ _ _))

theorem answer_invertSent (s : State) (k p : Nat) (u : Nat → Bool) : AnswerFrame s (s.invertSent k p u) := by
  unfold State.invertSent State.fireInj
  split
  · simp only []
    exact .trans (.ite (.trans (.trans (answer_inc s _ _) (answer_setN _ _ _ _)) (answer_showInj _)) (answer_inc s _ _)) (answer_emit _ _)
  · exact .refl s

theorem answer_flueOut (s : State) (p : Nat) (f : FlueFrame) : AnswerFrame s (s.flueOut p f) := by
  unfold State.flueOut
  simp only []
  refine .trans ?_ (answer_emit _ _)
  refine .trans ?_ (answer_invertSent _ _ _ _)
  refine .trans ?_ (answer_invertSent _ _ _ _)
  exact (answer_setB s _ _ _).trans (answer_links _ _)

theorem answer_flueTo (s : State) (f : FlueFrame) : AnswerFrame s (s.flueTo f) := by
  unfold State.flueTo
  exact .ite (answer_flueOut _ _ _) (.refl s)

theorem answer_flueOn (s : State) (p : Nat) (f : FlueFrame) : AnswerFrame s (s.flueOn p f) := by
  unfold State.flueOn
  exact .ite (answer_flueOut _ _ _) (.refl s)

theorem answer_ashDone (r : State × Bool) : AnswerFrame r.1 (State.ashDone r) := by
  unfold State.ashDone; exact .ite ((answer_inc _ _ _).trans (answer_note _ _)) (.refl _)

theorem answer_record (s : State) (e : Ev) (cls : Nat) (esc : Bool) : AnswerFrame s (s.record e cls esc) := by
  unfold State.record
  simp only []
  have A : AnswerFrame s (((s.mark e.source).bePresent e.source e.dom cls).capture (e.source / 32) (s.capOf e cls esc)) :=
    ((answer_mark s _).trans (answer_flt _ _)).trans (answer_capture _ _ _)
  exact .ite (A.trans (.trans (answer_ashFault _ _ _) (answer_ashDone _))) A

/-- An occurrence of class 1 or 2 is recorded, and no recovery begins (Table 13-3). -/
theorem raise_mild (s : State) (e : Ev) (h : evClass e.source ≤ 2) : AnswerFrame s (s.raise e) := by
  have hc : (if s.sys.mode = Mode.cold then evClass e.source else s.effClass e) = evClass e.source := by
    split
    · rfl
    · unfold State.effClass; simp only []; rw [if_pos (.inl h)]
  unfold State.raise
  split
  · exact .refl s
  · simp only [hc]
    have R := answer_record s e (evClass e.source) false
    simp only [ne_eq, not_true_eq_false, decide_false, Bool.false_eq_true, if_false, false_and, and_false]
    refine .ite R (R.trans ?_)
    unfold State.react
    simp only []
    rw [if_neg (by omega), if_neg (by omega), if_neg (by omega)]
    exact answer_flt _ _

theorem answer_tooLong (s : State) (p e : Nat) : AnswerFrame s (s.tooLong p e) := by
  unfold State.tooLong
  simp only []
  have M : ∀ d p, evClass ({ source := src 12 2, dom := d, init := blockInit (portSide p) 50, access := 7 } : Ev).source ≤ 2 :=
    fun _ _ => by show evClass (src 12 2) ≤ 2; decide
  have A := answer_inc s (0x6000 + p) 0x14
  refine .ite (.ite ((A.trans (answer_outp _ _)).trans (raise_mild _ _ (M _ _))) A) ?_
  have B := A.trans (answer_outp _ (State.updEnt (s.inc (0x6000 + p) 0x14) e (fun x => { x with tooLong := satAdd 16 x.tooLong 1 })).outp)
  exact .ite ((B.trans (answer_outp _ _)).trans (raise_mild _ _ (M _ _))) B

theorem answer_enqueue (s : State) (p : Nat) (q : QFrame) : AnswerFrame s (s.enqueue p q) := by
  unfold State.enqueue
  exact .ite (answer_inc _ _ _) (.ite (answer_tooLong _ _ _) rfl)

theorem answer_mgmtSend (s : State) (p mac ip udp : Nat) (b : List Byte) : AnswerFrame s (s.mgmtSend p mac ip udp b) :=
  answer_enqueue s p _

/-- An answer sent changes nothing but what an answer may change. -/
theorem sendAnswer_frame (s : State) (r : Req) (b : List Byte) : AnswerFrame s (s.sendAnswer r b) := by
  unfold State.sendAnswer
  simp only []
  refine .ite (answer_emit s _) ?_
  split
  · rfl
  · rfl
  · exact (answer_emit s _).trans (answer_mgmtSend _ _ _ _ _ _)
  · exact .ite ((answer_emit s _).trans (answer_flueOn _ _ _)) ((answer_emit s _).trans (answer_flueTo _ _))

theorem countAns_frame (s : State) (a : Ans) : AnswerFrame s (s.countAns a) := by
  unfold State.countAns
  split
  · rfl
  · exact .ite (.refl s) (answer_inc s _ _)

/-- The end of a request changes nothing but what an answer may change. -/
theorem conclude_frame (s : State) (op idx sub : Nat) (r : Req) (silent : Bool) (a : Ans) : AnswerFrame s (s.conclude op idx sub r silent a) := by
  unfold State.conclude
  simp only []
  have A : AnswerFrame s (if (a.kept && s.isUp) = true then
      s.updSess (whoOf r.path) (fun x => { x with lastReq := some (r.seq, r.crc), lastResp := s.ansBytes op idx sub r a }) else s) :=
    .ite (answer_sess s _ _) (.refl s)
  exact .ite A ((A.trans (countAns_frame _ _)).trans (sendAnswer_frame _ _ _))

/-- No transfer is overdue: none is discarded. -/
theorem expire_none {s : State} (h : s.gran.sessions.all (fun y => !s.overdue y) = true) : s.expire = s := by
  have h' : s.gran.sessions.filter s.overdue = [] := by
    rw [List.filter_eq_nil_iff]
    intro y hy hc
    have := List.all_eq_true.mp h y hy
    simp [hc] at this
  unfold State.expire
  rw [h']; rfl

/-- Whether a session is found or made, and what finding it changes. -/
theorem letIn_snd (s : State) (r : Req) : (s.letIn r).2 =
    ((s.findSess (whoOf r.path)).isSome ||
      decide ((s.gran.sessions.filter (fun x => x.who.like (whoOf r.path))).length < (if (whoOf r.path).isFlue then 64 else 16)) ||
      (longestIdle ((s.gran.sessions.filter (fun x => x.who.like (whoOf r.path))).filter
        (fun x => x.xfer.isNone && decide (x.seen + tuSec 1 ≤ s.now)))).isSome) := by
  unfold State.letIn
  simp only []
  by_cases h : (s.findSess (whoOf r.path)).isSome = true
  · rw [if_pos h, h]; rfl
  · rw [if_neg h, Bool.eq_false_iff.mpr h]
    by_cases k : (s.gran.sessions.filter (fun x => x.who.like (whoOf r.path))).length < (if (whoOf r.path).isFlue = true then 64 else 16)
    · rw [if_pos k, decide_eq_true k]; rfl
    · rw [if_neg k, decide_eq_false k]
      generalize longestIdle _ = o
      cases o <;> rfl

theorem letIn_gran (s : State) (r : Req) : (s.letIn r).1 = { s with gran := (s.letIn r).1.gran } := by
  unfold State.letIn
  simp only []
  by_cases h : (s.findSess (whoOf r.path)).isSome = true
  · rw [if_pos h]; rfl
  · rw [if_neg h]
    by_cases k : (s.gran.sessions.filter (fun x => x.who.like (whoOf r.path))).length < (if (whoOf r.path).isFlue = true then 64 else 16)
    · rw [if_pos k]; rfl
    · rw [if_neg k]
      generalize longestIdle _ = o
      cases o <;> rfl

/-! What a credit given back leaves alone. -/

/-- An object that neither the collector nor the injector keeps, and no CLASS_TX_BYTES. -/
def calm (k : Nat) : Prop := k < key 0x9000 0 ∧ k % 256 ≠ 0x11

theorem setN_calm (s : State) {i : Nat} (j v : Nat) (hi : 0x9000 ≤ i) {k : Nat} (hk : calm k) :
    objGet (s.setN i j v).live k = objGet s.live k := by
  rw [State.setN_live]
  refine objGet_objPut_other _ _ ?_
  have := hk.1
  simp only [key] at this ⊢
  omega

theorem mark_calm (s : State) (e : Nat) {k : Nat} (hk : calm k) : objGet (s.mark e).live k = objGet s.live k := by
  unfold State.mark State.askIbi
  simp only []
  split
  · rfl
  · split <;> exact setN_calm s _ _ (Nat.le_add_right _ _) hk

theorem note_calm (s : State) (e : Nat) {k : Nat} (hk : calm k) : objGet (s.note e).live k = objGet s.live k := by
  unfold State.note
  simp only []
  have C : ∀ (u : State) (c : Capture) (g : Nat), (u.capture g c).live = u.live := by intro u c g; unfold State.capture; split <;> rfl
  have F : ∀ (u : State) (c : Capture) (n : Nat), (u.ashFault c n).1.live = u.live := by intro u c n; unfold State.ashFault; split <;> rfl
  have M : objGet ((s.mark e).bePresent e domModule 0).live k = objGet s.live k := mark_calm s e hk
  split
  · split
    · show objGet (State.mark _ _).live k = _
      rw [mark_calm _ _ hk]
      refine (setN_calm _ _ _ (by decide) hk).trans ?_
      rw [F, C, M]
    · rw [F, C, M]
  · rw [C, M]

theorem showInj_calm (s : State) {k : Nat} (hk : calm k) : objGet s.showInj.live k = objGet s.live k := by
  unfold State.showInj
  simp only []
  generalize sumList _ = v
  have N := setN_calm s 2 v (show 0x9000 ≤ 0xF000 by decide) hk
  generalize s.setN 0xF000 2 v = u at N ⊢
  split
  · rw [note_calm _ _ hk, N]
  · split <;> exact N

theorem invertSent_calm (s : State) (n p : Nat) (u : Nat → Bool) {k : Nat} (hk : calm k) :
    objGet (s.invertSent n p u).live k = objGet s.live k := by
  unfold State.invertSent State.fireInj
  split
  · rename_i i _
    simp only []
    have I : 0x9000 ≤ 0xF010 + i := by omega
    have A : objGet (s.inc (0xF010 + i) 5).live k = objGet s.live k := setN_calm s _ _ I hk
    generalize s.inc (0xF010 + i) 5 = u at A ⊢
    rw [State.emit_live]
    split
    · rw [showInj_calm _ hk, setN_calm _ _ _ I hk, A]
    · exact A
  · rfl

theorem flueOut_calm (s : State) (p : Nat) (f : FlueFrame) {k : Nat} (hk : calm k) : objGet (s.flueOut p f).live k = objGet s.live k := by
  unfold State.flueOut
  simp only []
  refine (invertSent_calm _ _ _ _ hk).trans ((invertSent_calm _ _ _ _ hk).trans ?_)
  refine objGet_objPut_other _ _ ?_
  have := hk.2
  simp only [key]
  omega

/-- What giving a credit back leaves as it was, of what a request is judged by. -/
theorem giveCredit_keeps (s : State) (p : Nat) :
    FaultFrame s (s.giveCredit p) ∧ AnswerFrame s (s.giveCredit p) ∧ ∀ i j, calm (key i j) → (s.giveCredit p).lv i j = s.lv i j := by
  unfold State.giveCredit State.flueOn
  split
  · exact ⟨flueOut_frame _ _ _, answer_flueOut _ _ _, fun _ _ hk => congrArg Val.nat (flueOut_calm _ _ _ hk)⟩
  · exact ⟨.refl s, .refl s, fun _ _ _ => rfl⟩

theorem arrived_cases (s : State) (r : Req) :
    (r.path = .i3c ∧ s.arrived r = s.updGran (fun g => { g with hdr := false })) ∨ s.arrived r = s ∨
    (∃ p o q, r.path = .flue p o q ∧ s.arrived r = s.giveCredit p) := by
  unfold State.arrived
  split
  · rename_i hp; exact .inl ⟨hp, rfl⟩
  · rename_i p o q hp
    split
    · exact .inr (.inl rfl)
    · exact .inr (.inr ⟨p, o, q, hp, rfl⟩)
  · exact .inr (.inl rfl)

theorem arrived_frame (s : State) (r : Req) : AnswerFrame s (s.arrived r) := by
  rcases arrived_cases s r with ⟨_, h⟩ | h | ⟨p, _, _, _, h⟩ <;> rw [h]
  · exact answer_gran s _
  · exact .refl s
  · exact (giveCredit_keeps s p).2.1

/-- The state that a request finds differs from the one it came to only where an answer may. -/
theorem found_frame (s : State) (r : Req) : AnswerFrame s (s.found r) := by
  have h := arrived_frame s r
  have g : AnswerFrame (s.arrived r) ((s.arrived r).letIn r).1 := by rw [letIn_gran]; rfl
  exact h.trans g

/-- A frame that is heard and admitted, is no repeat and is for this module is executed in the state it finds, and its end answers it. -/
theorem request_heard {s e : State} {op idx sub : Nat} {r : Req} {x : Sess} (h : Heard s op idx sub r e x) :
    s.request op idx sub r = (e.run op idx sub r).1.conclude op idx sub r false (e.run op idx sub r).2 := by
  obtain ⟨_, _, ⟨hs, hp, hf, ha, hl⟩, he, hx, hfr, hform, had, hrep, _, hroute⟩ := h
  have hid : e.myId = s.myId := by
    rw [he]
    show ((s.arrived r).letIn r).1.myId = s.myId
    rw [letIn_gran]
    show (s.arrived r).myId = s.myId
    rcases arrived_cases s r with ⟨_, h⟩ | h | ⟨p, _, _, _, h⟩ <;> rw [h]
    · rfl
    · exact (giveCredit_keeps s p).2.2 _ _ ⟨by decide, by decide⟩
  have K : (s.arrived r).pathServes r.path = true ∧ (s.arrived r).foreign r = false ∧ (s.arrived r).allowed r.path = true ∧
      (s.arrived r).frameOk op idx sub r = true ∧ ((s.arrived r).letIn r).2 = true := by
    rcases arrived_cases s r with ⟨hi, h⟩ | h | ⟨p, o, q, hq, h⟩
    · rw [h]
      refine ⟨by rw [hi] at hp ⊢; exact hp, hf, by rw [hi]; rfl, hfr, ?_⟩
      rw [letIn_snd]; rw [letIn_snd] at had; exact had
    · rw [h]; exact ⟨hp, hf, ha, hfr, had⟩
    · obtain ⟨F, _, L⟩ := giveCredit_keeps s p
      have hm : (s.giveCredit p).myId = s.myId := L _ _ ⟨by decide, by decide⟩
      have hg : (s.giveCredit p).gran = s.gran := by rw [F]
      have hn : (s.giveCredit p).now = s.now := by rw [F]
      rw [h]
      refine ⟨?_, ?_, by rw [hq]; rfl, ?_, ?_⟩
      · rw [hq] at hp ⊢
        simp only [State.pathServes, Bool.and_eq_true, decide_eq_true_eq] at hp ⊢
        obtain ⟨⟨h1, h2⟩, h3⟩ := hp
        have hl2 : (s.giveCredit p).linkState p = s.linkState p :=
          L _ _ ⟨by simp only [key]; omega, by simp only [key]; omega⟩
        have hs2 : (s.giveCredit p).sys = s.sys := by rw [(giveCredit_keeps s p).2.1]
        exact ⟨⟨by rw [hs2]; exact h1, h2⟩, by unfold State.linkUp at h3 ⊢; rw [hl2]; exact h3⟩
      · unfold State.foreign at hf ⊢; rw [hm]; exact hf
      · unfold State.frameOk at hfr ⊢
        have hne : decide (r.path ≠ .i3c) = true := by rw [hq]; rfl
        rw [hne, Bool.true_or] at hfr ⊢
        exact hfr
      · rw [letIn_snd] at had ⊢
        unfold State.findSess at had ⊢
        rw [hg, hn]; exact had
  obtain ⟨hp', hf', ha', hfr', had'⟩ := K
  have hreq : s.request op idx sub r = e.handle op idx sub r := by
    unfold State.request
    simp only [hs, hp', hf', ha', hl, hfr', had', Bool.not_true, Bool.false_eq_true, if_false, Bool.or_self, if_true]
    rw [he]
    rfl
  rw [hreq]
  unfold State.handle
  simp only []
  rw [← hx, if_neg hrep, hform, if_neg (by simp)]
  split
  · rfl
  · rename_i q hq
    obtain ⟨h1, h2⟩ := hroute q hq
    rw [if_neg h1, if_pos (by rw [hid]; exact h2)]

end Sys2Proof.Machine
end

