-- ==== Sys2Proof/Laws/PerInstr.lean ====
section
/-!
SUPPORT. Facts about the syntax of each command, one lemma per constructor.
-/
namespace Sys2Proof.Laws.CarriesRequest

open Sys2Proof Sys2Proof.Machine

/-- What a command asks for is the request it carries, at its instant. -/
def Statement (i : Instr) : Prop :=
  ∀ (t op idx sub : Nat) (r : Req), Asks i t op idx sub r ↔ instantOf i = t ∧ requestOf i = some (op, idx, sub, r)

/-- A command that carries no request. -/
theorem none_of {i : Instr} (h : requestOf i = none) (ha : ∀ t op idx sub r, ¬ Asks i t op idx sub r) : Statement i :=
  fun t op idx sub r => ⟨fun a => absurd a (ha t op idx sub r), fun a => by rw [h] at a; cases a.2⟩

/-- A command that carries one. -/
theorem some_of {i : Instr} {t op idx sub : Nat} {r : Req} (ht : instantOf i = t) (h : requestOf i = some (op, idx, sub, r))
    (ha : Asks i t op idx sub r) (hu : ∀ t' op' idx' sub' r', Asks i t' op' idx' sub' r' → t' = t ∧ op' = op ∧ idx' = idx ∧ sub' = sub ∧ r' = r) :
    Statement i := by
  intro t' op' idx' sub' r'
  constructor
  · intro a
    obtain ⟨rfl, rfl, rfl, rfl, rfl⟩ := hu _ _ _ _ _ a
    exact ⟨ht, h⟩
  · rintro ⟨rfl, a⟩
    rw [h] at a
    cases a
    exact ht ▸ ha

theorem powerStageStart (t vin : Nat) : Statement (.powerStageStart t vin) := none_of rfl (fun _ _ _ _ _ h => nomatch h)
theorem pgAsserted (t : Nat) : Statement (.pgAsserted t) := none_of rfl (fun _ _ _ _ _ h => nomatch h)
theorem rootPllLock (t : Nat) : Statement (.rootPllLock t) := none_of rfl (fun _ _ _ _ _ h => nomatch h)
theorem kindlingEntered (t : Nat) (test : SramTest) : Statement (.kindlingEntered t test) := none_of rfl (fun _ _ _ _ _ h => nomatch h)
theorem dramTrainingDone (t usable spare : Nat) : Statement (.dramTrainingDone t usable spare) := none_of rfl (fun _ _ _ _ _ h => nomatch h)
theorem inputOvervoltage (t vin : Nat) : Statement (.inputOvervoltage t vin) := none_of rfl (fun _ _ _ _ _ h => nomatch h)
theorem powerStageFault (t : Nat) : Statement (.powerStageFault t) := none_of rfl (fun _ _ _ _ _ h => nomatch h)
theorem overvoltageLatchRelease (t vin : Nat) : Statement (.overvoltageLatchRelease t vin) := none_of rfl (fun _ _ _ _ _ h => nomatch h)
theorem railOutOfRegulation (t : Nat) (stove : Fin 2) (outside : Bool) : Statement (.railOutOfRegulation t stove outside) := none_of rfl (fun _ _ _ _ _ h => nomatch h)
theorem vaux33CurrentLimit (t : Nat) (limiting : Bool) : Statement (.vaux33CurrentLimit t limiting) := none_of rfl (fun _ _ _ _ _ h => nomatch h)
theorem railSample (t : Nat) (smp : RailSmp) : Statement (.railSample t smp) := none_of rfl (fun _ _ _ _ _ h => nomatch h)
theorem sagLevelEnter (t vin : Nat) : Statement (.sagLevelEnter t vin) := none_of rfl (fun _ _ _ _ _ h => nomatch h)
theorem sagLevelLeave (t vin : Nat) : Statement (.sagLevelLeave t vin) := none_of rfl (fun _ _ _ _ _ h => nomatch h)
theorem powerLoopTick (t : Nat) : Statement (.powerLoopTick t) := none_of rfl (fun _ _ _ _ _ h => nomatch h)
theorem thermalModelTick (t : Nat) (readings : List Int) : Statement (.thermalModelTick t readings) := none_of rfl (fun _ _ _ _ _ h => nomatch h)
theorem spareDiodeTakeover (t : Nat) (stove : Fin 2) (diode : Fin 6) : Statement (.spareDiodeTakeover t stove diode) := none_of rfl (fun _ _ _ _ _ h => nomatch h)
theorem throttleStep (t : Nat) (stove : Fin 2) : Statement (.throttleStep t stove) := none_of rfl (fun _ _ _ _ _ h => nomatch h)
theorem throttleRecoveryStep (t : Nat) (stove : Fin 2) : Statement (.throttleRecoveryStep t stove) := none_of rfl (fun _ _ _ _ _ h => nomatch h)
theorem retentionBandCheck (t : Nat) (temps : List Int) : Statement (.retentionBandCheck t temps) := none_of rfl (fun _ _ _ _ _ h => nomatch h)
theorem wearMeasurement (t : Nat) (part : WearPart) (measure : Int) : Statement (.wearMeasurement t part measure) := none_of rfl (fun _ _ _ _ _ h => nomatch h)
theorem wearRecordWrite (t : Nat) (r : Req) : Statement (.wearRecordWrite t r) :=
  some_of rfl rfl (Asks.wearRecordWrite t r) (fun _ _ _ _ _ h => by cases h; exact ⟨rfl, rfl, rfl, rfl, rfl⟩)
theorem commitReq (t : Nat) (r : Req) : Statement (.commitReq t r) :=
  some_of rfl rfl (Asks.commitReq t r) (fun _ _ _ _ _ h => by cases h; exact ⟨rfl, rfl, rfl, rfl, rfl⟩)
theorem commitValidationDone (t : Nat) (dev : Option TouchDev) : Statement (.commitValidationDone t dev) := none_of rfl (fun _ _ _ _ _ h => nomatch h)
theorem start (t : Nat) (r : Req) : Statement (.start t r) :=
  some_of rfl rfl (Asks.start t r) (fun _ _ _ _ _ h => by cases h; exact ⟨rfl, rfl, rfl, rfl, rfl⟩)
theorem stop (t : Nat) (r : Req) : Statement (.stop t r) :=
  some_of rfl rfl (Asks.stop t r) (fun _ _ _ _ _ h => by cases h; exact ⟨rfl, rfl, rfl, rfl, rfl⟩)
theorem bank (t : Nat) (r : Req) : Statement (.bank t r) :=
  some_of rfl rfl (Asks.bank t r) (fun _ _ _ _ _ h => by cases h; exact ⟨rfl, rfl, rfl, rfl, rfl⟩)
theorem bankedEntry (t : Nat) : Statement (.bankedEntry t) := none_of rfl (fun _ _ _ _ _ h => nomatch h)
theorem wakeSource (t : Nat) (bit : Fin 13) : Statement (.wakeSource t bit) := none_of rfl (fun _ _ _ _ _ h => nomatch h)
theorem wakeComplete (t : Nat) (dev : Option TouchDev) : Statement (.wakeComplete t dev) := none_of rfl (fun _ _ _ _ _ h => nomatch h)
theorem reset (t : Nat) (r : Req) : Statement (.reset t r) :=
  some_of rfl rfl (Asks.reset t r) (fun _ _ _ _ _ h => by cases h; exact ⟨rfl, rfl, rfl, rfl, rfl⟩)
theorem rstNLow (t : Nat) : Statement (.rstNLow t) := none_of rfl (fun _ _ _ _ _ h => nomatch h)
theorem rstNRelease (t : Nat) : Statement (.rstNRelease t) := none_of rfl (fun _ _ _ _ _ h => nomatch h)
theorem holdNAsserted (t : Nat) : Statement (.holdNAsserted t) := none_of rfl (fun _ _ _ _ _ h => nomatch h)
theorem holdNReleased (t : Nat) : Statement (.holdNReleased t) := none_of rfl (fun _ _ _ _ _ h => nomatch h)
theorem frameStart (t : Nat) (c : Fin 16) : Statement (.frameStart t c) := none_of rfl (fun _ _ _ _ _ h => nomatch h)
theorem stripeStart (t : Nat) (c : Fin 16) : Statement (.stripeStart t c) := none_of rfl (fun _ _ _ _ _ h => nomatch h)
theorem compositionComplete (t : Nat) (c : Fin 16) (f k : Nat) (late : List (Fin 8)) : Statement (.compositionComplete t c f k late) := none_of rfl (fun _ _ _ _ _ h => nomatch h)
theorem signatureActionTrigger (t : Nat) (c : Fin 16) (region : Fin 64) : Statement (.signatureActionTrigger t c region) := none_of rfl (fun _ _ _ _ _ h => nomatch h)
theorem stripeReady (t : Nat) (h : Fin 8) (c : Fin 16) (f k : Nat) : Statement (.stripeReady t h c f k) := none_of rfl (fun _ _ _ _ _ h => nomatch h)
theorem councilDependenceTf (t : Nat) (c : Fin 16) (f k : Nat) : Statement (.councilDependenceTf t c f k) := none_of rfl (fun _ _ _ _ _ h => nomatch h)
theorem jobComplete (t : Nat) (wid : Fin 288) : Statement (.jobComplete t wid) := none_of rfl (fun _ _ _ _ _ h => nomatch h)
theorem sliceInOutputBuffer (t : Nat) (h : Fin 8) (flow : Fin 4096) (f j seg : Nat) : Statement (.sliceInOutputBuffer t h flow f j seg) := none_of rfl (fun _ _ _ _ _ h => nomatch h)
theorem seamFilterDone (t : Nat) (h : Fin 8) (flow : Fin 4096) (f j : Nat) : Statement (.seamFilterDone t h flow f j) := none_of rfl (fun _ _ _ _ _ h => nomatch h)
theorem grateCreditTick (t : Nat) (h : Fin 8) : Statement (.grateCreditTick t h) := none_of rfl (fun _ _ _ _ _ h => nomatch h)
theorem readinessDeadline (t : Nat) (c : Fin 16) (f : Nat) (k : DueStripe) : Statement (.readinessDeadline t c f k) := none_of rfl (fun _ _ _ _ _ h => nomatch h)
theorem missingStripeCopyDone (t : Nat) (h : Fin 8) (c : Fin 16) (f k : Nat) : Statement (.missingStripeCopyDone t h c f k) := none_of rfl (fun _ _ _ _ _ h => nomatch h)
theorem sendWindowOpen (t : Nat) (c : Fin 16) (f k : Nat) : Statement (.sendWindowOpen t c f k) := none_of rfl (fun _ _ _ _ _ h => nomatch h)
theorem tailSlotOpen (t : Nat) (port : Fin 10) (c : Fin 16) (f k : Nat) : Statement (.tailSlotOpen t port c f k) := none_of rfl (fun _ _ _ _ _ h => nomatch h)
theorem channelStopComplete (t : Nat) (c : Fin 16) : Statement (.channelStopComplete t c) := none_of rfl (fun _ _ _ _ _ h => nomatch h)
theorem obsWindowEnd (t : Nat) : Statement (.obsWindowEnd t) := none_of rfl (fun _ _ _ _ _ h => nomatch h)
theorem withyCheckerFault (t : Nat) (wid : Fin 288) (addr : Option Nat) : Statement (.withyCheckerFault t wid addr) := none_of rfl (fun _ _ _ _ _ h => nomatch h)
theorem jobOverrun (t : Nat) (wid : Fin 288) : Statement (.jobOverrun t wid) := none_of rfl (fun _ _ _ _ _ h => nomatch h)
theorem spareSelfTestDone (t : Nat) (wid : Fin 288) (pass : Bool) : Statement (.spareSelfTestDone t wid pass) := none_of rfl (fun _ _ _ _ _ h => nomatch h)
theorem retireReq (t : Nat) (r : Req) : Statement (.retireReq t r) :=
  some_of rfl rfl (Asks.retireReq t r) (fun _ _ _ _ _ h => by cases h; exact ⟨rfl, rfl, rfl, rfl, rfl⟩)
theorem retirementDrainDone (t : Nat) (wid : Fin 288) : Statement (.retirementDrainDone t wid) := none_of rfl (fun _ _ _ _ _ h => nomatch h)
theorem councilSummarySend (t : Nat) (c : Fin 16) (f k : Nat) : Statement (.councilSummarySend t c f k) := none_of rfl (fun _ _ _ _ _ h => nomatch h)
theorem councilSummaryRx (t : Nat) (port : Fin 3) (frame : FlueFrame) : Statement (.councilSummaryRx t port frame) := none_of rfl (fun _ _ _ _ _ h => nomatch h)
theorem councilWaitLimit (t : Nat) (c : Fin 16) (f k : Nat) : Statement (.councilWaitLimit t c f k) := none_of rfl (fun _ _ _ _ _ h => nomatch h)
theorem councilBroadcastRx (t : Nat) (port : Fin 3) (frame : FlueFrame) : Statement (.councilBroadcastRx t port frame) := none_of rfl (fun _ _ _ _ _ h => nomatch h)
theorem councilChildAbsent (t : Nat) (c : Fin 16) (child : Nat) : Statement (.councilChildAbsent t c child) := none_of rfl (fun _ _ _ _ _ h => nomatch h)
theorem councilRootLost (t : Nat) (c : Fin 16) : Statement (.councilRootLost t c) := none_of rfl (fun _ _ _ _ _ h => nomatch h)
theorem layerNrAction (t : Nat) (c : Fin 16) (layer : Fin 16) : Statement (.layerNrAction t c layer) := none_of rfl (fun _ _ _ _ _ h => nomatch h)
theorem compRelease (t : Nat) (r : Req) (c : Fin 16) : Statement (.compRelease t r c) :=
  some_of rfl rfl (Asks.compRelease t r c) (fun _ _ _ _ _ h => by cases h; exact ⟨rfl, rfl, rfl, rfl, rfl⟩)
theorem pipeCheckerFault (t : Nat) (p : Fin 8) : Statement (.pipeCheckerFault t p) := none_of rfl (fun _ _ _ _ _ h => nomatch h)
theorem expectedWrite (t : Nat) (r : Req) (c : Fin 16) : Statement (.expectedWrite t r c) :=
  some_of rfl rfl (Asks.expectedWrite t r c) (fun _ _ _ _ _ h => by cases h; exact ⟨rfl, rfl, rfl, rfl, rfl⟩)
theorem ingestPacketRx (t : Nat) (i : Fin 16) (pkt : IngestPkt) : Statement (.ingestPacketRx t i pkt) := none_of rfl (fun _ _ _ _ _ h => nomatch h)
theorem ingestFormatError (t : Nat) (i : Fin 16) : Statement (.ingestFormatError t i) := none_of rfl (fun _ _ _ _ _ h => nomatch h)
theorem captureFrameComplete (t : Nat) (input : Fin 26) (key : Nat) (hdmi : Option HdmiFrame) : Statement (.captureFrameComplete t input key hdmi) := none_of rfl (fun _ _ _ _ _ h => nomatch h)
theorem frameIncompleteTimeout (t : Nat) (input : Fin 26) (key : Nat) : Statement (.frameIncompleteTimeout t input key) := none_of rfl (fun _ _ _ _ _ h => nomatch h)
theorem lockedFrameRelease (t : Nat) (input : Fin 26) (id : Nat) : Statement (.lockedFrameRelease t input id) := none_of rfl (fun _ _ _ _ _ h => nomatch h)
theorem ingestLegLost (t : Nat) (i : Fin 16) (leg : Fin 2) : Statement (.ingestLegLost t i leg) := none_of rfl (fun _ _ _ _ _ h => nomatch h)
theorem hdmi5vRise (t : Nat) (p : Fin 2) : Statement (.hdmi5vRise t p) := none_of rfl (fun _ _ _ _ _ h => nomatch h)
theorem hdmi5vDebounceEnd (t : Nat) (p : Fin 2) : Statement (.hdmi5vDebounceEnd t p) := none_of rfl (fun _ _ _ _ _ h => nomatch h)
theorem hdmi5vFall (t : Nat) (p : Fin 2) : Statement (.hdmi5vFall t p) := none_of rfl (fun _ _ _ _ _ h => nomatch h)
theorem hdmiHpdLowEnd (t : Nat) (p : Fin 2) : Statement (.hdmiHpdLowEnd t p) := none_of rfl (fun _ _ _ _ _ h => nomatch h)
theorem edidWrite (t : Nat) (r : Req) (p : Fin 2) : Statement (.edidWrite t r p) :=
  some_of rfl rfl (Asks.edidWrite t r p) (fun _ _ _ _ _ h => by cases h; exact ⟨rfl, rfl, rfl, rfl, rfl⟩)
theorem ddcAccess (t : Nat) (p : Fin 2) (a : Ddc) : Statement (.ddcAccess t p a) := none_of rfl (fun _ _ _ _ _ h => nomatch h)
theorem hdmiLock (t : Nat) (p : Fin 2) (timing : HdmiTiming) : Statement (.hdmiLock t p timing) := none_of rfl (fun _ _ _ _ _ h => nomatch h)
theorem hdmiLockLoss (t : Nat) (p : Fin 2) : Statement (.hdmiLockLoss t p) := none_of rfl (fun _ _ _ _ _ h => nomatch h)
theorem aviInfoframeRx (t : Nat) (p : Fin 2) (format colour : Nat) : Statement (.aviInfoframeRx t p format colour) := none_of rfl (fun _ _ _ _ _ h => nomatch h)
theorem itemAlloc (t : Nat) (r : Req) : Statement (.itemAlloc t r) :=
  some_of rfl rfl (Asks.itemAlloc t r) (fun _ _ _ _ _ h => by cases h; exact ⟨rfl, rfl, rfl, rfl, rfl⟩)
theorem itemData (t : Nat) (r : Req) : Statement (.itemData t r) :=
  some_of rfl rfl (Asks.itemData t r) (fun _ _ _ _ _ h => by cases h; exact ⟨rfl, rfl, rfl, rfl, rfl⟩)
theorem itemDone (t : Nat) (r : Req) : Statement (.itemDone t r) :=
  some_of rfl rfl (Asks.itemDone t r) (fun _ _ _ _ _ h => by cases h; exact ⟨rfl, rfl, rfl, rfl, rfl⟩)
theorem itemDelete (t : Nat) (r : Req) : Statement (.itemDelete t r) :=
  some_of rfl rfl (Asks.itemDelete t r) (fun _ _ _ _ _ h => by cases h; exact ⟨rfl, rfl, rfl, rfl, rfl⟩)
theorem relayLineRx (t : Nat) (port : Fin 3) (line : RelayLine) : Statement (.relayLineRx t port line) := none_of rfl (fun _ _ _ _ _ h => nomatch h)
theorem relayLineForward (t : Nat) (port : Fin 3) : Statement (.relayLineForward t port) := none_of rfl (fun _ _ _ _ _ h => nomatch h)
theorem refInEdge (t : Nat) (lineAt : Nat) : Statement (.refInEdge t lineAt) := none_of rfl (fun _ _ _ _ _ h => nomatch h)
theorem refPeriodMissing (t : Nat) : Statement (.refPeriodMissing t) := none_of rfl (fun _ _ _ _ _ h => nomatch h)
theorem refSettingWrite (t : Nat) (r : Req) (sub : Nat) : Statement (.refSettingWrite t r sub) :=
  some_of rfl rfl (Asks.refSettingWrite t r sub) (fun _ _ _ _ _ h => by cases h; exact ⟨rfl, rfl, rfl, rfl, rfl⟩)
theorem ppsInEdge (t : Nat) (lineAt : Nat) : Statement (.ppsInEdge t lineAt) := none_of rfl (fun _ _ _ _ _ h => nomatch h)
theorem ethFrameRx (t : Nat) (port : Fin 10) (frame : EthFrame) : Statement (.ethFrameRx t port frame) := none_of rfl (fun _ _ _ _ _ h => nomatch h)
theorem ethLinkUp (t : Nat) (port : Fin 10) : Statement (.ethLinkUp t port) := none_of rfl (fun _ _ _ _ _ h => nomatch h)
theorem ethLinkDown (t : Nat) (port : Fin 10) : Statement (.ethLinkDown t port) := none_of rfl (fun _ _ _ _ _ h => nomatch h)
theorem neighbourRefresh (t : Nat) (port : Fin 10) : Statement (.neighbourRefresh t port) := none_of rfl (fun _ _ _ _ _ h => nomatch h)
theorem packetEligible (t : Nat) (e : Fin 4128) : Statement (.packetEligible t e) := none_of rfl (fun _ _ _ _ _ h => nomatch h)
theorem portTxSelect (t : Nat) (port : Fin 10) : Statement (.portTxSelect t port) := none_of rfl (fun _ _ _ _ _ h => nomatch h)
theorem gateIntervalEnd (t : Nat) (port : Fin 10) : Statement (.gateIntervalEnd t port) := none_of rfl (fun _ _ _ _ _ h => nomatch h)
theorem configChange (t : Nat) (r : Req) (port : Fin 10) : Statement (.configChange t r port) :=
  some_of rfl rfl (Asks.configChange t r port) (fun _ _ _ _ _ h => by cases h; exact ⟨rfl, rfl, rfl, rfl, rfl⟩)
theorem gateChangeTime (t : Nat) (port : Fin 10) : Statement (.gateChangeTime t port) := none_of rfl (fun _ _ _ _ _ h => nomatch h)
theorem meterConfigWrite (t : Nat) (r : Req) (m : Fin 1024) (sub : Nat) : Statement (.meterConfigWrite t r m sub) :=
  some_of rfl rfl (Asks.meterConfigWrite t r m sub) (fun _ _ _ _ _ h => by cases h; exact ⟨rfl, rfl, rfl, rfl, rfl⟩)
theorem queueDepthSample (t : Nat) (port : Fin 10) : Statement (.queueDepthSample t port) := none_of rfl (fun _ _ _ _ _ h => nomatch h)
theorem histWindowEnd (t : Nat) (port : Fin 10) : Statement (.histWindowEnd t port) := none_of rfl (fun _ _ _ _ _ h => nomatch h)
theorem timeSet (t : Nat) (r : Req) : Statement (.timeSet t r) :=
  some_of rfl rfl (Asks.timeSet t r) (fun _ _ _ _ _ h => by cases h; exact ⟨rfl, rfl, rfl, rfl, rfl⟩)
theorem timeAdjust (t : Nat) (r : Req) : Statement (.timeAdjust t r) :=
  some_of rfl rfl (Asks.timeAdjust t r) (fun _ _ _ _ _ h => by cases h; exact ⟨rfl, rfl, rfl, rfl, rfl⟩)
theorem ptpEventRx (t : Nat) (inst : Fin 4) (msg : PtpMsg) : Statement (.ptpEventRx t inst msg) := none_of rfl (fun _ _ _ _ _ h => nomatch h)
theorem ptpAnnounceTimeout (t : Nat) (inst : Fin 4) : Statement (.ptpAnnounceTimeout t inst) := none_of rfl (fun _ _ _ _ _ h => nomatch h)
theorem ptpSyncTimeout (t : Nat) (inst : Fin 4) : Statement (.ptpSyncTimeout t inst) := none_of rfl (fun _ _ _ _ _ h => nomatch h)
theorem ptpDelayReqSend (t : Nat) (inst : Fin 4) : Statement (.ptpDelayReqSend t inst) := none_of rfl (fun _ _ _ _ _ h => nomatch h)
theorem ptpTx (t : Nat) (r : Req) (q : Fin 2) : Statement (.ptpTx t r q) :=
  some_of rfl rfl (Asks.ptpTx t r q) (fun _ _ _ _ _ h => by cases h; exact ⟨rfl, rfl, rfl, rfl, rfl⟩)
theorem ptpRxRead (t : Nat) (r : Req) (q : Fin 2) : Statement (.ptpRxRead t r q) :=
  some_of rfl rfl (Asks.ptpRxRead t r q) (fun _ _ _ _ _ h => by cases h; exact ⟨rfl, rfl, rfl, rfl, rfl⟩)
theorem tsRead (t : Nat) (r : Req) (q : Fin 5) : Statement (.tsRead t r q) :=
  some_of rfl rfl (Asks.tsRead t r q) (fun _ _ _ _ _ h => by cases h; exact ⟨rfl, rfl, rfl, rfl, rfl⟩)
theorem tsEntryStale (t : Nat) (q : Fin 5) : Statement (.tsEntryStale t q) := none_of rfl (fun _ _ _ _ _ h => nomatch h)
theorem hostSample (t : Nat) (r : Req) : Statement (.hostSample t r) :=
  some_of rfl rfl (Asks.hostSample t r) (fun _ _ _ _ _ h => by cases h; exact ⟨rfl, rfl, rfl, rfl, rfl⟩)
theorem hostSampleExpire (t : Nat) : Statement (.hostSampleExpire t) := none_of rfl (fun _ _ _ _ _ h => nomatch h)
theorem sourcePreferenceTimer (t : Nat) : Statement (.sourcePreferenceTimer t) := none_of rfl (fun _ _ _ _ _ h => nomatch h)
theorem holdoverMaxPassed (t : Nat) : Statement (.holdoverMaxPassed t) := none_of rfl (fun _ _ _ _ _ h => nomatch h)
theorem stoveCounterCompare (t : Nat) (diff : Int) : Statement (.stoveCounterCompare t diff) := none_of rfl (fun _ _ _ _ _ h => nomatch h)
theorem ppsOutPulse (t : Nat) : Statement (.ppsOutPulse t) := none_of rfl (fun _ _ _ _ _ h => nomatch h)
theorem flueTimeExchange (t : Nat) (port : Fin 3) : Statement (.flueTimeExchange t port) := none_of rfl (fun _ _ _ _ _ h => nomatch h)
theorem flueTimeFrameRx (t : Nat) (port : Fin 3) (frame : FlueFrame) (lineAt : Nat) : Statement (.flueTimeFrameRx t port frame lineAt) := none_of rfl (fun _ _ _ _ _ h => nomatch h)
theorem i2sFrameRx (t : Nat) (p : Fin 8) (lineAt : Nat) (left right : List Bool) : Statement (.i2sFrameRx t p lineAt left right) := none_of rfl (fun _ _ _ _ _ h => nomatch h)
theorem hdmiAudioPacketRx (t : Nat) (p : Fin 2) (packet : HdmiAudio) : Statement (.hdmiAudioPacketRx t p packet) := none_of rfl (fun _ _ _ _ _ h => nomatch h)
theorem asrcLocked (t : Nat) (p : Fin 16) : Statement (.asrcLocked t p) := none_of rfl (fun _ _ _ _ _ h => nomatch h)
theorem audioUnderrun (t : Nat) (p : Fin 16) : Statement (.audioUnderrun t p) := none_of rfl (fun _ _ _ _ _ h => nomatch h)
theorem audioOverrun (t : Nat) (p : Fin 16) : Statement (.audioOverrun t p) := none_of rfl (fun _ _ _ _ _ h => nomatch h)
theorem underrunHoldEnd (t : Nat) (p : Fin 16) : Statement (.underrunHoldEnd t p) := none_of rfl (fun _ _ _ _ _ h => nomatch h)
theorem audioResume (t : Nat) (p : Fin 16) : Statement (.audioResume t p) := none_of rfl (fun _ _ _ _ _ h => nomatch h)
theorem audioPacketRelease (t : Nat) (a : Fin 32) : Statement (.audioPacketRelease t a) := none_of rfl (fun _ _ _ _ _ h => nomatch h)
theorem flueTrainingDone (t : Nat) (port : Fin 3) (lanes : Nat) (peer : LinkPeer) (delayPs : Nat) : Statement (.flueTrainingDone t port lanes peer delayPs) := none_of rfl (fun _ _ _ _ _ h => nomatch h)
theorem flueTrainingRetry (t : Nat) (port : Fin 3) : Statement (.flueTrainingRetry t port) := none_of rfl (fun _ _ _ _ _ h => nomatch h)
theorem flueLinkAdmit (t : Nat) (port : Fin 3) : Statement (.flueLinkAdmit t port) := none_of rfl (fun _ _ _ _ _ h => nomatch h)
theorem flueLinkDown (t : Nat) (port : Fin 3) : Statement (.flueLinkDown t port) := none_of rfl (fun _ _ _ _ _ h => nomatch h)
theorem laneSerExceeded (t : Nat) (port : Fin 3) (lane : Fin 3) (ser : Nat) : Statement (.laneSerExceeded t port lane ser) := none_of rfl (fun _ _ _ _ _ h => nomatch h)
theorem laneRetire (t : Nat) (r : Req) (port : Fin 3) : Statement (.laneRetire t r port) :=
  some_of rfl rfl (Asks.laneRetire t r port) (fun _ _ _ _ _ h => by cases h; exact ⟨rfl, rfl, rfl, rfl, rfl⟩)
theorem laneLost (t : Nat) (port : Fin 3) (lane : Fin 3) : Statement (.laneLost t port lane) := none_of rfl (fun _ _ _ _ _ h => nomatch h)
theorem flueFrameRx (t : Nat) (port : Fin 3) (frame : FlueFrame) (crcOk : Bool) : Statement (.flueFrameRx t port frame crcOk) := none_of rfl (fun _ _ _ _ _ h => nomatch h)
theorem broadcastFrameRx (t : Nat) (port : Fin 3) (frame : FlueFrame) : Statement (.broadcastFrameRx t port frame) := none_of rfl (fun _ _ _ _ _ h => nomatch h)
theorem topologyAdvertTimer (t : Nat) : Statement (.topologyAdvertTimer t) := none_of rfl (fun _ _ _ _ _ h => nomatch h)
theorem topologyAdvertRx (t : Nat) (port : Fin 3) (frame : FlueFrame) : Statement (.topologyAdvertRx t port frame) := none_of rfl (fun _ _ _ _ _ h => nomatch h)
theorem enumStart (t : Nat) (r : Req) : Statement (.enumStart t r) :=
  some_of rfl rfl (Asks.enumStart t r) (fun _ _ _ _ _ h => by cases h; exact ⟨rfl, rfl, rfl, rfl, rfl⟩)
theorem enumerationFrameRx (t : Nat) (port : Fin 3) (frame : FlueFrame) : Statement (.enumerationFrameRx t port frame) := none_of rfl (fun _ _ _ _ _ h => nomatch h)
theorem switchReq (t : Nat) (r : Req) : Statement (.switchReq t r) :=
  some_of rfl rfl (Asks.switchReq t r) (fun _ _ _ _ _ h => by cases h; exact ⟨rfl, rfl, rfl, rfl, rfl⟩)
theorem twinSwitchReq (t : Nat) (r : Req) : Statement (.twinSwitchReq t r) :=
  some_of rfl rfl (Asks.twinSwitchReq t r) (fun _ _ _ _ _ h => by cases h; exact ⟨rfl, rfl, rfl, rfl, rfl⟩)
theorem hearthLevelFault (t : Nat) (h : Fin 8) (part : Fin 16) : Statement (.hearthLevelFault t h part) := none_of rfl (fun _ _ _ _ _ h => nomatch h)
theorem arbitrationResult (t : Nat) (which : Fin 5) (faulty : List (Fin 288)) (twinFaulty : Bool) : Statement (.arbitrationResult t which faulty twinFaulty) := none_of rfl (fun _ _ _ _ _ h => nomatch h)
theorem hearthSelfTestDone (t : Nat) (h : Fin 8) (pass : Bool) (failed : List (Fin 288)) : Statement (.hearthSelfTestDone t h pass failed) := none_of rfl (fun _ _ _ _ _ h => nomatch h)
theorem pairResyncDone (t : Nat) (pair : Fin 4) : Statement (.pairResyncDone t pair) := none_of rfl (fun _ _ _ _ _ h => nomatch h)
theorem bistPeriodTimer (t : Nat) (pair : Fin 4) (failed : List (Fin 288)) (memoryOk : Bool) : Statement (.bistPeriodTimer t pair failed memoryOk) := none_of rfl (fun _ _ _ _ _ h => nomatch h)
theorem twinHashRx (t : Nat) (port : Fin 3) (frame : FlueFrame) : Statement (.twinHashRx t port frame) := none_of rfl (fun _ _ _ _ _ h => nomatch h)
theorem sendTokenRx (t : Nat) (port : Fin 3) (frame : FlueFrame) : Statement (.sendTokenRx t port frame) := none_of rfl (fun _ _ _ _ _ h => nomatch h)
theorem sendTokenMissed (t : Nat) (c : Fin 16) (f k : Nat) : Statement (.sendTokenMissed t c f k) := none_of rfl (fun _ _ _ _ _ h => nomatch h)
theorem giveUpFrameRx (t : Nat) (port : Fin 3) (frame : FlueFrame) : Statement (.giveUpFrameRx t port frame) := none_of rfl (fun _ _ _ _ _ h => nomatch h)
theorem lastGaspRx (t : Nat) (port : Fin 3) (frame : FlueFrame) : Statement (.lastGaspRx t port frame) := none_of rfl (fun _ _ _ _ _ h => nomatch h)
theorem fenceFrameRx (t : Nat) (port : Fin 3) (frame : FlueFrame) : Statement (.fenceFrameRx t port frame) := none_of rfl (fun _ _ _ _ _ h => nomatch h)
theorem dramCorrectedError (t : Nat) (addr : Nat) (rank : Fin 2) (dev : Fin 3) (scrub : Bool) : Statement (.dramCorrectedError t addr rank dev scrub) := none_of rfl (fun _ _ _ _ _ h => nomatch h)
theorem dramUncorrectable (t : Nat) (addr : Nat) (access : Nat) : Statement (.dramUncorrectable t addr access) := none_of rfl (fun _ _ _ _ _ h => nomatch h)
theorem poisonedRead (t : Nat) (addr : Nat) (user : PoisonUser) : Statement (.poisonedRead t addr user) := none_of rfl (fun _ _ _ _ _ h => nomatch h)
theorem rankMigrationDone (t : Nat) (ch : Fin 8) : Statement (.rankMigrationDone t ch) := none_of rfl (fun _ _ _ _ _ h => nomatch h)
theorem rankRetire (t : Nat) (r : Req) : Statement (.rankRetire t r) :=
  some_of rfl rfl (Asks.rankRetire t r) (fun _ _ _ _ _ h => by cases h; exact ⟨rfl, rfl, rfl, rfl, rfl⟩)
theorem scrubPass (t : Nat) (ch : Fin 8) : Statement (.scrubPass t ch) := none_of rfl (fun _ _ _ _ _ h => nomatch h)
theorem caParityAlert (t : Nat) (ch : Fin 8) (sub : Fin 2) : Statement (.caParityAlert t ch sub) := none_of rfl (fun _ _ _ _ _ h => nomatch h)
theorem dramRetrainDone (t : Nat) (ch : Fin 8) (ok : Bool) : Statement (.dramRetrainDone t ch ok) := none_of rfl (fun _ _ _ _ _ h => nomatch h)
theorem dramTempPoll (t : Nat) (ch : Fin 8) (temps : List Int) : Statement (.dramTempPoll t ch temps) := none_of rfl (fun _ _ _ _ _ h => nomatch h)
theorem dramRefreshDue (t : Nat) (ch : Fin 8) (sub : Fin 2) : Statement (.dramRefreshDue t ch sub) := none_of rfl (fun _ _ _ _ _ h => nomatch h)
theorem rfmDue (t : Nat) (ch : Fin 8) (sub : Fin 2) (rank : Fin 2) (bank : Fin 16) : Statement (.rfmDue t ch sub rank bank) := none_of rfl (fun _ _ _ _ _ h => nomatch h)
theorem sramCorrected (t : Nat) (stove : Fin 2) (off : Nat) : Statement (.sramCorrected t stove off) := none_of rfl (fun _ _ _ _ _ h => nomatch h)
theorem sramUncorrectable (t : Nat) (stove : Fin 2) (off : Nat) (user : SramUser) : Statement (.sramUncorrectable t stove off user) := none_of rfl (fun _ _ _ _ _ h => nomatch h)
theorem presentPulseEnd (t : Nat) : Statement (.presentPulseEnd t) := none_of rfl (fun _ _ _ _ _ h => nomatch h)
theorem statusClear (t : Nat) (r : Req) (g : Fin 20) : Statement (.statusClear t r g) :=
  some_of rfl rfl (Asks.statusClear t r g) (fun _ _ _ _ _ h => by cases h; exact ⟨rfl, rfl, rfl, rfl, rfl⟩)
theorem ibiArbitration (t : Nat) (won : Bool) : Statement (.ibiArbitration t won) := none_of rfl (fun _ _ _ _ _ h => nomatch h)
theorem captureClear (t : Nat) (r : Req) (g : Fin 20) : Statement (.captureClear t r g) :=
  some_of rfl rfl (Asks.captureClear t r g) (fun _ _ _ _ _ h => by cases h; exact ⟨rfl, rfl, rfl, rfl, rfl⟩)
theorem quietPeriodEnd (t : Nat) (dom : Fin 65536) : Statement (.quietPeriodEnd t dom) := none_of rfl (fun _ _ _ _ _ h => nomatch h)
theorem release (t : Nat) (r : Req) (cls : Fin 2) : Statement (.release t r cls) :=
  some_of rfl rfl (Asks.release t r cls) (fun _ _ _ _ _ h => by cases h; exact ⟨rfl, rfl, rfl, rfl, rfl⟩)
theorem ashRead (t : Nat) (r : Req) : Statement (.ashRead t r) :=
  some_of rfl rfl (Asks.ashRead t r) (fun _ _ _ _ _ h => by cases h; exact ⟨rfl, rfl, rfl, rfl, rfl⟩)
theorem ashClear (t : Nat) (r : Req) : Statement (.ashClear t r) :=
  some_of rfl rfl (Asks.ashClear t r) (fun _ _ _ _ _ h => by cases h; exact ⟨rfl, rfl, rfl, rfl, rfl⟩)
theorem injArm (t : Nat) (r : Req) (i : Fin 4) : Statement (.injArm t r i) :=
  some_of rfl rfl (Asks.injArm t r i) (fun _ _ _ _ _ h => by cases h; exact ⟨rfl, rfl, rfl, rfl, rfl⟩)
theorem injStop (t : Nat) (r : Req) : Statement (.injStop t r) :=
  some_of rfl rfl (Asks.injStop t r) (fun _ _ _ _ _ h => by cases h; exact ⟨rfl, rfl, rfl, rfl, rfl⟩)
theorem standinsClear (t : Nat) (r : Req) : Statement (.standinsClear t r) :=
  some_of rfl rfl (Asks.standinsClear t r) (fun _ _ _ _ _ h => by cases h; exact ⟨rfl, rfl, rfl, rfl, rfl⟩)
theorem keyDebouncedChange (t : Nat) (k : Fin 8) (pressed : Bool) : Statement (.keyDebouncedChange t k pressed) := none_of rfl (fun _ _ _ _ _ h => nomatch h)
theorem keyLongPress (t : Nat) (k : Fin 8) : Statement (.keyLongPress t k) := none_of rfl (fun _ _ _ _ _ h => nomatch h)
theorem remoteAction (t : Nat) (r : Req) : Statement (.remoteAction t r) :=
  some_of rfl rfl (Asks.remoteAction t r) (fun _ _ _ _ _ h => by cases h; exact ⟨rfl, rfl, rfl, rfl, rfl⟩)
theorem touchInt (t : Nat) : Statement (.touchInt t) := none_of rfl (fun _ _ _ _ _ h => nomatch h)
theorem touchPoll (t : Nat) : Statement (.touchPoll t) := none_of rfl (fun _ _ _ _ _ h => nomatch h)
theorem touchReportRead (t : Nat) (res : TouchRead) : Statement (.touchReportRead t res) := none_of rfl (fun _ _ _ _ _ h => nomatch h)
theorem touchHold (t : Nat) (contact : Nat) : Statement (.touchHold t contact) := none_of rfl (fun _ _ _ _ _ h => nomatch h)
theorem touchRetry (t : Nat) (dev : Option TouchDev) : Statement (.touchRetry t dev) := none_of rfl (fun _ _ _ _ _ h => nomatch h)
theorem granilRead (t : Nat) (r : Req) (idx sub : Nat) : Statement (.granilRead t r idx sub) :=
  some_of rfl rfl (Asks.granilRead t r idx sub) (fun _ _ _ _ _ h => by cases h; exact ⟨rfl, rfl, rfl, rfl, rfl⟩)
theorem granilWrite (t : Nat) (r : Req) (op idx sub : Nat) : Statement (.granilWrite t r op idx sub) :=
  some_of rfl rfl (Asks.granilWrite t r op idx sub) (fun _ _ _ _ _ h => by cases h; exact ⟨rfl, rfl, rfl, rfl, rfl⟩)
theorem segInitWrite (t : Nat) (r : Req) (idx sub : Nat) : Statement (.segInitWrite t r idx sub) :=
  some_of rfl rfl (Asks.segInitWrite t r idx sub) (fun _ _ _ _ _ h => by cases h; exact ⟨rfl, rfl, rfl, rfl, rfl⟩)
theorem segInitRead (t : Nat) (r : Req) (idx sub : Nat) : Statement (.segInitRead t r idx sub) :=
  some_of rfl rfl (Asks.segInitRead t r idx sub) (fun _ _ _ _ _ h => by cases h; exact ⟨rfl, rfl, rfl, rfl, rfl⟩)
theorem segDataWrite (t : Nat) (r : Req) (idx sub : Nat) : Statement (.segDataWrite t r idx sub) :=
  some_of rfl rfl (Asks.segDataWrite t r idx sub) (fun _ _ _ _ _ h => by cases h; exact ⟨rfl, rfl, rfl, rfl, rfl⟩)
theorem segDataRead (t : Nat) (r : Req) (idx sub : Nat) : Statement (.segDataRead t r idx sub) :=
  some_of rfl rfl (Asks.segDataRead t r idx sub) (fun _ _ _ _ _ h => by cases h; exact ⟨rfl, rfl, rfl, rfl, rfl⟩)
theorem segEndWrite (t : Nat) (r : Req) (idx sub : Nat) : Statement (.segEndWrite t r idx sub) :=
  some_of rfl rfl (Asks.segEndWrite t r idx sub) (fun _ _ _ _ _ h => by cases h; exact ⟨rfl, rfl, rfl, rfl, rfl⟩)
theorem segEndRead (t : Nat) (r : Req) (idx sub : Nat) : Statement (.segEndRead t r idx sub) :=
  some_of rfl rfl (Asks.segEndRead t r idx sub) (fun _ _ _ _ _ h => by cases h; exact ⟨rfl, rfl, rfl, rfl, rfl⟩)
theorem granilAbort (t : Nat) (r : Req) (idx sub : Nat) : Statement (.granilAbort t r idx sub) :=
  some_of rfl rfl (Asks.granilAbort t r idx sub) (fun _ _ _ _ _ h => by cases h; exact ⟨rfl, rfl, rfl, rfl, rfl⟩)
theorem segTimeout (t : Nat) (who : Path) : Statement (.segTimeout t who) := none_of rfl (fun _ _ _ _ _ h => nomatch h)
theorem firmwareCheckDone (t : Nat) : Statement (.firmwareCheckDone t) := none_of rfl (fun _ _ _ _ _ h => nomatch h)
theorem forwardedResponseRx (t : Nat) (port : Fin 3) (frame : FlueFrame) : Statement (.forwardedResponseRx t port frame) := none_of rfl (fun _ _ _ _ _ h => nomatch h)
theorem fwdTimeout (t : Nat) : Statement (.fwdTimeout t) := none_of rfl (fun _ _ _ _ _ h => nomatch h)
theorem levelReq (t : Nat) (r : Req) : Statement (.levelReq t r) :=
  some_of rfl rfl (Asks.levelReq t r) (fun _ _ _ _ _ h => by cases h; exact ⟨rfl, rfl, rfl, rfl, rfl⟩)
theorem pinLockoutEnd (t : Nat) (who : Path) : Statement (.pinLockoutEnd t who) := none_of rfl (fun _ _ _ _ _ h => nomatch h)
theorem sessionIdleTimeout (t : Nat) (who : Path) : Statement (.sessionIdleTimeout t who) := none_of rfl (fun _ _ _ _ _ h => nomatch h)
theorem i3cPrivateRead (t : Nat) : Statement (.i3cPrivateRead t) := none_of rfl (fun _ _ _ _ _ h => nomatch h)
theorem hdrDdrRead (t : Nat) (lineErr : Bool) : Statement (.hdrDdrRead t lineErr) := none_of rfl (fun _ _ _ _ _ h => nomatch h)
theorem hotJoinRequest (t : Nat) : Statement (.hotJoinRequest t) := none_of rfl (fun _ _ _ _ _ h => nomatch h)
theorem entdaa (t : Nat) (addr : Fin 128) : Statement (.entdaa t addr) := none_of rfl (fun _ _ _ _ _ h => nomatch h)
theorem setnewda (t : Nat) (addr : Fin 128) : Statement (.setnewda t addr) := none_of rfl (fun _ _ _ _ _ h => nomatch h)
theorem rstdaa (t : Nat) : Statement (.rstdaa t) := none_of rfl (fun _ _ _ _ _ h => nomatch h)
theorem enec (t : Nat) (ints hj : Bool) : Statement (.enec t ints hj) := none_of rfl (fun _ _ _ _ _ h => nomatch h)
theorem disec (t : Nat) (ints hj : Bool) : Statement (.disec t ints hj) := none_of rfl (fun _ _ _ _ _ h => nomatch h)
theorem setmwl (t : Nat) (len : Nat) : Statement (.setmwl t len) := none_of rfl (fun _ _ _ _ _ h => nomatch h)
theorem getmwl (t : Nat) : Statement (.getmwl t) := none_of rfl (fun _ _ _ _ _ h => nomatch h)
theorem setmrl (t : Nat) (len payload : Nat) : Statement (.setmrl t len payload) := none_of rfl (fun _ _ _ _ _ h => nomatch h)
theorem getmrl (t : Nat) : Statement (.getmrl t) := none_of rfl (fun _ _ _ _ _ h => nomatch h)
theorem getpid (t : Nat) : Statement (.getpid t) := none_of rfl (fun _ _ _ _ _ h => nomatch h)
theorem getbcr (t : Nat) : Statement (.getbcr t) := none_of rfl (fun _ _ _ _ _ h => nomatch h)
theorem getdcr (t : Nat) : Statement (.getdcr t) := none_of rfl (fun _ _ _ _ _ h => nomatch h)
theorem getstatus (t : Nat) : Statement (.getstatus t) := none_of rfl (fun _ _ _ _ _ h => nomatch h)
theorem enthdr0 (t : Nat) : Statement (.enthdr0 t) := none_of rfl (fun _ _ _ _ _ h => nomatch h)
theorem unsupportedCcc (t : Nat) (direct : Bool) : Statement (.unsupportedCcc t direct) := none_of rfl (fun _ _ _ _ _ h => nomatch h)
theorem testRstNChange (t : Nat) (high : Bool) : Statement (.testRstNChange t high) := none_of rfl (fun _ _ _ _ _ h => nomatch h)
theorem tapIdcode (t : Nat) (stove : Fin 2) : Statement (.tapIdcode t stove) := none_of rfl (fun _ _ _ _ _ h => nomatch h)
theorem tapBypass (t : Nat) (stove : Fin 2) : Statement (.tapBypass t stove) := none_of rfl (fun _ _ _ _ _ h => nomatch h)
theorem tapBoundaryScan (t : Nat) (stove : Fin 2) : Statement (.tapBoundaryScan t stove) := none_of rfl (fun _ _ _ _ _ h => nomatch h)
theorem rootPllLockLost (t : Nat) (forwarded : Bool) : Statement (.rootPllLockLost t forwarded) := none_of rfl (fun _ _ _ _ _ h => nomatch h)
theorem crossingFifoError (t : Nat) (x : Crossing) : Statement (.crossingFifoError t x) := none_of rfl (fun _ _ _ _ _ h => nomatch h)
theorem blockCheckerEvent (t : Nat) (b : Block) : Statement (.blockCheckerEvent t b) := none_of rfl (fun _ _ _ _ _ h => nomatch h)
theorem uncorrectableFecCodeword (t : Nat) (port : FecPort) : Statement (.uncorrectableFecCodeword t port) := none_of rfl (fun _ _ _ _ _ h => nomatch h)
theorem timeOutputPulseEnd (t : Nat) (which : Fin 2) : Statement (.timeOutputPulseEnd t which) := none_of rfl (fun _ _ _ _ _ h => nomatch h)
theorem ledBlinkTimer (t : Nat) (n : Fin 4) : Statement (.ledBlinkTimer t n) := none_of rfl (fun _ _ _ _ _ h => nomatch h)
theorem wakeDeferralEnd (t vin : Nat) : Statement (.wakeDeferralEnd t vin) := none_of rfl (fun _ _ _ _ _ h => nomatch h)
theorem startNoChannelTimer (t : Nat) : Statement (.startNoChannelTimer t) := none_of rfl (fun _ _ _ _ _ h => nomatch h)
theorem dramCommandSlot (t : Nat) (ch : Fin 8) (sub : Fin 2) (arrivals : List DramReq) : Statement (.dramCommandSlot t ch sub arrivals) := none_of rfl (fun _ _ _ _ _ h => nomatch h)

end Sys2Proof.Laws.CarriesRequest
end

