-- ==== Sys2Proof/Tests/Slice0.lean ====
section
/-!
SUPPORT. Tests: ill-formed commands refused, figures that the spec works out, and for every statement with hypotheses a state
and operands that meet them, for each of its clauses at a boundary of its range where it has one.
-/
namespace Sys2Proof.Tests
open Sys2Proof Sys2Proof.Machine

-- One theorem at a time: evaluated at once they take more threads than the checked compile has room for.
set_option Elab.async false

/-- Objects of a state set to numbers: live ones, and committed ones. -/
def setL (l : List (Nat × Nat × Nat)) (s : State) : State :=
  { s with live := l.foldl (fun m e => m.put (.b []) (key e.1 e.2.1) (.n e.2.2)) s.live }
def setC (l : List (Nat × Nat × Nat)) (s : State) : State :=
  { s with comm := l.foldl (fun m e => m.put (.b []) (key e.1 e.2.1) (.n e.2.2)) s.comm }
/-- The module with its firmware in a state; a stage of power-up; a stage latched off. -/
def on (m : Mode) : State := { State.reset with sys := { boot := .up, mode := m, fwRuns := true }, clk := { run := true } }
def booted (b : Boot) : State := { State.reset with sys := { boot := b } }
def latchedOff : State := { booted .up with pwr := { latched := true } }
/-- 1 s of `Clock.mono`, an instant inside the frame below. -/
def sec : Nat := 10 ^ 9 * 2 ^ 40
def here : Nat := sec + 8 * 10 ^ 6 * 2 ^ 40
/-- Channel 0, tag 7, 256 × 256 at 60 Hz, with one cabinet group of 128 × 128 on hearth 0; running in its frame 5, of which the first
two stripes have started. -/
def cfg1 : State := setC [(0x4000, 1, 1), (0x4000, 2, 7), (0x4000, 3, 256), (0x4000, 4, 256), (0x5000, 1, 1), (0x5000, 7, 128),
  (0x5000, 8, 128)] (on .laid)
def stripe0 : Stripe := { c := 0, f := 5, k := 0, rtp := 0, at_ := sec, per := period40 9 }
def lit1 : State :=
  let s := setL [(0x4000, 0x15, 2), (0x4000, 0x16, 5)] cfg1
  { s with sys := { s.sys with mode := .lit }, clk := { run := true, mono := here },
           pipe := { placed := [(0, 0)], chans := [(0, { next := 2, frameAt := sec, period := period40 9, resumeAt := some (sec + period40 9), resumeLabel := 61 })],
                     stripes := [stripe0, { stripe0 with k := 1, at_ := sec + period40 9 / 4 }] } }
/-- The same with one field of its first stripe's record changed, or of its channel's. -/
def withStripe (f : Stripe → Stripe) (s : State) : State := s.updPipe (fun p => { p with stripes := p.stripes.map (fun x => if x.k = 0 then f x else x) })
def later (ms : Nat) (s : State) : State := { s with clk := { s.clk with mono := s.clk.mono + ms * 10 ^ 6 * 2 ^ 40 } }
def smp0 : RailSmp := ⟨48000, 3000, 3300, [750, 750, 750, 750]⟩
/-- A presence of a fault source at the module. -/
def present (g b dom : Nat) (s : State) : State := { s with flt := { s.flt with present := [⟨src g b, dom, 1, none⟩] } }
/-- A configuration without channels or flows, whose one time source is the host, and the module validating it. -/
def okStore : Tbl Val := [(key 0x6100 1, .b [0]), (key 0x7001 1, .b [5])]
def okFor (m : Mode) : State :=
  { on m with comm := okStore, sys := { boot := .up, mode := m, everAccepted := true, dramUsable := 255, validating := some (0, okStore) } }
theorem get_unlisted {α : Type} (d : α) (k : Nat) : ∀ m : Tbl α, m.all (fun e => decide (e.1 ≠ k)) = true → m.get d k = d
  | [], _ => rfl
  | e :: m, h => by
    rw [List.all_cons, Bool.and_eq_true, decide_eq_true_eq] at h
    rw [Tbl.get, if_neg (Ne.symm h.1)]
    exact get_unlisted d k m h.2
theorem ok_rc : checkFlowRc okStore = [] := if_pos (get_unlisted _ _ _ (by decide +kernel))
theorem ok_laid : ((okFor .laid).begin 0).commitErrors 0 okStore = [] := by
  unfold State.commitErrors State.inconsistent
  rw [ok_rc]
  decide +kernel
theorem ok_lit : ((okFor .lit).begin 0).commitErrors 0 okStore = [] := by
  unfold State.commitErrors State.inconsistent
  rw [ok_rc]
  decide +kernel
def pipeOf (p : Pipe → Pipe) (s : State) : State := { s with pipe := p s.pipe }
def chan0 (f : Chan → Chan) (s : State) : State := s.updChan 0 f
def job0 : Job := { h := 0, c := 0, flow := 0, f := 5, k := 0, j := 0, col := 0, seg := 0, samples := 4096, deadline := here, deps := [], at_ := .running 0 0 }
def doneJob (col : Nat) : Done := { h := 0, flow := 0, f := 5, j := 0, col := col, bits := 9, recon := { raw := 4 } }
def slice0 : Slice := { h := 0, c := 0, flow := 0, f := 5, k := 0, j := 0, seg := 0, bits := 18, hash := 3, doneAt := here }
/-- This module is identity 1 and the root of channel 0's council with module 2; and module 2 is the root. -/
def council1 : State :=
  let s := setL [(0x8100, 7, 1), (0x4100, 9, 1)] lit1
  { s with comm := s.comm.put (.n 0) (key 0x4100 2) (.b [1, 0, 2, 0]) }
def council2 : State := setL [(0x4100, 9, 2)] council1
/-- Twin of module 2 on channel 0; role and state of the link. -/
def twin (role state : Nat) : State := setL [(0x8100, 7, 1), (0x8210, 7, role), (0x8210, 8, state)] (setC [(0x8210, 1, 1), (0x8210, 2, 2), (0x8210, 4, 1)] lit1)
def fr (dest typ : Nat) (pay : List Nat) : FlueFrame := { dest := dest, src := 2, cls := 1, typ := typ, pay := pay }
/-- Flue port 1 is up and reaches modules 2 and 3. -/
def flued (s : State) : State :=
  let s := setL [(0x8100, 7, 1), (0x8111, 2, 3)] s
  { s with flue := { s.flue with paths := [(2, ⟨1, 1, false⟩), (3, ⟨2, 1, false⟩)] } }
def withy (w : Nat) (x : Withy) (s : State) : State := pipeOf (fun p => { p with withies := [(w, x)] }) s
/-- Twin frames arrive on port 1; input 0 runs, 1920 × 1080 4:2:2 10 bit. -/
def ingest1 : State := setC [(0x2100, 1, 1), (0x2100, 9, 96), (0x2100, 0xA, 1), (0x2100, 0xB, 10), (0x2100, 0xC, 1920), (0x2100, 0xD, 1080)] lit1
def input (i : Nat) (x : Input) (s : State) : State := { s with inp := { s.inp with ins := [(i, x)] } }
def hdmi (p : Nat) (x : Hdmi) (s : State) : State := { s with inp := { s.inp with hdmi := [(p, x)] } }
def pkt1 (w row : Nat) : IngestPkt :=
  { leg := 0, payloadType := 96, seq := 5, rtp := 0, marker := false, srds := [⟨5 * w / 2, row, 0, [List.replicate w 64, List.replicate (w / 2) 512, List.replicate (w / 2) 512]⟩] }
def cap1 : Capturing := { key := 9, tsrc := 0, w := 2, h := 1, samp := 2, depth := 8, lastAt := 0, samples := [(sampleKey 0 0, some 1), (sampleKey 0 1, some 2), (sampleKey 1 0, some 3), (sampleKey 1 1, some 4), (sampleKey 2 0, some 5), (sampleKey 2 1, some 6)].foldl (fun m e => m.put none e.1 e.2) [] }
/-- Ethernet port 0 is enabled with address 10.0.0.1 and its link is up; flow 0 has its one leg there. -/
def eth1 : State :=
  let s := setC [(0x6000, 1, 1), (0x6000, 3, 0x020000000001), (0x6000, 4, 0x0A000001), (0x7010, 1, 2)] lit1
  { s with comm := s.comm.insert (key 0x6100 1) (.b (List.replicate 14 0 ++ [0xFF] ++ List.replicate 17 0)),
           outp := { ports := [(0, { link := true })], ents := [(0, { armed := true, rate := 20000, burst := 4096, credit := 4096 * 65536, creditAt := here })] } }
def onPort (f : Port → Port) (s : State) : State := s.updPort 0 f
def pkt0 : Pkt := { entry := 0, seq := 1, ts := 0, marker := false, token := 3, off := 0, size := 1000, head := [], c := 0, f := 5, k := 0, tail := false, release := 0 }
def met1 : State := setL [(0x6400, 1, 1), (0x6400, 3, 1), (0x6400, 5, 32)] eth1
def udp1 : EthFrame := { dstMac := 0xFFFFFFFFFFFF, dstIp := 0x0A000001, dstUdp := 9 }
def ptpFrame : EthFrame := { dstMac := 0x011B19000000, ety := 0x88F7, payload := List.replicate 44 0 }
/-- The state after a command. -/
def after (c : Instr) (s : State) : State := match exec c s with | .next s' => s' | _ => s
theorem after_eq {c : Instr} {s : State} (h : (match exec c s with | .next _ => true | _ => false) = true) : exec c s = .next (after c s) := by
  unfold after
  split at h
  · next e => rw [e]
  · exact absurd h Bool.false_ne_true
def msg1 (k : PtpKind) (l : Int) : PtpMsg := { kind := k, port := 77, seq := 1, logInt := l, rank := [1], gm := 9 }
/-- PTP runs on port 0: the UDP instance, and the gPTP one; instance 0 follows master 77. -/
def ptp1 (x : Ptp) : State :=
  let s := setC [(0x7010, 1, 1), (0x7010, 2, 3)] eth1
  { s with servo := { ptp := [(0, x), (2, x)] } }
def audio1 (p : AudioPort) (st : Nat) : State :=
  let s := setL [(0x7100, 0xB, st)] (setC [(0x7100, 1, 1)] lit1)
  { s with audio := { ports := [(0, p)] } }
/-- Flue port 1 as a link record has it. -/
def linked (x : Link) (st : Nat) : State :=
  let s := setL [(0x8111, 2, st)] (flued lit1)
  { s with flue := { s.flue with links := [(1, x)] } }
/-- The DRAM trained; the first line's bank closed, or open at its row. -/
def dram1 : State := let s := setL [(0x8010, 7, 1)] lit1; { s with sys := { s.sys with dramUsable := 255, dramSpare := 0x11 } }
def sub0 (x : DramSub) (s : State) : State := { s with mem := { s.mem with subs := [(0, x)] } }
def open1 : State := sub0 { rows := [(0, some ⟨0, 0, 1, 0⟩)] } dram1
def wr1 : DramReq := ⟨0, 0, 0, some (List.replicate 64 7)⟩
def enum1 (base : Nat) : FlueFrame := fr 0xFFFF 0x41 [0, 55, 1, base, 1, 1, 0]
/-- The I3C target has taken an address; and a host session of it at level 3. -/
def bus (a : Nat) (m : Mode) : State := setL [(0x1110, 1, a)] (on m)
def talk (l : Nat) (s : State) : State := s.updGran (fun g => { g with sessions := [{ who := .i3c, level := l }] })
def panel (x : Oper) (st : Nat) : State := let s := setL [(0xB002, 9, st)] lit1; { s with oper := x }
def dev1 : TouchDev := ⟨true, 0x12345678, 64, 0, 4095, 0, 4095⟩
def zone1 : List Byte := List.replicate 11 0 ++ [0x81, 0, 0, 0, 0]
def port1 (s : State) : State := { s with sys := { s.sys with testRstHigh := true } }
def ansFrame : List Byte := granilFrame 0x90 1 0x1000 1 4 (some ⟨3, 0xFF, 9⟩) [7]
def fwd1 : Fwd := { path := .i3c, op := 0x10, idx := 0x1000, sub := 1, req := { seq := 4 }, dest := 3, via := 0xFF, session := 9, at_ := 0 }
/-- A request over the path, with its CRC. -/
def askOn (p : Path) (op idx sub flags : Nat) (data : List Byte) : Req :=
  { path := p, flags := flags, seq := 1, len := data.length, data := data, crc := crc16 (granilBody op flags idx sub data.length 1 none data) }
def ask (op idx sub flags : Nat) (data : List Byte) : Req := askOn .i3c op idx sub flags data
def hearsB (s : State) (r : Req) : Bool :=
  s.serving && s.pathServes r.path && !(s.foreign r) && s.allowed r.path && !r.lineErr
theorem hears_of {s : State} {r : Req} (h : hearsB s r = true) : Hears s r := by
  simp only [hearsB, Bool.and_eq_true, Bool.not_eq_true'] at h
  exact ⟨h.1.1.1.1, h.1.1.1.2, h.1.1.2, h.1.2, h.2⟩
theorem heard_of {s : State} {op idx sub : Nat} {r : Req} (h : hearsB s r = true)
    (h1 : idx < 65536 ∧ sub < 256 ∧ s.frameOk op idx sub r = true ∧ formOk op r = true ∧ (s.letIn r).2 = true ∧
      ((s.found r).sess (whoOf r.path)).lastReq ≠ some (r.seq, r.crc) ∧ (s.found r).gran.sessions.all (fun y => !(s.found r).overdue y) = true)
    (h2 : r.route = none) : Heard s op idx sub r (s.found r) ((s.found r).sess (whoOf r.path)) :=
  ⟨h1.1, h1.2.1, hears_of h, rfl, rfl, h1.2.2.1, h1.2.2.2.1, h1.2.2.2.2.1, h1.2.2.2.2.2.1, h1.2.2.2.2.2.2, fun q h => by rw [h2] at h; cases h⟩
theorem heard_ask {s : State} {p : Path} {op idx sub flags : Nat} {data : List Byte} (h : hearsB s (askOn p op idx sub flags data) = true)
    (h1 : idx < 65536 ∧ sub < 256 ∧ flags.testBit 0 = false ∧ (p ≠ .i3c ∨ 10 + data.length ≤ s.lv 0x1110 6) ∧
      formOk op (askOn p op idx sub flags data) = true ∧ (s.letIn (askOn p op idx sub flags data)).2 = true)
    (h3 : (s.found (askOn p op idx sub flags data)).gran.sessions.all
      (fun y => !(s.found (askOn p op idx sub flags data)).overdue y) = true)
    (h4 : ((s.found (askOn p op idx sub flags data)).sess (whoOf p)).lastReq = none) :
    Heard s op idx sub (askOn p op idx sub flags data) (s.found (askOn p op idx sub flags data))
      ((s.found (askOn p op idx sub flags data)).sess (whoOf p)) := by
  refine heard_of h ⟨h1.1, h1.2.1, ?_, h1.2.2.2.2.1, h1.2.2.2.2.2, ?_, ?_⟩ rfl
  · have h5 := h1.2.2.2.1
    by_cases hp : p = .i3c <;> simp [hp] at h5 <;> simp [State.frameOk, askOn, h1.2.2.1, hp, h5]
  · show ((s.found (askOn p op idx sub flags data)).sess (whoOf p)).lastReq ≠ _
    rw [h4]; exact nofun
  · exact h3
theorem writes_of {s : State} {idx sub : Nat} {r : Req} {v : Val} (h : Heard s 0x20 idx sub r (s.found r) ((s.found r).sess (whoOf r.path)))
    (h1 : nameCode idx sub = 0 ∧ mayWrite idx sub ((s.found r).sess (whoOf r.path)).level = true ∧ r.len ≤ 4096 ∧
      (objRow idx sub).sizeOk r.data.length = true ∧ v = (objRow idx sub).ty.read r.data ∧
      (s.found r).writeGate (objRow idx sub) idx sub = 0 ∧ (s.found r).rangeOk (objRow idx sub) idx sub v = true) :
    Writes s idx sub r (s.found r) ((s.found r).sess (whoOf r.path)) v :=
  ⟨h, h1.1, h1.2.1, h1.2.2.1, h1.2.2.2.1, h1.2.2.2.2.1, h1.2.2.2.2.2.1, h1.2.2.2.2.2.2⟩
theorem reads_of {s : State} {idx sub : Nat} {r : Req} (h : Heard s 0x10 idx sub r (s.found r) ((s.found r).sess (whoOf r.path)))
    (h1 : nameCode idx sub = 0 ∧ mayRead idx sub ((s.found r).sess (whoOf r.path)).level = true ∧ r.len ≤ 4096 ∧ r.data = [] ∧
      ((s.found r).readBytes ((s.found r).sess (whoOf r.path)) idx sub (r.flags.testBit 1)).length ≤ (s.found r).respLimit r.path ∧
      (s.found r).served idx sub false = true ∧ (s.found r).readStop ((s.found r).sess (whoOf r.path)) idx sub = 0) :
    Reads s idx sub r (s.found r) ((s.found r).sess (whoOf r.path)) :=
  ⟨h, h1.1, h1.2.1, h1.2.2.1, h1.2.2.2.1, h1.2.2.2.2.1, h1.2.2.2.2.2.1, h1.2.2.2.2.2.2⟩
/-- A module on the I3C bus, running channel 0, with an I3C session at a level. -/
def hosted (l : Nat) (s : State) : State := talk l (setL [(0x1110, 1, 9)] s)
def wearRec : List Byte := let p := leBytes 2 1 ++ List.replicate 26 0; p ++ leBytes 4 (crc32c (p ++ leBytes 4 0))
def web : Path := .mgmt 0 1 0x0A000005 6
def served1 : State := setL [(0x1002, 3, 77)] (setC [(0x1120, 1, 1), (0x1120, 3, 1)] eth1)
def rec1 (cls : Nat) (aw : Bool) : Recovery := { dom := 5, cls := cls, cap := {}, host := true, awaiting := aw }
def recovering (r : Recovery) : State := { lit1 with flt := { slots := [(0, some r)] } }
def ash1 : AshRec := { cap := {}, seq := 0, kind := 0, state := 0 }
def copy1 (l : Tbl (Option (List Nat))) : ItemCopy := { w := 2, h := 1, format := 1, colour := 1, frames := 1, rate := 9, space := 4096, stove := 0, ver := 1, lines := l }
def item0 (l : Tbl (Option (List Nat))) (s : State) : State := { s with inp := { s.inp with items := [(0, { cur := some (copy1 l) })] } }
def one : List Byte := [1]
def act1 (tag : Nat) : List Byte := List.replicate 10 0 ++ leBytes 2 tag ++ List.replicate 12 0

/-! An ill-formed command for each check of `Instr.wf`. -/

def rq : Req := {}
theorem test_wf_refuses_paths :
    (Instr.commitReq 0 { rq with path := .mgmt 10 0 0 0 }).wf = false ∧ (Instr.commitReq 0 { rq with path := .mgmt 0 (2 ^ 48) 0 0 }).wf = false ∧
    (Instr.commitReq 0 { rq with path := .mgmt 0 0 (2 ^ 32) 0 }).wf = false ∧ (Instr.commitReq 0 { rq with path := .mgmt 0 0 0 65536 }).wf = false ∧
    (Instr.commitReq 0 { rq with path := .flue 3 0 0 }).wf = false ∧ (Instr.commitReq 0 { rq with path := .flue 0 65536 0 }).wf = false ∧
    (Instr.commitReq 0 { rq with path := .flue 0 0 256 }).wf = false ∧ (Instr.segTimeout 0 (.mgmt 10 0 0 0)).wf = false ∧
    (Instr.commitReq 0 rq).wf = true := by decide

theorem test_wf_refuses_request_fields :
    (Instr.bank 0 { rq with flags := 256 }).wf = false ∧ (Instr.bank 0 { rq with seq := 256 }).wf = false ∧
    (Instr.bank 0 { rq with len := 65536 }).wf = false ∧ (Instr.bank 0 { rq with crc := 65536 }).wf = false ∧
    (Instr.bank 0 { rq with route := some ⟨65536, 0, 0⟩ }).wf = false ∧ (Instr.bank 0 { rq with route := some ⟨0, 256, 0⟩ }).wf = false ∧
    (Instr.bank 0 { rq with route := some ⟨0, 0, 256⟩ }).wf = false := by decide

theorem test_wf_refuses_object_names :
    (Instr.granilRead 0 rq 65536 0).wf = false ∧ (Instr.granilRead 0 rq 0 256).wf = false ∧ (Instr.granilWrite 0 rq 256 0 0).wf = false ∧
    (Instr.segInitWrite 0 { rq with flags := 8 } 0 0).wf = false ∧ (Instr.segInitRead 0 rq 0 0).wf = false ∧
    (Instr.segDataWrite 0 rq 65536 0).wf = false ∧ (Instr.segEndRead 0 rq 0 256).wf = false ∧ (Instr.refSettingWrite 0 rq 256).wf = false ∧
    (Instr.meterConfigWrite 0 rq 0 256).wf = false ∧ (Instr.granilRead 0 rq 0x1000 1).wf = true := by decide

theorem test_wf_refuses_numbers :
    (Instr.dramTrainingDone 0 256 0).wf = false ∧ (Instr.dramTrainingDone 0 0 256).wf = false ∧
    (Instr.railSample 0 ⟨48000, 0, 0, []⟩).wf = false ∧ (Instr.kindlingEntered 0 { repaired := [] }).wf = false ∧
    (Instr.thermalModelTick 0 []).wf = false ∧ (Instr.retentionBandCheck 0 [1]).wf = false ∧
    (Instr.stripeReady 0 0 0 0 1024).wf = false ∧ (Instr.sliceInOutputBuffer 0 0 0 0 128 0).wf = false ∧
    (Instr.sliceInOutputBuffer 0 0 0 0 0 32).wf = false ∧ (Instr.councilChildAbsent 0 0 1024).wf = false ∧
    (Instr.setmwl 0 65536).wf = false ∧ (Instr.setmrl 0 65536 0).wf = false ∧ (Instr.setmrl 0 0 256).wf = false ∧
    (Instr.flueTrainingDone 0 0 8 ⟨0, 0, 0, false⟩ 0).wf = false := by decide

theorem test_wf_refuses_parts_and_devices :
    (Instr.wearMeasurement 0 (.sramRow 0 (2 ^ 27)) 0).wf = false ∧ (Instr.wearMeasurement 0 (.withyRow 0 65536) 0).wf = false ∧
    (Instr.wakeComplete 0 (some ⟨true, 2 ^ 32, 0, 0, 1, 0, 1⟩)).wf = false ∧ (Instr.touchRetry 0 (some ⟨true, 0, 0, 1, 0, 0, 1⟩)).wf = false ∧
    (Instr.touchReportRead 0 (.report 65536 [])).wf = false ∧ (Instr.ddcAccess 0 0 (.read 128 0)).wf = false ∧
    (Instr.ddcAccess 0 0 (.write 128 [])).wf = false := by decide

theorem test_wf_refuses_frames :
    (Instr.flueFrameRx 0 0 { fr 65536 0 [] with hops := 0 } false).wf = false ∧ (Instr.broadcastFrameRx 0 0 { fr 0 256 [] with hops := 0 }).wf = false ∧
    (Instr.sendTokenRx 0 0 { fr 0 0 [] with cls := 8 }).wf = false ∧ (Instr.giveUpFrameRx 0 0 { fr 0 0 [] with tag := 2 ^ 32 }).wf = false ∧
    (Instr.fenceFrameRx 0 0 { fr 0 0 [] with len := 131073 }).wf = false ∧ (Instr.ethFrameRx 0 0 { vlan := 4096 }).wf = false ∧
    (Instr.ethFrameRx 0 0 { srcIp := 2 ^ 32 }).wf = false ∧ (Instr.ethFrameRx 0 0 { udpSum := 65536 }).wf = false ∧
    (Instr.ingestPacketRx 0 0 ⟨0, 128, 0, 0, false, []⟩).wf = false ∧ (Instr.ingestPacketRx 0 0 ⟨0, 0, 0, 0, false, [⟨0, 32768, 0, []⟩]⟩).wf = false ∧
    (Instr.hdmiLock 0 0 ⟨0, 1, 1, false, 0, 0, 0, false⟩).wf = false ∧ (Instr.hdmiAudioPacketRx 0 0 ⟨0, 0, true, []⟩).wf = false ∧
    (Instr.i2sFrameRx 0 0 0 [] (List.replicate 66 false)).wf = false ∧
    (Instr.ptpEventRx 0 0 { kind := .sync, port := 0, seq := 0, domain := 256 }).wf = false ∧
    (Instr.relayLineRx 0 0 ⟨[], 1024, 0, 0, 0, 0, 0, 0, 0, 0, []⟩).wf = false ∧
    (Instr.flueTrainingDone 0 0 0 ⟨2 ^ 64, 0, 0, false⟩ 0).wf = false ∧ (Instr.ptpEventRx 0 0 { kind := .sync, port := 2 ^ 80, seq := 0 }).wf = false ∧
    (Instr.dramCommandSlot 0 0 0 [⟨1, 0, 0, none⟩]).wf = false ∧ (Instr.dramCommandSlot 0 0 0 [⟨0, 0, 0, some []⟩]).wf = false := by decide

/-! Figures that the spec works out. -/

/-- R378: the check value over the ASCII string 123456789. -/
theorem test_crc16_check_value : crc16 (asciiBytes "123456789") = 0x29B1 := by decide +kernel

/-- Worked example of R293, R294: an XOR bank mapping (bank is 4 × bank group + bank). -/
theorem test_xor_bank_mapping :
    spotOf [] 0x000812345640 = ⟨5, 1, 0, 582, 25⟩ ∧ spotOf [] 0x400000 = ⟨0, 0, 2, 8, 0⟩ ∧ spotOf [] 0x500000 = ⟨0, 1, 10, 10, 0⟩ := by decide +kernel

/-- The 15,360 × 2,160 canvas of the worked example of R42 to R47, with a flow of row 1 and one of row 0. -/
def wall : Tbl Val :=
  [(0x4000, 1, 1), (0x4000, 3, 15360), (0x4000, 4, 2160), (0x4000, 5, 9), (0x4000, 8, 64), (0x4000, 9, 4), (0x5000, 1, 1), (0x5000, 4, 60000),
   (0x5000, 6, 540), (0x5000, 7, 480), (0x5000, 8, 540), (0x6000, 7, 100)].map (fun e => (key e.1 e.2.1, Val.n e.2.2)) ++
  [(key 0x6100 1, .b (List.replicate 13 0 ++ [5, 0xFF] ++ List.replicate 17 0))]

/-- Ts is 490.196 µs, CANVAS_DELAY 2,000.8 µs; Table 2-9, row 1; w = 8 and D_MIN = 4 at Lc = 1. -/
theorem test_canvas_of_two_modules :
    nStripes wall 0 = 34 ∧ stripePs wall 0 = 490196078 ∧ canvasDelayNs wall 0 = 2000784 ∧
    (List.range 9).map (belongs wall 0) = [9, 10, 11, 12, 13, 14, 15, 16, 16] ∧ segPath wall 0 8 = 15175680 ∧
    segWidth wall 0 4 1 = 8 := by decide +kernel

/-- Worked example of R187: 378,819 kbit/s and a burst of 6,168 bytes at F = 1.25 and a closed interval of 100 µs. -/
theorem test_automatic_rate :
    shaperOf (wall ++ [(key 0x4210 1, .b [80, 0, 0, 0])]) 0 100000 = (378819, 6168, 5) := by decide +kernel

/-- Worked example of R132 to R140: tap index and phase at the seam, the alpha blend and the post-blend LUT. -/
theorem test_composition_figures :
    scalePos 0 3840 7680 1 3840 0 = (1919, 48) ∧ scalePos 0 3840 7680 1 0 0 = (-1, 48) ∧ layerAlpha none 768 = 3072 ∧
    blend 40000 200000 3072 = 80000 ∧ postLut (fun i => i) 80000 = 3185 := by decide +kernel

/-! Every statement's hypotheses are met together: a state and operands for each of its clauses. -/

theorem test_meets_CommandsKeepQueueAndTime :
    ∃ (c : Instr) (s : State) (s' : State), exec c s = .next s' :=
  ⟨.pgAsserted 0, State.reset, State.reset.begin 0, rfl⟩

theorem test_meets_EveryCommandCompletes :
    ∃ (c : Instr), (∀ t ch sub rs, c = .dramCommandSlot t ch sub rs → ∀ r ∈ rs, r.addr < 2 ^ 36) :=
  ⟨.dramCommandSlot 0 0 0 [⟨0, 0, 0, none⟩], by rintro t ch sub rs h r hr; cases h; obtain rfl := List.mem_singleton.1 hr; decide⟩

theorem test_meets_UnpoweredHoldsNothing :
    ∃ (s : State) (s' : State), s.holdsNothing ∧ step s = .next s' :=
  ⟨State.reset, { State.reset with now := tuTick }, (fun _ => rfl), rfl⟩

theorem test_meets_PowerUpAndKindling :
    (∃ (vin : Nat) (s : State), s.sys.boot = .off ∧ s.pwr.latched = false ∧ 34000 ≤ vin ∧ s.sys.mode ≠ .cold) ∧
    (∃ (s : State), s.sys.boot = .converting ∧ s.sys.mode ≠ .cold) ∧
    (∃ (s : State), s.sys.boot = .pg ∧ s.sys.rstLow = false ∧ s.sys.mode ≠ .cold) ∧
    (∃ (s : State), s.sys.boot ≠ .off) ∧
    (∃ (s : State), s.sys.boot = .pll ∧ s.sys.rstLow = false ∧ s.sys.mode ≠ .cold) ∧
    (∃ (s : State), s.isUp = true ∧ s.sys.mode = .kindling ∧ s.sys.dramUsable = 0 ∧ s.wear.entries = []) :=
  ⟨⟨34000, State.reset, by decide +kernel⟩,
   ⟨booted .converting, by decide +kernel⟩,
   ⟨booted .pg, by decide +kernel⟩,
   ⟨booted .pg, by decide +kernel⟩,
   ⟨booted .pll, by decide +kernel⟩,
   ⟨on .kindling, by decide +kernel⟩⟩

theorem test_meets_StageClockAndRailFaults_1 :
    (∃ (vin : Nat) (s : State), s.sys.boot ≠ .off ∧ s.pwr.latched = false ∧ 80000 < vin) ∧
    (∃ (s : State), s.sys.boot ≠ .off ∧ s.pwr.latched = false) ∧
    (∃ (s : State), (s.sys.boot = .pll ∨ s.sys.boot = .up) ∧ s.sys.mode ≠ .cold ∧ s.sys.mode ≠ .banked) ∧
    (∃ (stove : Fin 2) (s : State), s.damperRuns = true ∧ presentIn s (src 1 (7 + stove)) domModule = false) ∧
    (∃ (stove : Fin 2) (s : State), s.damperRuns = true ∧ presentIn s (src 1 (7 + stove)) domModule = true) :=
  ⟨⟨80001, on .laid, by decide +kernel⟩,
   ⟨on .laid, by decide +kernel⟩,
   ⟨on .laid, by decide +kernel⟩,
   ⟨1, on .laid, by decide +kernel⟩,
   ⟨1, present 1 8 domModule (on .laid), by decide +kernel⟩⟩

theorem test_meets_StageClockAndRailFaults_2 :
    (∃ (s : State), s.damperRuns = true ∧ presentIn s (src 1 11) domModule = false) ∧
    (∃ (s : State), s.damperRuns = true ∧ presentIn s (src 1 11) domModule = true) ∧
    (∃ (s : State), s.damperRuns = true ∧ s.pwr.samples.length < 9) ∧
    (∃ (s : State), s.damperRuns = true ∧ s.pwr.samples.length = 9) :=
  ⟨⟨on .laid, by decide +kernel⟩,
   ⟨present 1 11 domModule (on .laid), by decide +kernel⟩,
   ⟨on .laid, by decide +kernel⟩,
   ⟨{ on .laid with pwr := { samples := List.replicate 9 smp0 } }, by decide +kernel⟩⟩

theorem test_meets_SagLevelsAndPowerLoss :
    (∃ (vin : Nat) (s : State), s.isUp = true ∧ s.pwr.latched = false ∧ 27000 ≤ vin ∧ s.pwr.sag < sagEntered vin) ∧
    (∃ (vin : Nat) (s : State), s.isUp = true ∧ s.pwr.latched = false ∧ sagHeld vin < s.pwr.sag) ∧
    (∃ (vin : Nat) (s : State), s.sys.boot ≠ .off ∧ s.pwr.latched = false ∧ vin < 27000) ∧
    (∃ (vin : Nat) (s : State), s.pwr.latched = true ∧ vin < 27000) :=
  ⟨⟨34999, on .lit, by decide +kernel⟩,
   ⟨36001, { on .lit with pwr := { sag := 1 } }, by decide +kernel⟩,
   ⟨26999, on .lit, by decide +kernel⟩,
   ⟨26999, latchedOff, by decide +kernel⟩⟩

theorem test_meets_StoveInWarnIsLentNothing :
    (∃ (s : State), s.running = true) ∧
    (∃ (s : State), s.running = true ∧ s.pwr.lend = 0) :=
  ⟨⟨lit1, by decide +kernel⟩,
   ⟨lit1, by decide +kernel⟩⟩

theorem test_meets_ThermalLoopAndDiodes :
    (∃ (s : State), s.damperRuns = true) ∧
    (∃ (t : Nat) (stove : Fin 2) (s : State) (m : State), m = s.begin t ∧ s.damperRuns = true ∧ (s.heat stove).throttle = true ∧
     s.throttleHot stove = true ∧ (s.heat stove).stepAt + tuMs 20 ≤ m.now) ∧
    (∃ (t : Nat) (stove : Fin 2) (s : State) (m : State), m = s.begin t ∧ s.damperRuns = true ∧ (s.heat stove).recovering = true ∧
     (s.heat stove).stepAt + tuMs 200 ≤ m.now) ∧
    (∃ (t : Nat) (stove : Fin 2) (d : Fin 6) (n : Nat) (s : State) (m : State), m = s.begin t ∧ s.damperRuns = true ∧ 4 ≤ d.val ∧
     (s.heat stove).diode.getD d 0 = 2 ∧ passed m ((s.heat stove).agreeFrom.getD (d - 4) none) (tuSec 10) = true ∧
     (s.heat stove).stands.getD (d - 4) none = some n) ∧
    (∃ (s : State), s.isUp = true ∧ s.sys.mode = .banked ∧ s.pwr.retention.length = 2) :=
  ⟨⟨on .lit, by decide +kernel⟩,
   ⟨0, 1, { on .lit with now := tuMs 20, pwr := { heatB := { throttle := true, model := List.replicate 24 (200 * 16) } } },
    ({ on .lit with now := tuMs 20, pwr := { heatB := { throttle := true, model := List.replicate 24 (200 * 16) } } }).begin 0,
    rfl, by decide +kernel⟩,
   ⟨0, 1, { on .lit with now := tuMs 200, pwr := { heatB := { recovering := true, demand := 2 } } },
    ({ on .lit with now := tuMs 200, pwr := { heatB := { recovering := true, demand := 2 } } }).begin 0, rfl, by decide +kernel⟩,
   ⟨0, 0, 4, 2,
    { on .lit with now := tuSec 10, pwr := { heatA := { diode := [1, 1, 3, 1, 2, 0], stands := [some 2, none], agreeFrom := [some 0, none] } } },
    ({ on .lit with now := tuSec 10, pwr := { heatA := { diode := [1, 1, 3, 1, 2, 0], stands := [some 2, none], agreeFrom := [some 0, none] } } }).begin 0,
    rfl, by decide +kernel⟩,
   ⟨on .banked, by decide +kernel⟩⟩

theorem test_meets_WearMeasured :
    (∃ (t : Nat) (part : WearPart) (s : State) (m : State), m = s.begin t ∧ s.isUp = true ∧
     (s.sys.mode = .laid ∨ s.sys.mode = .lit) ∧ s.pwr.sag = 0 ∧
     (∀ at_, s.wear.lastAt.get none (wearIndex part) = some at_ → at_ + wearInterval part ≤ m.now)) ∧
    (∃ (t : Nat) (w : Fin 288) (v : Int) (s : State) (m : State), m = s.begin t ∧ s.isUp = true ∧
     (s.sys.mode = .laid ∨ s.sys.mode = .lit) ∧ s.pwr.sag = 0 ∧
     (∀ at_, s.wear.lastAt.get none w = some at_ → at_ + tuSec 10 ≤ m.now) ∧ s.lv 0xA040 1 = 1 ∧ v < (s.lv 0xA040 2 * 256 : Nat) ∧
     s.wear.low.get 0 w = 2 ∧ s.wState w < 2) :=
  ⟨⟨0, .withy 5, on .lit, (on .lit).begin 0, rfl, by decide +kernel, by decide +kernel, by decide +kernel, (fun _ h => nomatch h)⟩,
   ⟨0, 5, 0, { setL [(0xA040, 1, 1), (0xA040, 2, 8)] (on .lit) with wear := { low := [(5, 2)] } },
    ({ setL [(0xA040, 1, 1), (0xA040, 2, 8)] (on .lit) with wear := { low := [(5, 2)] } }).begin 0, rfl, by decide +kernel,
    by decide +kernel, by decide +kernel, (fun _ h => nomatch h), by decide +kernel⟩⟩

theorem test_meets_RefusedCommitChangesNothing :
    ∃ (t : Nat) (v : Nat) (new : Tbl Val) (s : State) (m : State), m = s.begin t ∧ s.sys.boot ≠ .off ∧
     s.sys.validating = some (v, new) ∧ s.awaitsSpares = false ∧ m.commitErrors v new ≠ [] :=
  ⟨0, 1, [], { on .laid with sys := { boot := .up, mode := .laid, validating := some (1, []) } },
    ({ on .laid with sys := { boot := .up, mode := .laid, validating := some (1, []) } }).begin 0, rfl, by decide +kernel⟩

theorem test_meets_AcceptedCommitApplies :
    (∃ (t : Nat) (v : Nat) (new : Tbl Val) (s : State) (m : State), m = s.begin t ∧ s.sys.boot ≠ .off ∧
     s.sys.validating = some (v, new) ∧ s.awaitsSpares = false ∧ m.commitErrors v new = [] ∧ m.litNow = false) ∧
    (∃ (t : Nat) (v : Nat) (new : Tbl Val) (s : State) (m : State), m = s.begin t ∧ s.sys.boot ≠ .off ∧
     s.sys.validating = some (v, new) ∧ s.awaitsSpares = false ∧ m.commitErrors v new = [] ∧ m.litNow = true) ∧
    (∃ (s : State), s.sys.boot ≠ .off ∧ s.awaitsSpares = true) :=
  ⟨⟨0, 0, okStore, okFor .laid, (okFor .laid).begin 0, rfl, by decide +kernel, by decide +kernel, by decide +kernel, (ok_laid),
    by decide +kernel⟩,
   ⟨0, 0, okStore, okFor .lit, (okFor .lit).begin 0, rfl, by decide +kernel, by decide +kernel, by decide +kernel, (ok_lit),
    by decide +kernel⟩,
   ⟨withy 8 { st := 2, wearTest := true } (okFor .laid), by decide +kernel⟩⟩

theorem test_meets_BankedAndWake :
    (∃ (s : State), s.sys.boot ≠ .off ∧ s.sys.banking = true ∧ (s.sys.mode = .laid ∨ s.sys.mode = .lit) ∧ s.runningChans = []) ∧
    (∃ (bit : Fin 13) (s : State), s.isUp = true ∧ s.sys.mode = .banked ∧ s.sys.wakeFrom = none ∧
     (s.lv 0xA050 1).testBit bit = true) ∧
    (∃ (vin : Nat) (s : State), s.sys.boot ≠ .off ∧ s.sys.wakeHeld = true ∧ 34000 ≤ vin) ∧
    (∃ (from_ : Nat) (s : State), s.sys.boot ≠ .off ∧ s.sys.wakeFrom = some from_ ∧ s.sys.wakeHeld = false) :=
  ⟨⟨{ on .laid with sys := { boot := .up, mode := .laid, banking := true } }, by decide +kernel⟩,
   ⟨12, setL [(0xA050, 1, 0x1000)] (on .banked), by decide +kernel⟩,
   ⟨34000, { on .banked with sys := { boot := .up, mode := .banked, wakeHeld := true } }, by decide +kernel⟩,
   ⟨3, { on .banked with sys := { boot := .up, mode := .banked, wakeFrom := some 3 } }, by decide +kernel⟩⟩

theorem test_meets_ResetAndHoldContacts :
    (∃ (s : State), (s.sys.boot = .pll ∨ s.sys.boot = .up) ∧ s.sys.mode ≠ .cold) ∧
    (∃ (s : State), s.holdServed = true ∧ s.sys.holdN = false ∧ s.sys.mode ≠ .lit) ∧
    (∃ (s : State), s.sys.boot = .up ∧ s.sys.holdN = false ∧ s.sys.mode = .lit ∧ s.sys.stopping = false ∧ s.runningChans ≠ []) ∧
    (∃ (s : State), s.holdServed = true ∧ s.sys.holdN = true ∧ s.sys.startFrom ≠ some none) ∧
    (∃ (s : State), s.holdServed = true ∧ s.sys.holdN = true ∧ s.sys.startFrom = some none) ∧
    (∃ (t : Nat) (at_ : Nat) (s : State) (m : State), m = s.begin t ∧ s.sys.boot ≠ .off ∧ s.sys.mode = .laid ∧
     s.sys.holdN = false ∧ s.sys.startFrom = some (some at_) ∧ chanOn s.comm = [] ∧ at_ + tuMs 1 ≤ m.now) :=
  ⟨⟨lit1, by decide +kernel⟩,
   ⟨on .laid, by decide +kernel⟩,
   ⟨lit1, by decide +kernel⟩,
   ⟨{ on .laid with sys := { (on .laid).sys with holdN := true } }, by decide +kernel⟩,
   ⟨{ on .laid with sys := { (on .laid).sys with holdN := true, startFrom := some none } }, by decide +kernel⟩,
   ⟨0, 0, { on .laid with now := tuMs 1, sys := { (on .laid).sys with startFrom := some (some 0) } },
    ({ on .laid with now := tuMs 1, sys := { (on .laid).sys with startFrom := some (some 0) } }).begin 0, rfl, by decide +kernel⟩⟩

theorem test_meets_LowRstNHoldsPowerUp :
    (∃ (s : State), s.sys.boot ≠ .off ∧ (s.sys.boot = .converting ∨ s.sys.boot = .pg ∨ s.sys.mode = .cold)) ∧
    (∃ (s : State), s.sys.boot = .converting ∧ s.sys.rstLow = true ∧ s.sys.mode ≠ .cold) ∧
    (∃ (s : State), s.sys.boot ≠ .off ∧ s.sys.rstLow = true) ∧
    (∃ (s : State), s.sys.boot ≠ .off ∧ s.sys.rstLow = true) ∧
    (∃ (s : State), s.sys.boot = .pg ∧ s.sys.rstLow = true ∧ s.sys.mode ≠ .cold) :=
  ⟨⟨booted .converting, by decide +kernel⟩,
   ⟨{ booted .converting with sys := { boot := .converting, rstLow := true } }, by decide +kernel⟩,
   ⟨{ booted .pg with sys := { boot := .pg, rstLow := true } }, by decide +kernel⟩,
   ⟨{ booted .pll with sys := { boot := .pll, rstLow := true } }, by decide +kernel⟩,
   ⟨{ booted .pg with sys := { boot := .pg, rstLow := true } }, by decide +kernel⟩⟩

theorem test_meets_FramesOpenAndChannelsStop :
    (∃ (t : Nat) (c : Fin 16) (s : State) (m : State) (at_ : Nat) (label : Int) (err : Int) (first : Bool), m = s.begin t ∧
     s.running = true ∧ m.frameDue c = some (at_, label, err, first) ∧ s.sys.holdN = false) ∧
    (∃ (t : Nat) (c : Fin 16) (s : State) (m : State), m = s.begin t ∧ s.running = true ∧ s.chRunning c = true ∧
     0 < (s.chanOf c).next ∧ (s.chanOf c).next < nStripes s.comm c ∧ m.due (m.stripeAt c (m.chanOf c).next) = true) ∧
    (∃ (t : Nat) (c : Fin 16) (s : State) (m : State) (at_ : Nat) (label : Int) (err : Int), m = s.begin t ∧ s.running = true ∧
     s.sys.holdN = false ∧ m.frameDue c = some (at_, label, err, true)) ∧
    (∃ (t : Nat) (c : Fin 16) (s : State) (m : State) (y : Stripe), m = s.begin t ∧ s.sys.boot ≠ .off ∧ s.chRunning c = true ∧
     (s.chanOf c).stopping = true ∧ m.stripe c (m.frameNo c) (nStripes m.comm c - 1) = some y ∧ m.due (m.lastByteOf y) = true ∧
     (∃ d : Fin 16, d ≠ c ∧ s.chRunning d = true)) ∧
    (∃ (s : State), s.sys.boot ≠ .off ∧ s.pipe.obsChan.isSome = true ∧ s.pipe.obsChan = s.runningChans.head? ∧
     s.pipe.obsLen ≤ s.pipe.obsFrames ∧ s.pipe.obsFrames ≠ 0) :=
  ⟨⟨0, 0, later 9 lit1, (later 9 lit1).begin 0, sec + period40 9, 61, 0, false, rfl, by decide +kernel⟩,
   ⟨0, 0, later 5 lit1, (later 5 lit1).begin 0, rfl, by decide +kernel⟩,
   ⟨0, 0, { cfg1 with pipe := { chans := [(0, { startAt := some (60, 0) })] } },
    ({ cfg1 with pipe := { chans := [(0, { startAt := some (60, 0) })] } }).begin 0, 0, 60, 0, rfl, by decide +kernel⟩,
   ⟨0, 0,
    setL [(0x4001, 0x15, 2)] (pipeOf (fun p => { p with chans := [(0, { stopping := true })], stripes := [{ stripe0 with k := 3 }] }) (later 30 lit1)),
    (setL [(0x4001, 0x15, 2)] (pipeOf (fun p => { p with chans := [(0, { stopping := true })], stripes := [{ stripe0 with k := 3 }] }) (later 30 lit1))).begin 0,
    { stripe0 with k := 3 }, rfl, by decide +kernel⟩,
   ⟨pipeOf (fun p => { p with obsChan := some 0, obsFrames := 120 }) lit1, by decide +kernel⟩⟩

theorem test_meets_CompositionEvents :
    (∃ (c : Fin 16) (f : Nat) (k : Nat) (s : State) (x : Stripe), s.sys.boot ≠ .off ∧ s.stripe c f k = some x ∧
     x.composed = false ∧ x.abandoned = false ∧ x.inserted = false ∧ x.whole = none ∧ s.codes c = true) ∧
    (∃ (c : Fin 16) (r : Fin 64) (s : State), s.sys.boot ≠ .off ∧ s.chRunning c = true ∧ (regionDef s.comm c r).on = true ∧
     (regionDef s.comm c r).k ≤ ((s.compOf c).regions.get {} r).run ∧ 0 < ((s.compOf c).regions.get {} r).run ∧
     ((s.compOf c).regions.get {} r).fired = false) ∧
    (∃ (c : Fin 16) (l : Fin 16) (s : State), s.sys.boot ≠ .off ∧ s.chRunning c = true ∧ layerCfg s.comm c l 1 = 1 ∧
     s.lv (layerIdx c l) 0x13 < (s.layer c l).notReady ∧ (s.layer c l).raised = false) ∧
    (∃ (s : State), s.running = true) :=
  ⟨⟨0, 5, 0, lit1, stripe0, by decide +kernel⟩,
   ⟨0, 0,
    { lit1 with comm := objPut lit1.comm (key 0x3900 1) (.b (List.replicate 9 0 ++ [1, 1, 1, 0, 0, 0, 0])), comp := [(0, { regions := [(0, { run := 1 })] })] },
    by decide +kernel⟩,
   ⟨0, 2, { setC [(0x3102, 1, 1)] lit1 with comp := [(0, { layers := [(2, { notReady := 4 })] })] }, by decide +kernel⟩,
   ⟨lit1, by decide +kernel⟩⟩

theorem test_meets_JobsBuiltAndFinished :
    (∃ (h : Fin 8) (c : Fin 16) (f : Nat) (k : Nat) (s : State) (x : Stripe), s.sys.boot ≠ .off ∧ s.stripe c f k = some x ∧
     x.composed = true ∧ x.inserted = false ∧ x.whole = none ∧ x.ready.contains h.val = false ∧ x.dead = false ∧
     (s.hearthsOf c).contains h.val = true ∧ s.hearthRuns h = true) ∧
    (∃ (t : Nat) (w : Fin 288) (s : State) (m : State) (b : Job), m = s.begin t ∧ s.sys.boot ≠ .off ∧ s.current w = some b ∧
     b.ends ≤ m.now) :=
  ⟨⟨0, 0, 5, 0, withStripe (fun x => { x with composed := true }) lit1, { stripe0 with composed := true }, by decide +kernel⟩,
   ⟨0, 0, { pipeOf (fun p => { p with jobs := [job0] }) lit1 with now := tuMs 1 },
    ({ pipeOf (fun p => { p with jobs := [job0] }) lit1 with now := tuMs 1 }).begin 0, job0, rfl, by decide +kernel⟩⟩

theorem test_meets_LatchDeadlinesAndCredit :
    (∃ (t : Nat) (c : Fin 16) (f : Nat) (k : Nat) (s : State) (m : State) (x : Stripe), m = s.begin t ∧ s.sys.boot ≠ .off ∧
     s.sys.mode ≠ .damped ∧ s.stripe c f k = some x ∧ x.tf = false ∧ x.inserted = false ∧ m.due (m.tfOf x) = true) ∧
    (∃ (h : Fin 8) (n : Fin 4096) (f : Nat) (j : Nat) (s : State), s.sys.boot ≠ .off ∧
     (∀ col, col < gCw s.comm n → (s.doneOf h n f j col).isSome = true) ∧ s.refFinal h n f j = false) ∧
    (∃ (h : Fin 8) (c : Fin 16) (f : Nat) (k : Nat) (s : State) (x : Stripe), s.sys.boot ≠ .off ∧ s.stripe c f k = some x ∧
     x.dead = true ∧ x.ready.contains h.val = false ∧ x.whole = none ∧ x.inserted = false) ∧
    (∃ (h : Fin 8) (n : Fin 4096) (f : Nat) (j : Nat) (seg : Nat) (s : State), s.sys.boot ≠ .off ∧
     (∃ x ∈ s.pipe.slices, x.h = h ∧ x.flow = n ∧ x.f = f ∧ x.j = j ∧ x.seg = seg ∧ x.inBuf = none)) ∧
    (∃ (t : Nat) (c : Fin 16) (f : Nat) (k : DueStripe) (s : State) (m : State) (x : Stripe), m = s.begin t ∧ s.sys.boot ≠ .off ∧
     s.stripe c f k.stripe = some x ∧ x.dead = false ∧ m.due (m.deadlineOf x) = true) ∧
    (∃ (h : Fin 8) (s : State) (c : Nat), s.sys.boot ≠ .off ∧ s.hearthRuns h = true ∧ c ∈ s.canvasesOn h ∧
     sumList ((s.canvasesOn h).map (s.weight h)) ≠ 0 ∧ (∀ w ∈ hearthWithies h, s.takesJobs w = false)) :=
  ⟨⟨0, 0, 5, 0, lit1, (lit1).begin 0, stripe0, rfl, by decide +kernel⟩,
   ⟨0, 0, 5, 0, pipeOf (fun p => { p with done := [doneJob 0, doneJob 1] }) lit1, by decide +kernel⟩,
   ⟨0, 0, 5, 0, withStripe (fun x => { x with dead := true }) lit1, { stripe0 with dead := true }, by decide +kernel⟩,
   ⟨0, 0, 5, 0, 0, pipeOf (fun p => { p with slices := [slice0] }) lit1, by decide +kernel⟩,
   ⟨0, 0, 5, ⟨0, [], []⟩, later 1 lit1, (later 1 lit1).begin 0, stripe0, rfl, by decide +kernel⟩,
   ⟨0,
    pipeOf (fun p => { p with jobs := [{ job0 with at_ := .ready 0 }], withies := (List.range 36).map (fun w => (w, { st := 4 })) }) (setC [(0xC020, 1, 3)] lit1),
    0, by decide +kernel⟩⟩

theorem test_meets_WithiesFencedAndRetired :
    (∃ (w : Fin 288) (s : State), s.isUp = true ∧ s.wState w < 3) ∧
    (∃ (t : Nat) (w : Fin 288) (b : Job) (s : State) (m : State), m = s.begin t ∧ s.sys.boot ≠ .off ∧ s.wState w < 3 ∧
     s.current w = some b ∧ b.ends + tuUs 1 ≤ m.now) ∧
    (∃ (t : Nat) (at_ : Nat) (w : Fin 288) (s : State) (m : State), m = s.begin t ∧ s.sys.boot ≠ .off ∧ s.wState w = 2 ∧
     (s.withySt w).testEnd = some at_ ∧ at_ ≤ m.now ∧ s.hearthServes (withyHearth w) = true ∧ s.current w = none) ∧
    (∃ (t : Nat) (at_ : Nat) (w : Fin 288) (s : State) (m : State), m = s.begin t ∧ s.sys.boot ≠ .off ∧ s.wState w = 2 ∧
     (s.withySt w).testEnd = some at_ ∧ at_ ≤ m.now) ∧
    (∃ (w : Fin 288) (s : State), s.sys.boot ≠ .off ∧ (s.withySt w).marked = true ∧ s.wState w < 2 ∧ s.current w = none ∧
     s.prefetch w = none) :=
  ⟨⟨5, lit1, by decide +kernel⟩,
   ⟨0, 0, job0, { pipeOf (fun p => { p with jobs := [job0] }) lit1 with now := tuMs 1 },
    ({ pipeOf (fun p => { p with jobs := [job0] }) lit1 with now := tuMs 1 }).begin 0, rfl, by decide +kernel⟩,
   ⟨0, 0, 8, withy 8 { st := 2, testEnd := some 0 } lit1, (withy 8 { st := 2, testEnd := some 0 } lit1).begin 0, rfl,
    by decide +kernel⟩,
   ⟨0, 0, 8, withy 8 { st := 2, testEnd := some 0 } lit1, (withy 8 { st := 2, testEnd := some 0 } lit1).begin 0, rfl,
    by decide +kernel⟩,
   ⟨3, withy 3 { marked := true } lit1, by decide +kernel⟩⟩

theorem test_meets_CouncilRoundsAndBroadcasts :
    (∃ (t : Nat) (c : Fin 16) (f : Nat) (k : Nat) (s : State) (m : State) (x : Stripe), m = s.begin t ∧ s.sys.boot ≠ .off ∧
     s.stripe c f k = some x ∧ m.rounds c f k = true ∧ (x.composed = true ∨ x.abandoned = true) ∧
     m.due (m.stripeAfter x 1 + usCtr 2) = true ∧ (s.round c f k).own = false) ∧
    (∃ (t : Nat) (c : Fin 16) (f : Nat) (k : Nat) (s : State) (m : State) (x : Stripe), m = s.begin t ∧ s.sys.boot ≠ .off ∧
     s.stripe c f k = some x ∧ m.rounds c f k = true ∧ m.due (m.tfOf x - nsCtr (450 * x.treeH + 1000 + 600 * x.treeD)) = true ∧
     (s.round c f k).own = true) ∧
    (∃ (t : Nat) (c : Nat) (f : Nat) (fr : FlueFrame) (s : State) (m : State), m = s.begin t ∧ s.sys.boot ≠ .off ∧
     s.isMine fr = true ∧ s.chanOfTag (sumField fr 1 0) = some c ∧ fr.pay[33]? = none ∧ fr.pay.getD 32 0 = defHash s.comm c ∧
     (s.activeOf c).contains fr.src = true ∧ s.frameOfTag c (sumField fr 7 4) = some f ∧
     m.rounds c f (sumField fr 7 4 % 4096) = true ∧ (s.round c f (sumField fr 7 4 % 4096)).sent = false ∧
     (s.round c f (sumField fr 7 4 % 4096)).from_.contains fr.src = false) ∧
    (∃ (c : Nat) (f : Nat) (fr : FlueFrame) (x : Stripe) (s : State), s.sys.boot ≠ .off ∧ s.isMine fr = true ∧
     s.chanOfTag (fr.pay.getD 1 0 % 65536) = some c ∧ fr.pay.getD 6 0 = defHash s.comm c ∧
     (∀ d ∈ chanOn s.comm, d ≠ c → chan s.comm d 2 ≠ chan s.comm c 2) ∧ s.frameOfTag c (fr.pay.getD 0 0) = some f ∧
     s.stripe c f (fr.pay.getD 0 0 % 4096) = some x ∧ x.tf = false ∧ (s.chanOf c).held = false) ∧
    (∃ (c : Fin 16) (child : Nat) (s : State), s.sys.boot ≠ .off ∧ s.solo c = false ∧
     s.cm (0x4100 + c) 6 ≤ (s.councilSt c).missed.get 0 child ∧ (s.activeOf c).contains child = true) ∧
    (∃ (c : Fin 16) (s : State), s.sys.boot ≠ .off ∧ s.solo c = false ∧ s.isRoot c = false ∧ (s.chanOf c).held = false ∧
     s.cm (0x4100 + c) 6 ≤ (s.councilSt c).late) :=
  ⟨⟨0, 0, 5, 0, withStripe (fun x => { x with composed := true }) council1,
    (withStripe (fun x => { x with composed := true }) council1).begin 0, { stripe0 with composed := true }, rfl,
    by decide +kernel⟩,
   ⟨0, 0, 5, 0, { council1 with council := [(0, { rounds := [{ f := 5, k := 0, own := true }] })] },
    ({ council1 with council := [(0, { rounds := [{ f := 5, k := 0, own := true }] })] }).begin 0, stripe0, rfl, by decide +kernel⟩,
   ⟨0, 0, 5,
    fr 1 0x20 ((leBytes 2 7 ++ leBytes 2 0 ++ leBytes 4 (stripeTag 5 0) ++ leBytes 24 3).map BitVec.toNat ++ [defHash council1.comm 0]),
    { council1 with council := [(0, { active := some [1, 2] })] },
    ({ council1 with council := [(0, { active := some [1, 2] })] }).begin 0, rfl, by decide +kernel⟩,
   ⟨0, 5, fr 1 0x21 [stripeTag 5 0, 7, 0, 0, 2, 2, defHash council2.comm 0], stripe0, council2, by decide +kernel,
    by decide +kernel, by decide +kernel, by decide +kernel,
    by intro d hd hne; exact absurd (by simpa [show chanOn ((council2).begin 0).comm = [0] from by decide +kernel, show chanOn council2.comm = [0] from by decide +kernel] using hd) hne,
    by decide +kernel⟩,
   ⟨0, 2, { council1 with council := [(0, { active := some [1, 2], missed := [(2, 8)] })] }, by decide +kernel⟩,
   ⟨0, { council2 with council := [(0, { late := 8 })] }, by decide +kernel⟩⟩

theorem test_meets_FlueFramesForwardedOrNotTaken :
    (∃ (t : Nat) (port : Fin 3) (fr : FlueFrame) (s : State) (c : Instr), s.sys.boot ≠ .off ∧ fr.dest ≠ s.myId ∧ fr.hops < 1023 ∧
     s.flue.excess = false ∧ s.flue.dups.contains fr.dest = false ∧ (s.path fr.dest).hops ≠ 0 ∧ (s.path fr.dest).hops ≠ 0xFFFF ∧
     (s.path fr.dest).port < 3 ∧ (s.path fr.dest).dup = false ∧
     c ∈ [Instr.councilSummaryRx t port fr, .councilBroadcastRx t port fr, .twinHashRx t port fr, .sendTokenRx t port fr, .giveUpFrameRx t port fr, .fenceFrameRx t port fr]) ∧
    (∃ (p : Fin 3) (f : FlueFrame) (s : State), s.sys.boot ≠ .off ∧ s.linkUp p = true ∧ f.cls ≠ 4) ∧
    (∃ (p : Fin 3) (f : FlueFrame) (s : State), s.sys.boot ≠ .off ∧ s.linkUp p = true ∧ f.cls = 4) ∧
    (∃ (p : Fin 3) (f : FlueFrame) (s : State), s.sys.boot ≠ .off ∧ s.linkUp p = true ∧
     (f.dest = s.myId ∨ f.dest = 0xFFFF ∨ f.dest = 0xFFFE) ∧ f.typ ≠ 1) ∧
    (∃ (p : Fin 3) (f : FlueFrame) (s : State), s.sys.boot ≠ .off ∧ s.linkUp p = true ∧ f.dest = 0xFFFE ∧ f.typ = 1) ∧
    (∃ (p : Fin 3) (f : FlueFrame) (s : State), s.sys.boot ≠ .off ∧ s.linkUp p = true ∧ f.dest ≠ s.myId ∧ f.dest ≠ 0xFFFF ∧
     f.dest ≠ 0xFFFE ∧ f.typ ≠ 0x30 ∧ s.flue.dups.contains f.dest = false ∧ s.flue.excess = false ∧ f.hops < 1023 ∧
     (s.path f.dest).hops ≠ 0xFFFF ∧ (s.path f.dest).hops ≠ 0 ∧ (s.path f.dest).dup = false ∧ (s.path f.dest).port < 3) ∧
    (∃ (p : Fin 3) (f : FlueFrame) (s : State), s.sys.boot ≠ .off ∧ s.linkUp p = true ∧ f.dest = 0xFFFF ∧
     (s.path f.src).port = p ∧ s.flue.excess = false ∧ f.hops < 1023) :=
  ⟨⟨0, 0, fr 3 0x20 [], flued lit1, Instr.councilSummaryRx 0 0 (fr 3 0x20 []), by decide +kernel⟩,
   ⟨1, fr 3 0x20 [], flued lit1, by decide +kernel⟩,
   ⟨1, { fr 3 0x20 [] with cls := 4 }, flued lit1, by decide +kernel⟩,
   ⟨1, fr 1 0x20 [], flued lit1, by decide +kernel⟩,
   ⟨1, fr 0xFFFE 1 [1], flued lit1, by decide +kernel⟩,
   ⟨1, fr 3 0x20 [], flued lit1, by decide +kernel⟩,
   ⟨1, fr 0xFFFF 0x20 [], flued lit1, by decide +kernel⟩⟩

theorem test_meets_HearthPairsAndSelfTests :
    (∃ (s : State), s.isUp = true) ∧
    (∃ (p : Fin 4) (s : State), s.sys.boot ≠ .off ∧ s.pairState p = 4 ∧ (s.pairSt p).arbOutcome = none ∧
     s.hearthServes (s.activeOfPair p) = true) ∧
    (∃ (s : State), s.sys.boot ≠ .off ∧ s.lv 0x8210 8 = 4) ∧
    (∃ (p : Fin 4) (s : State), s.sys.boot ≠ .off ∧ s.pairState p = 2 ∧
     ((s.pairMode p ≠ 2 ∧ s.mirrorOk p = true) ∨ (s.pairMode p = 2 ∧ (s.pairSt p).resync = false ∧ ∀ n ∈ s.flowsOnPair p, (s.flowSt n).compareOff = false))) ∧
    (∃ (h : Fin 8) (s : State), s.sys.boot ≠ .off ∧ (s.hearthSt h).testing = true) ∧
    (∃ (h : Fin 8) (s : State), s.sys.boot ≠ .off ∧ (s.hearthSt h).testing = true ∧
     presentIn s (src 16 (12 + h % 4)) (domPair (h % 4)) = false) ∧
    (∃ (t : Nat) (p : Fin 4) (s : State) (m : State), m = s.begin t ∧ s.running = true ∧ s.cm 0x8200 1 = 1 ∧ s.pwr.sag = 0 ∧
     (s.pairState p = 1 ∨ s.pairState p = 2) ∧ (∀ at_, (s.pairSt p).bistAt = some at_ → at_ + tuSec (s.lv 0x8200 4) ≤ m.now)) ∧
    (∃ (t : Nat) (p : Fin 4) (s : State) (m : State), m = s.begin t ∧ s.running = true ∧ s.cm 0x8200 1 = 1 ∧ s.pwr.sag = 0 ∧
     (s.pairState p = 1 ∨ s.pairState p = 2) ∧ (∀ at_, (s.pairSt p).bistAt = some at_ → at_ + tuSec (s.lv 0x8200 4) ≤ m.now)) :=
  ⟨⟨lit1, by decide +kernel⟩,
   ⟨0, setL [(0x8201, 1, 4)] lit1, by decide +kernel⟩,
   ⟨setL [(0x8210, 8, 4)] lit1, by decide +kernel⟩,
   ⟨0, setL [(0x8201, 1, 2)] (setC [(0x8200, 1, 2)] lit1), by decide +kernel⟩,
   ⟨1, pipeOf (fun p => { p with hearths := [(1, { testing := true })] }) lit1, by decide +kernel⟩,
   ⟨1, pipeOf (fun p => { p with hearths := [(1, { testing := true })] }) lit1, by decide +kernel⟩,
   ⟨0, 0, setL [(0x8201, 1, 1)] (setC [(0x8200, 1, 1)] lit1), (setL [(0x8201, 1, 1)] (setC [(0x8200, 1, 1)] lit1)).begin 0, rfl,
    by decide +kernel⟩,
   ⟨0, 0, setL [(0x8201, 1, 2)] (setC [(0x8200, 1, 1)] lit1), (setL [(0x8201, 1, 2)] (setC [(0x8200, 1, 1)] lit1)).begin 0, rfl,
    by decide +kernel⟩⟩

theorem test_meets_TwinFrames :
    (∃ (fr : FlueFrame) (s : State), s.sys.boot ≠ .off ∧ s.isMine fr = true ∧ s.twinOn = true ∧ fr.src = s.cm 0x8210 2) ∧
    (∃ (fr : FlueFrame) (s : State) (c : Nat), s.sys.boot ≠ .off ∧ s.isMine fr = true ∧ s.twinOn = true ∧ fr.src = s.cm 0x8210 2 ∧
     s.lv 0x8210 7 = 1 ∧ s.lv 0x8210 8 ≠ 6 ∧
     (List.range 16).find? (fun c => s.twinned c && decide (chan s.comm c 2 = fr.pay.getD 2 0)) = some c) ∧
    (∃ (fr : FlueFrame) (s : State) (c : Fin 16), s.sys.boot ≠ .off ∧ s.isMine fr = true ∧ s.twinOn = true ∧
     fr.src = s.cm 0x8210 2 ∧ s.lv 0x8210 8 = 1 ∧ (fr.pay.getD 1 0).testBit c = true ∧ s.twinned c = true ∧
     (fr.pay.getD 0 0 = 1 ∨ fr.pay.getD 0 0 = 2) ∧ s.pair.hand.get none c = none) ∧
    (∃ (fr : FlueFrame) (s : State), s.sys.boot ≠ .off ∧ s.isMine fr = true ∧ s.twinOn = true ∧ fr.src = s.cm 0x8210 2 ∧
     s.lv 0x8210 7 = 0) ∧
    (∃ (port : Fin 3) (fr : FlueFrame) (s : State), s.sys.boot ≠ .off ∧ (s.path fr.src).port = port.val ∧ s.twinOn = true ∧
     fr.src = s.cm 0x8210 2 ∧ s.lv 0x8210 7 = 1 ∧ s.lv 0x8210 8 = 1 ∧ (∀ c : Fin 16, s.pair.hand.get none c = none)) ∧
    (∃ (t : Nat) (c : Fin 16) (f : Nat) (k : Nat) (x : Stripe) (s : State) (m : State), m = s.begin t ∧ s.sys.boot ≠ .off ∧
     s.stripe c f k = some x ∧ s.twinned c = true ∧ s.lv 0x8210 7 = 1 ∧ s.pair.muted.contains c.val = true ∧
     m.due (m.deadlineOf x + usCtr 14) = true ∧ (∀ r ∈ s.pair.tokens, r.stripe = stripeTag f k → flow s.comm r.flow 2 ≠ c) ∧
     s.pair.missed.get 0 c + 1 < s.lv 0x8210 6) :=
  ⟨⟨fr 1 0x22 [77], twin 0 1, by decide +kernel⟩,
   ⟨fr 1 0x23 [0, 5, 7], twin 1 1, 0, by decide +kernel⟩,
   ⟨fr 1 0x24 [1, 1, 0, 0], twin 1 1, 0, by decide +kernel⟩,
   ⟨fr 1 0x25 [0, 1], twin 0 1, by decide +kernel⟩,
   ⟨1, { fr 0xFFFF 0x30 [0] with src := 2 }, flued (twin 1 1), by decide +kernel⟩,
   ⟨0, 0, 5, 0, stripe0, (later 1 (twin 1 1)).updPairs (fun p => { p with muted := [0] }),
    ((later 1 (twin 1 1)).updPairs (fun p => { p with muted := [0] })).begin 0, rfl, by decide +kernel⟩⟩

theorem test_meets_IngestStreams :
    (∃ (t : Nat) (i : Fin 16) (pkt : IngestPkt) (s : State) (m : State), m = s.begin t ∧ s.running = true ∧ s.inputOn i = true ∧
     pkt.payloadType = s.cm (inObj i) 9 ∧ (pkt.leg = 1 → s.cm (inObj i) 3 ≠ 0xFF) ∧
     (∀ e ∈ (s.input i).seen, e.1 = pkt.seq → e.2.1 + max (m.skewMax i) 1 < m.mono) ∧ (s.input i).gaps = [] ∧
     (∀ h, (s.input i).high = some h → pkt.seq = (h + 1) % 2 ^ 32) ∧ (∀ c ∈ (s.input i).closed, c.1 ≠ pkt.rtp) ∧
     pkt.srds.all (srdOk (s.cm (inObj i) 0xC) (s.cm (inObj i) 0xD) (s.cm (inObj i) 0xA) (s.cm (inObj i) 0xB) (s.cm (inObj i) 0x10)) = true ∧
     pkt.srds.length ≤ 3) ∧
    (∃ (t : Nat) (i : Fin 16) (pkt : IngestPkt) (s : State) (m : State), m = s.begin t ∧ s.running = true ∧ s.inputOn i = true ∧
     pkt.payloadType = s.cm (inObj i) 9 ∧ (pkt.leg = 1 → s.cm (inObj i) 3 ≠ 0xFF) ∧
     (∀ e ∈ (s.input i).seen, e.1 = pkt.seq → e.2.1 + max (m.skewMax i) 1 < m.mono) ∧ (s.input i).gaps = [] ∧
     (∀ h, (s.input i).high = some h → pkt.seq = (h + 1) % 2 ^ 32) ∧ (∀ c ∈ (s.input i).closed, c.1 ≠ pkt.rtp) ∧
     (pkt.srds.all (srdOk (s.cm (inObj i) 0xC) (s.cm (inObj i) 0xD) (s.cm (inObj i) 0xA) (s.cm (inObj i) 0xB) (s.cm (inObj i) 0x10)) = false ∨ 3 < pkt.srds.length)) ∧
    (∃ (t : Nat) (i : Fin 16) (pkt : IngestPkt) (s : State) (m : State) (e : Nat × Nat × Nat), m = s.begin t ∧ s.running = true ∧
     s.inputOn i = true ∧ pkt.payloadType = s.cm (inObj i) 9 ∧ (pkt.leg = 1 → s.cm (inObj i) 3 ≠ 0xFF) ∧ s.cm (inObj i) 3 ≠ 0xFF ∧
     (s.input i).seen.find? (fun e => decide (e.1 = pkt.seq) && decide (m.mono ≤ e.2.1 + max (m.skewMax i) 1)) = some e) ∧
    (∃ (i : Fin 16) (s : State), s.running = true ∧ s.inputOn i = true ∧ 64 ≤ (s.input i).badRun ∧ (s.input i).formatErr = false) ∧
    (∃ (t : Nat) (i : Fin 16) (leg : Fin 2) (s : State) (m : State), m = s.begin t ∧ s.running = true ∧ s.inputOn i = true ∧
     (leg = 1 → s.cm (inObj i) 3 ≠ 0xFF) ∧ (s.input i).legLost.getD leg false = false ∧
     m.due (((s.input i).legAt.getD leg none).getD (s.input i).since + 10 * period40 (s.cm (inObj i) 0xE)) = true) :=
  ⟨⟨0, 0, pkt1 16 0, input 0 { high := some 4 } ingest1, (input 0 { high := some 4 } ingest1).begin 0, rfl, by decide +kernel,
    by decide +kernel, by decide +kernel, by decide +kernel, by decide +kernel, by decide +kernel,
    (fun h e => by injection e with e; subst e; rfl), by decide +kernel⟩,
   ⟨0, 0, pkt1 16 1080, input 0 { high := some 4 } ingest1, (input 0 { high := some 4 } ingest1).begin 0, rfl, by decide +kernel,
    by decide +kernel, by decide +kernel, by decide +kernel, by decide +kernel, by decide +kernel,
    (fun h e => by injection e with e; subst e; rfl), by decide +kernel⟩,
   ⟨0, 0, pkt1 16 0, input 0 { seen := [(5, here, 0)], legAt := [none, none] } (setC [(0x2100, 3, 1)] ingest1),
    (input 0 { seen := [(5, here, 0)], legAt := [none, none] } (setC [(0x2100, 3, 1)] ingest1)).begin 0, (5, here, 0), rfl,
    by decide +kernel⟩,
   ⟨0, input 0 { badRun := 64 } ingest1, by decide +kernel⟩,
   ⟨0, 0, 0, input 0 { legAt := [some 0, none], legLost := [false, false] } ingest1,
    (input 0 { legAt := [some 0, none], legLost := [false, false] } ingest1).begin 0, rfl, by decide +kernel⟩⟩

theorem test_meets_CaptureFrames :
    (∃ (k : Nat) (i : Fin 26) (b : Capturing) (ps : List (List Nat)) (s : State), s.running = true ∧ s.inputOn i = true ∧
     (i.val < 16 ∨ 18 ≤ i.val) ∧ (s.input i).busy.find? (fun b => decide (b.key = k) && !b.skipped) = some b ∧
     gatherPlanes b.samples b.w b.h b.samp = some ps) ∧
    (∃ (p : Fin 2) (f : HdmiFrame) (s : State), s.running = true ∧ s.inputOn (16 + p) = true ∧ (s.hdmi p).locked = true ∧
     (s.hdmi p).fmtBad = false ∧
     f.planes.map List.length = planeSizes (s.input (16 + p)).w (s.input (16 + p)).h (s.input (16 + p)).samp ∧
     (s.makeRoom (16 + p)).2 = true) ∧
    (∃ (t : Nat) (k : Nat) (i : Fin 26) (b : Capturing) (s : State) (m : State), m = s.begin t ∧ s.sys.boot ≠ .off ∧
     (s.input i).busy.find? (fun b => decide (b.key = k)) = some b ∧ b.lastAt + m.skewMax i ≤ m.mono + tickUnit) ∧
    (∃ (s : State), s.sys.boot ≠ .off) :=
  ⟨⟨9, 0, cap1, [[1, 2], [3, 4], [5, 6]], input 0 { busy := [cap1] } ingest1, by decide +kernel⟩,
   ⟨1, { lineAt := 9, planes := [[1, 2], [3, 4], [5, 6]] },
    setL [(0x2001, 6, 4)] (setC [(0x2001, 1, 1)] (hdmi 1 { locked := true } (input 17 { w := 2, h := 1, samp := 2 } lit1))),
    by decide +kernel⟩,
   ⟨0, 9, 0, cap1, input 0 { busy := [cap1] } ingest1, (input 0 { busy := [cap1] } ingest1).begin 0, rfl, by decide +kernel⟩,
   ⟨input 0 { ring := [⟨1, ⟨1, 1, 1, 8, 1, []⟩, 0, 0, 0, false, []⟩], nextId := 2 } ingest1, by decide +kernel⟩⟩

theorem test_meets_HdmiPorts_1 :
    (∃ (s : State), s.sys.boot ≠ .off) ∧
    (∃ (s : State), s.sys.boot = .off) ∧
    (∃ (t : Nat) (at_ : Nat) (p : Fin 2) (s : State) (m : State), m = s.begin t ∧ s.sys.boot ≠ .off ∧
     (s.hdmi p).debounceAt = some at_ ∧ at_ ≤ m.now) ∧
    (∃ (s : State), s.sys.boot ≠ .off) ∧
    (∃ (t : Nat) (at_ : Nat) (p : Fin 2) (s : State) (m : State), m = s.begin t ∧ s.sys.boot ≠ .off ∧
     (s.hdmi p).lowUntil = some at_ ∧ at_ ≤ m.now) :=
  ⟨⟨on .laid, by decide +kernel⟩,
   ⟨State.reset, by decide +kernel⟩,
   ⟨0, 0, 0, hdmi 0 { fiveV := true, debounceAt := some 0 } (on .laid),
    (hdmi 0 { fiveV := true, debounceAt := some 0 } (on .laid)).begin 0, rfl, by decide +kernel⟩,
   ⟨hdmi 0 { fiveV := true, plugged := true, locked := true } (on .laid), by decide +kernel⟩,
   ⟨0, 0, 0, hdmi 0 { fiveV := true, lowUntil := some 0 } (on .laid),
    (hdmi 0 { fiveV := true, lowUntil := some 0 } (on .laid)).begin 0, rfl, by decide +kernel⟩⟩

theorem test_meets_HdmiPorts_2 :
    (∃ (addr : Nat) (s : State), s.running = true ∧ (addr = 0x50 ∨ addr = 0x54)) ∧
    (∃ (p : Fin 2) (tm : HdmiTiming) (s : State), s.running = true ∧ s.hpdWanted p = true ∧ tm.interlaced = false ∧
     tm.unsupported = false ∧ 640 ≤ tm.w ∧ tm.w ≤ 7680 ∧ 480 ≤ tm.h ∧ tm.h ≤ 4320 ∧ tm.depth ∈ [8, 10, 12] ∧
     tm.samp ∈ [1, 2, 3, 4] ∧ 8333333 ≤ tm.periodNs ∧ tm.periodNs ≤ 41708334 ∧ tm.link % 16 ≤ s.cm (0x2000 + p) 3) ∧
    (∃ (p : Fin 2) (tm : HdmiTiming) (s : State), s.running = true ∧ s.hpdWanted p = true ∧
     (tm.interlaced = true ∨ tm.unsupported = true ∨ tm.w < 640 ∨ 7680 < tm.w ∨ tm.h < 480 ∨ 4320 < tm.h ∨ tm.depth ∉ [8, 10, 12] ∨ tm.samp ∉ [1, 2, 3, 4] ∨ tm.periodNs < 8333333 ∨ 41708334 < tm.periodNs ∨ s.cm (0x2000 + p) 3 < tm.link % 16)) ∧
    (∃ (p : Fin 2) (s : State), s.running = true ∧ (s.hdmi p).locked = true ∧ (∀ e ∈ s.wait, keyIdx e.1 ≠ 0x2000 + p)) ∧
    (∃ (s : State), s.running = true) :=
  ⟨⟨0x54, on .laid, by decide +kernel⟩,
   ⟨0,
    { w := 1920, h := 1080, periodNs := 16666667, interlaced := false, samp := 2, depth := 10, link := 1, unsupported := false },
    hdmi 0 { fiveV := true, plugged := true, edidWritten := true } (setC [(0x2000, 1, 1)] (on .laid)), by decide +kernel⟩,
   ⟨0,
    { w := 7681, h := 1080, periodNs := 16666667, interlaced := false, samp := 2, depth := 10, link := 1, unsupported := false },
    hdmi 0 { fiveV := true, plugged := true, edidWritten := true } (setC [(0x2000, 1, 1)] (on .laid)), by decide +kernel⟩,
   ⟨0, setL [(0x2000, 6, 4)] (hdmi 0 { locked := true } (setC [(0x2000, 1, 1)] (on .laid))), by decide +kernel⟩,
   ⟨on .laid, by decide +kernel⟩⟩

theorem test_meets_RelayAndReferences :
    (∃ (r : Nat) (l : RelayLine) (s : State), s.running = true ∧ l.dests = [s.myId] ∧
     (List.range 8).find? (fun r => decide (s.cm (0x2190 + r) 1 = 1) && decide (s.cm (0x2190 + r) 2 = l.origin) && decide (s.cm (0x2190 + r) 3 = l.entry)) = some r ∧
     (∀ c ∈ (s.input (18 + r)).closed, c.1 ≠ l.tsrc)) ∧
    (∃ (port : Fin 3) (e : Nat × FlueFrame) (s : State), s.sys.boot ≠ .off ∧
     s.flue.relayQ.find? (fun e => decide (e.1 = port.val)) = some e ∧ s.linkUp port = true) ∧
    (∃ (s : State), s.isUp = true ∧ s.lv 0x2200 1 ≠ 0) ∧
    (∃ (t : Nat) (l : Nat) (s : State) (m : State), m = s.begin t ∧ s.isUp = true ∧ s.lv 0x2200 1 ≠ 0 ∧ s.lv 0x2200 7 = 2 ∧
     s.inp.ref.last = some l ∧ l + m.refPeriod + nsCtr (s.lv 0x2200 5) ≤ m.mono + tickUnit ∧
     s.inp.ref.since < (m.mono + tickUnit - l - nsCtr (s.lv 0x2200 5)) / max 1 m.refPeriod ∧
     s.inp.ref.edgeIn ≠ (m.mono + tickUnit - l - nsCtr (s.lv 0x2200 5)) / max 1 m.refPeriod) ∧
    (∃ (s : State), s.isUp = true ∧ s.cm 0x7030 4 = 1) :=
  ⟨⟨2,
    { dests := [1], origin := 2, entry := 3, line := 0, tsrc := 0, w := 2, h := 1, samp := 2, depth := 8, colour := 1, planes := [[1, 2], [3, 4], [5, 6]] },
    setC [(0x2192, 1, 1), (0x2192, 2, 2), (0x2192, 3, 3)] (setL [(0x8100, 7, 1)] lit1), by decide +kernel, by decide +kernel,
    by decide +kernel, by decide +kernel⟩,
   ⟨1, (1, fr 3 0x30 []), { flued lit1 with flue := { (flued lit1).flue with relayQ := [(1, fr 3 0x30 [])] } }, by decide +kernel⟩,
   ⟨setL [(0x2200, 1, 1)] lit1, by decide +kernel⟩,
   ⟨0, sec, { setL [(0x2200, 1, 1), (0x2200, 2, 1), (0x2200, 7, 2)] lit1 with inp := { ref := { last := some sec } } },
    ({ setL [(0x2200, 1, 1), (0x2200, 2, 1), (0x2200, 7, 2)] lit1 with inp := { ref := { last := some sec } } }).begin 0, rfl,
    by decide +kernel⟩,
   ⟨setC [(0x7030, 4, 1)] lit1, by decide +kernel⟩⟩

theorem test_meets_PacketsFormedAndEligible :
    (∃ (t : Nat) (f : Nat) (k : Nat) (c : Fin 16) (s : State) (m : State) (x : Stripe), m = s.begin t ∧ s.sys.boot ≠ .off ∧
     s.stripe c f k = some x ∧ x.dead = true ∧ x.sent = false ∧ m.due (m.sendOpenOf x) = true) ∧
    (∃ (t : Nat) (f : Nat) (k : Nat) (port : Fin 10) (c : Fin 16) (s : State) (m : State) (e : Nat × Pkt), m = s.begin t ∧
     s.portRuns port = true ∧ s.stripe c f k = none ∧
     (s.ethPort port).tails.find? (fun e => decide (e.2.c = c.val) && decide (e.2.f = f) && decide (e.2.k = k)) = some e ∧
     m.due (e.1 - usCtr 1) = true) ∧
    (∃ (t : Nat) (e : Fin 4128) (k : Pkt) (rest : List Pkt) (s : State) (m : State) (a : Nat), m = s.begin t ∧ s.running = true ∧
     (s.ent e).armed = true ∧ (s.ent e).queue = k :: rest ∧ m.eligibleAt e = some a ∧ wheelPlace m.mono a = some 0 ∧
     m.due k.release = true) ∧
    (∃ (t : Nat) (e : Fin 4128) (k : Pkt) (rest : List Pkt) (s : State) (m : State), m = s.begin t ∧ s.running = true ∧
     (s.ent e).armed = true ∧ (s.ent e).queue = k :: rest ∧
     (∀ a, m.eligibleAt e = some a → wheelPlace m.mono a ≠ some 0 ∨ m.due k.release = false)) :=
  ⟨⟨0, 5, 0, 0, withStripe (fun x => { x with dead := true }) (later 1 lit1),
    (withStripe (fun x => { x with dead := true }) (later 1 lit1)).begin 0, { stripe0 with dead := true }, rfl, by decide +kernel⟩,
   ⟨0, 4, 3, 0, 0, onPort (fun x => { x with tails := [(here, { pkt0 with f := 4, k := 3, tail := true })] }) eth1,
    (onPort (fun x => { x with tails := [(here, { pkt0 with f := 4, k := 3, tail := true })] }) eth1).begin 0,
    (here, { pkt0 with f := 4, k := 3, tail := true }), rfl, by decide +kernel⟩,
   ⟨0, 0, pkt0, [], eth1.updEnt 0 (fun x => { x with queue := [pkt0] }),
    (eth1.updEnt 0 (fun x => { x with queue := [pkt0] })).begin 0, here, rfl, by decide +kernel⟩,
   ⟨0, 0, pkt0, [], eth1.updEnt 0 (fun x => { x with queue := [pkt0], credit := 0, rate := 0 }),
    (eth1.updEnt 0 (fun x => { x with queue := [pkt0], credit := 0, rate := 0 })).begin 0, rfl, by decide +kernel⟩⟩

theorem test_meets_TransmissionSelection :
    (∃ (t : Nat) (q : Nat) (port : Fin 10) (x : QFrame) (s : State) (m : State), m = s.begin t ∧ s.portRuns port = true ∧
     (s.ethPort port).link = true ∧ m.due (s.ethPort port).busyTill = true ∧ m.due (s.ethPort port).slotTill = true ∧ q < 8 ∧
     (∀ r, q < r → r < 8 → m.classHead port r = none) ∧ m.classHead port q = some x ∧ m.classStop port q x.len = 0) ∧
    (∃ (t : Nat) (q : Nat) (port : Fin 10) (x : QFrame) (s : State) (m : State), m = s.begin t ∧ s.portRuns port = true ∧
     (s.ethPort port).link = true ∧ m.due (s.ethPort port).busyTill = true ∧ m.due (s.ethPort port).slotTill = true ∧ q < 8 ∧
     (∀ r, q < r → r < 8 → m.classHead port r = none) ∧ m.classHead port q = some x ∧ m.classStop port q x.len = 2 ∧
     x.held = false ∧ (∀ r, r < q → m.classHead port r = none)) :=
  ⟨⟨0, 7, 0, { cls := 7, eligible := 0, entry := 0xFFFF, len := 64, frame := some {} },
    onPort (fun x => { x with queue := [{ cls := 7, eligible := 0, entry := 0xFFFF, len := 64, frame := some {} }] }) eth1,
    (onPort (fun x => { x with queue := [{ cls := 7, eligible := 0, entry := 0xFFFF, len := 64, frame := some {} }] }) eth1).begin 0,
    rfl, by decide +kernel, by decide +kernel, by decide +kernel, by decide +kernel, by decide +kernel,
    (fun r h1 h2 => absurd h2 (by omega)), by decide +kernel⟩,
   ⟨0, 7, 0, { cls := 7, eligible := 0, entry := 0xFFFF, len := 1500, frame := some {} },
    onPort (fun x => { x with queue := [{ cls := 7, eligible := 0, entry := 0xFFFF, len := 1500, frame := some {} }] }) { eth1 with clk := { run := true, mono := lit1.lastByteOf stripe0 - 100 * 2 ^ 40 } },
    (onPort (fun x => { x with queue := [{ cls := 7, eligible := 0, entry := 0xFFFF, len := 1500, frame := some {} }] }) { eth1 with clk := { run := true, mono := lit1.lastByteOf stripe0 - 100 * 2 ^ 40 } }).begin 0,
    rfl, by decide +kernel, by decide +kernel, by decide +kernel, by decide +kernel, by decide +kernel,
    (fun r h1 h2 => absurd h2 (by omega)), by decide +kernel⟩⟩

theorem test_meets_EthernetFramesReceived :
    (∃ (port : Fin 10) (f : EthFrame) (s : State), s.portRuns port = true ∧ (s.ethPort port).link = true ∧ f.ety = 0x8808) ∧
    (∃ (port : Fin 10) (f : EthFrame) (s : State), s.portRuns port = true ∧ (s.ethPort port).link = true ∧ f.ety ≠ 0x8808 ∧
     (s.macOk port f.dstMac = false ∨ f.frag = true ∨ frameTaken s.comm port f = false)) ∧
    (∃ (t : Nat) (port : Fin 10) (f : EthFrame) (s : State) (m : State), m = s.begin t ∧ s.portRuns port = true ∧
     (s.ethPort port).link = true ∧ f.ety ≠ 0x8808 ∧ s.macOk port f.dstMac = true ∧ f.frag = false ∧
     frameTaken s.comm port f = true ∧ m.meterOf port f = none ∧ isPtp f = true ∧ s.cm (0x7010 + portSide port) 1 = 2 ∧
     (s.servo.rx.get [] (portSide port)).length < 32) ∧
    (∃ (t : Nat) (port : Fin 10) (f : EthFrame) (s : State) (m : State), m = s.begin t ∧ s.portRuns port = true ∧
     (s.ethPort port).link = true ∧ f.ety ≠ 0x8808 ∧ s.macOk port f.dstMac = true ∧ f.frag = false ∧
     frameTaken s.comm port f = true ∧ m.meterOf port f = none ∧ f.ety = 0x0806 ∧ beAt f.payload 6 2 = 1 ∧
     beAt f.payload 24 4 = Sys2Proof.Machine.port s.comm port 4 ∧ s.lv (0x6200 + port) 1 = 0) ∧
    (∃ (t : Nat) (port : Fin 10) (f : EthFrame) (s : State) (m : State) (r : State × Bool), m = s.begin t ∧
     s.portRuns port = true ∧ (s.ethPort port).link = true ∧ r = (m.inc (0x6000 + port) 0xF).metered port f ∧ f.ety = 0x0800 ∧
     s.macOk port f.dstMac = true ∧ f.frag = false ∧ frameTaken s.comm port f = true ∧ isPtp f = false ∧ f.proto = 17 ∧
     s.takenUp port f = false) :=
  ⟨⟨0, { ety := 0x8808 }, eth1, by decide +kernel⟩,
   ⟨0, { dstMac := 6 }, eth1, by decide +kernel⟩,
   ⟨0, 0, ptpFrame, eth1, (eth1).begin 0, rfl, by decide +kernel⟩,
   ⟨0, 0,
    { dstMac := 0xFFFFFFFFFFFF, srcMac := 5, ety := 0x0806, payload := [0, 1, 8, 0, 6, 4, 0, 1, 0, 0, 0, 0, 0, 5, 10, 0, 0, 9, 0, 0, 0, 0, 0, 0, 10, 0, 0, 1] },
    eth1, (eth1).begin 0, rfl, by decide +kernel⟩,
   ⟨0, (0 : Fin 10), udp1, met1, (met1).begin 0,
    ((met1.begin 0).inc (0x6000 + (0 : Fin 10).val) 0xF).metered (0 : Fin 10).val udp1, rfl, by decide +kernel, by decide +kernel,
    rfl, by decide +kernel⟩⟩

theorem test_meets_LinksObservationAndGates :
    (∃ (port : Fin 10) (s : State), s.portRuns port = true ∧ (s.ethPort port).link = false) ∧
    (∃ (port : Fin 10) (s : State), s.portRuns port = true ∧ (s.ethPort port).link = true) ∧
    (∃ (t : Nat) (port : Fin 10) (s : State) (m : State), m = s.begin t ∧ s.portRuns port = true ∧ (s.ethPort port).link = true ∧
     (s.ethPort port).arpAt + tuSec 60 ≤ m.now ∧ s.lv (0x6200 + port) 1 = 0) ∧
    (∃ (port : Fin 10) (s : State), s.portRuns port = true) ∧
    (∃ (t : Nat) (port : Fin 10) (s : State) (m : State), m = s.begin t ∧ s.isUp = true ∧
     (s.ethPort port).histAt + tuMs (s.ethPort port).histLen ≤ m.now) ∧
    (∃ (t : Nat) (port : Fin 10) (g : GateList) (s : State) (m : State), m = s.begin t ∧ s.sys.boot ≠ .off ∧
     (s.ethPort port).gate.oper = some g ∧ (s.ethPort port).gate.realign = false ∧ m.due (s.ethPort port).gate.entryEnd = true ∧
     (s.ethPort port).gate.idx + 1 < (fitList g.list g.cycle).length) ∧
    (∃ (t : Nat) (port : Fin 10) (g : GateList) (s : State) (m : State), m = s.begin t ∧ s.sys.boot ≠ .off ∧
     (s.ethPort port).gate.oper = some g ∧ (s.ethPort port).gate.realign = false ∧ m.due (s.ethPort port).gate.entryEnd = true ∧
     (fitList g.list g.cycle).length ≤ (s.ethPort port).gate.idx + 1 ∧ (s.ethPort port).gate.pend = none) ∧
    (∃ (t : Nat) (at_ : Nat) (port : Fin 10) (g : GateList) (s : State) (m : State), m = s.begin t ∧ s.sys.boot ≠ .off ∧
     (s.ethPort port).gate.pend = some (at_, g) ∧ m.due at_ = true) :=
  ⟨⟨0, onPort (fun x => { x with link := false }) eth1, by decide +kernel⟩,
   ⟨0, eth1, by decide +kernel⟩,
   ⟨0, 0, { eth1 with now := tuSec 60 }, ({ eth1 with now := tuSec 60 }).begin 0, rfl, by decide +kernel⟩,
   ⟨0, eth1, by decide +kernel⟩,
   ⟨0, 0, { eth1 with now := tuSec 2 }, ({ eth1 with now := tuSec 2 }).begin 0, rfl, by decide +kernel⟩,
   ⟨0, 0, ⟨[(1, 100), (2, 100)], 200, 0, 0⟩,
    onPort (fun x => { x with gate := { oper := some ⟨[(1, 100), (2, 100)], 200, 0, 0⟩ } }) eth1,
    (onPort (fun x => { x with gate := { oper := some ⟨[(1, 100), (2, 100)], 200, 0, 0⟩ } }) eth1).begin 0, rfl, by decide +kernel⟩,
   ⟨0, 0, ⟨[(1, 100), (2, 100)], 200, 0, 0⟩,
    onPort (fun x => { x with gate := { oper := some ⟨[(1, 100), (2, 100)], 200, 0, 0⟩, idx := 1 } }) eth1,
    (onPort (fun x => { x with gate := { oper := some ⟨[(1, 100), (2, 100)], 200, 0, 0⟩, idx := 1 } }) eth1).begin 0, rfl,
    by decide +kernel⟩,
   ⟨0, 0, 0, ⟨[(1, 100), (2, 100)], 200, 0, 0⟩,
    onPort (fun x => { x with gate := { pend := some (0, ⟨[(1, 100), (2, 100)], 200, 0, 0⟩) } }) eth1,
    (onPort (fun x => { x with gate := { pend := some (0, ⟨[(1, 100), (2, 100)], 200, 0, 0⟩) } }) eth1).begin 0, rfl,
    by decide +kernel⟩⟩

theorem test_meets_PtpMastersAndFlueTime :
    (∃ (i : Fin 4) (msg : PtpMsg) (s : State), s.ptpRuns i = true ∧ (s.ethPort (s.ptpPort (i % 2))).link = true ∧
     msg.domain = s.ptpDomain i ∧ msg.kind = .announce ∧ (i.val < 2 → -3 ≤ msg.logInt ∧ msg.logInt ≤ 1)) ∧
    (∃ (i : Fin 4) (msg : PtpMsg) (s : State), s.ptpRuns i = true ∧ (s.ethPort (s.ptpPort (i % 2))).link = true ∧
     msg.kind = .announce ∧ i.val < 2 ∧ (msg.logInt < -3 ∨ 1 < msg.logInt)) ∧
    (∃ (t : Nat) (at_ : Nat) (i : Fin 4) (s : State) (m : State), m = s.begin t ∧ s.sys.boot ≠ .off ∧ (s.ptp i).annAt = some at_ ∧
     at_ + 3 * (s.ptp i).annInt ≤ m.now) ∧
    (∃ (t : Nat) (at_ : Nat) (i : Fin 4) (s : State) (m : State), m = s.begin t ∧ s.sys.boot ≠ .off ∧
     (s.ptp i).syncAt = some at_ ∧ at_ + 4 * (s.ptp i).syncInt ≤ m.now) ∧
    (∃ (t : Nat) (i : Fin 4) (s : State) (m : State), m = s.begin t ∧ s.ptpRuns i = true ∧
     (s.ethPort (s.ptpPort (i % 2))).link = true ∧ (s.ptp i).reqAt + (if i.val < 2 then (s.ptp i).reqInt else tuSec 1) ≤ m.now ∧
     (i.val < 2 → (s.ptp i).lastMs.isSome = true ∧ s.cm (0x7010 + i % 2) 4 ≠ 1) ∧ s.lv (0x6200 + s.ptpPort (i % 2)) 1 = 0) ∧
    (∃ (t : Nat) (p : Fin 3) (s : State) (m : State), m = s.begin t ∧ s.sys.boot ≠ .off ∧ s.linkUp p = true ∧
     (∀ a, (s.link p).sentAt = some a → a + tuUs 15625 ≤ m.now)) ∧
    (∃ (p : Fin 3) (f : FlueFrame) (s : State), s.sys.boot ≠ .off ∧ s.linkUp p = true ∧ f.typ = 2) :=
  ⟨⟨0, msg1 .announce (-3), ptp1 {}, by decide +kernel⟩,
   ⟨0, msg1 .announce (-4), ptp1 {}, by decide +kernel⟩,
   ⟨0, 0, 0, ptp1 { annAt := some 0, annInt := 0, master := some 77 },
    (ptp1 { annAt := some 0, annInt := 0, master := some 77 }).begin 0, rfl, by decide +kernel⟩,
   ⟨0, 0, 0, ptp1 { syncAt := some 0, master := some 77 }, (ptp1 { syncAt := some 0, master := some 77 }).begin 0, rfl,
    by decide +kernel⟩,
   ⟨0, 0, ptp1 { lastMs := some 5 }, (ptp1 { lastMs := some 5 }).begin 0, rfl, by decide +kernel⟩,
   ⟨0, 1, linked {} 3, (linked {} 3).begin 0, rfl, by decide +kernel, by decide +kernel, (fun _ h => nomatch h)⟩,
   ⟨1, fr 1 2 [5, 6, 7], linked {} 3, by decide +kernel⟩⟩

theorem test_meets_ServoSteers :
    ∃ (i : Fin 2) (msg : PtpMsg) (θ : Int) (s : State), s.ptpRuns i = true ∧ (s.ethPort (s.ptpPort (i % 2))).link = true ∧
     msg.domain = s.ptpDomain i ∧ msg.kind = .sync ∧ msg.twoStep = false ∧ (s.ptp i).master = some msg.port ∧ -7 ≤ msg.logInt ∧
     msg.logInt ≤ 0 ∧ (s.ptp i).delays ≠ [] ∧ 3 ≤ (s.ptp i).good ∧ s.sourceNow = i + 1 ∧ s.order.contains (i + 1) = true ∧
     θ = msg.rx - msg.stamp - trimMean (s.ptp i).delays - msg.correction - signed 32 (s.lv (0x7010 + i) 5) * 65536 :=
  ⟨0, { msg1 .sync 0 with rx := 1000000, stamp := 20 }, 1000000 - 20 - 65536,
    { setL [(0x7001, 0xD, 1), (0x7001, 0xE, 2)] (ptp1 { master := some 77, delays := [65536, 65536, 65536, 65536], good := 4, masters := [⟨77, 0, [1], 0, 0, 9⟩] }) with now := 100 },
    by decide +kernel⟩

theorem test_meets_TimeSourcesCountersAndPulses_1 :
    (∃ (t : Nat) (at_ : Nat) (s : State) (m : State), m = s.begin t ∧ s.sys.boot ≠ .off ∧ s.servo.hostAt = some at_ ∧
     at_ + tuSec 4 ≤ m.now) ∧
    (∃ (t : Nat) (c : Nat) (q : Nat) (rest : List Nat) (s : State) (m : State), m = s.begin t ∧ s.sys.boot ≠ .off ∧
     s.order = c :: rest ∧ c ≠ 7 ∧ c ≠ s.sourceNow ∧ s.qualified c = true ∧ s.servo.qualAt.get none c = some q ∧
     q + tuSec 10 ≤ m.now ∧ 1 ≤ s.sourceNow ∧ s.sourceNow ≤ 6 ∧ s.order.contains s.sourceNow = true ∧
     s.qualified s.sourceNow = true) ∧
    (∃ (t : Nat) (at_ : Nat) (s : State) (m : State), m = s.begin t ∧ s.sys.boot ≠ .off ∧ s.servo.holdFrom = some at_ ∧
     at_ + tuSec (s.lv 0x7001 0xB) ≤ m.now ∧ s.servo.holdRaised = false) ∧
    (∃ (diff : Int) (s : State), s.isUp = true ∧ s.clk.run = true ∧ tickUnit < diff.natAbs) ∧
    (∃ (diff : Int) (s : State), s.isUp = true ∧ s.clk.run = true ∧ diff.natAbs ≤ tickUnit) :=
  ⟨⟨0, 0, { lit1 with now := tuSec 4, servo := { hostAt := some 0 } },
    ({ lit1 with now := tuSec 4, servo := { hostAt := some 0 } }).begin 0, rfl, by decide +kernel⟩,
   ⟨0, 6, 0, [1],
    { setL [(0x7010, 7, 3), (0x7001, 0xD, 1)] lit1 with now := tuSec 10, comm := lit1.comm.insert (key 0x7001 1) (.b [6, 1]), servo := { hostAt := some 0, ptp := [(0, { good := 4 })], qualAt := [(6, some 0)] } },
    ({ setL [(0x7010, 7, 3), (0x7001, 0xD, 1)] lit1 with now := tuSec 10, comm := lit1.comm.insert (key 0x7001 1) (.b [6, 1]), servo := { hostAt := some 0, ptp := [(0, { good := 4 })], qualAt := [(6, some 0)] } }).begin 0,
    rfl, by decide +kernel⟩,
   ⟨0, 0, { lit1 with now := tuSec 2000000000, servo := { holdFrom := some 0 } },
    ({ lit1 with now := tuSec 2000000000, servo := { holdFrom := some 0 } }).begin 0, rfl, by decide +kernel⟩,
   ⟨-2748779069441, lit1, by decide +kernel⟩,
   ⟨2748779069440, lit1, by decide +kernel⟩⟩

theorem test_meets_TimeSourcesCountersAndPulses_2 :
    (∃ (t : Nat) (s : State) (m : State), m = s.begin t ∧ s.isUp = true ∧ s.clk.run = true ∧ s.cm 0x7030 1 = 1 ∧
     m.ctrNow % (1000000000 * 2 ^ 40) < tickInc m.clk.y) ∧
    (∃ (t : Nat) (s : State) (m : State), m = s.begin t ∧ s.isUp = true ∧ s.clk.run = true ∧ s.cm 0x7030 1 = 1 ∧
     tickInc m.clk.y ≤ m.ctrNow % (1000000000 * 2 ^ 40)) ∧
    (∃ (t : Nat) (at_ : Nat) (s : State) (m : State), m = s.begin t ∧ s.sys.boot ≠ .off ∧ s.servo.ppsHigh = some at_ ∧ at_ ≤ m.now) ∧
    (∃ (t : Nat) (at_ : Nat) (s : State) (m : State), m = s.begin t ∧ s.sys.boot ≠ .off ∧ s.servo.frameHigh = some at_ ∧
     at_ ≤ m.now) ∧
    (∃ (s : State), s.sys.boot ≠ .off) :=
  ⟨⟨0, { setC [(0x7030, 1, 1)] lit1 with clk := { run := true, mono := sec } },
    ({ setC [(0x7030, 1, 1)] lit1 with clk := { run := true, mono := sec } }).begin 0, rfl, by decide +kernel⟩,
   ⟨0, setC [(0x7030, 1, 1)] lit1, (setC [(0x7030, 1, 1)] lit1).begin 0, rfl, by decide +kernel⟩,
   ⟨0, 0, { lit1 with servo := { ppsHigh := some 0 } }, ({ lit1 with servo := { ppsHigh := some 0 } }).begin 0, rfl,
    by decide +kernel⟩,
   ⟨0, 0, { lit1 with servo := { frameHigh := some 0 } }, ({ lit1 with servo := { frameHigh := some 0 } }).begin 0, rfl,
    by decide +kernel⟩,
   ⟨{ lit1 with now := tuSec 3, servo := { tsq := [(0, [⟨0, 5, 6, 7⟩])] } }, by decide +kernel⟩⟩

theorem test_meets_AudioPortsAndPackets :
    (∃ (p : Fin 8) (s : State), s.aPortOn p = true) ∧
    (∃ (p : Fin 2) (s : State), s.running = true ∧ (s.hdmi p).locked = true) ∧
    (∃ (p : Fin 16) (s : State), s.aPortOn p = true ∧ s.asrc p = 1 ∧ (s.aPort p).since.isSome = true) ∧
    (∃ (t : Nat) (p : Fin 16) (s : State) (m : State), m = s.begin t ∧ s.aLive p = true ∧ (s.aPort p).unused = false ∧
     (s.aPort p).smps.all (fun a => decide (a.at_ ≤ m.fifoAt + tickUnit)) = true) ∧
    (∃ (t : Nat) (p : Fin 16) (s : State) (m : State), m = s.begin t ∧ s.aLive p = true ∧
     ((usCtr 1000 * 65536 : Nat) < m.fill p * m.inputPeriod p ∨ (∃ l, s.audio.lead.get none (s.groupOf p) = some l ∧ l ≠ p ∧ 32 * 65536 < (m.fill p - m.fill l).natAbs))) ∧
    (∃ (t : Nat) (p : Fin 16) (r : Stretch) (s : State) (m : State), m = s.begin t ∧ s.aPortOn p = true ∧
     (s.aPort p).hold = true ∧ (s.aPort p).runs.head? = some r ∧ r.mode = .held ∧
     r.from_ + usCtr (1000 * s.lv (0x7100 + p) 9) ≤ m.fifoAt + tickUnit) ∧
    (∃ (t : Nat) (p : Fin 16) (s : State) (m : State), m = s.begin t ∧ s.aPortOn p = true ∧ s.aHeld p = true ∧
     (s.aPort p).hold = true ∧ (s.aPort p).smps.any (fun a => decide (m.fifoAt + tickUnit < a.at_)) = true) ∧
    (∃ (t : Nat) (a : Fin 32) (k : Int) (s : State) (m : State), m = s.begin t ∧ s.sys.boot ≠ .off ∧ s.sys.mode = .lit ∧
     entryOn s.comm (4096 + a) = true ∧ s.audio.next.get none a ≠ none ∧ m.audioClock.audio.next.get none a = some k ∧
     m.audioClock.sampleMono (k + packetSamples s.comm a) + usCtr 20 ≤ (m.mono + tickUnit : Int)) :=
  ⟨⟨0, audio1 {} 1, by decide +kernel⟩,
   ⟨0, setC [(0x7108, 1, 1)] (hdmi 0 { locked := true } lit1), by decide +kernel⟩,
   ⟨0, audio1 { since := some 0 } 1, by decide +kernel⟩,
   ⟨0, 0, audio1 { smps := [⟨0, 1, 2, 0⟩] } 2, (audio1 { smps := [⟨0, 1, 2, 0⟩] } 2).begin 0, rfl, by decide +kernel⟩,
   ⟨0, 0, audio1 { written := 200, posAt := here, loop := some { next := 0, per := 2 * 10 ^ 16 } } 2,
    (audio1 { written := 200, posAt := here, loop := some { next := 0, per := 2 * 10 ^ 16 } } 2).begin 0, rfl, by decide +kernel⟩,
   ⟨0, 0, { from_ := 0, mode := .held }, audio1 { hold := true, runs := [{ from_ := 0, mode := .held }] } 3,
    (audio1 { hold := true, runs := [{ from_ := 0, mode := .held }] } 3).begin 0, rfl, by decide +kernel⟩,
   ⟨0, 0, audio1 { hold := true, smps := [⟨here, 1, 2, 0⟩], runs := [{ from_ := 0, mode := .held }] } 3,
    (audio1 { hold := true, smps := [⟨here, 1, 2, 0⟩], runs := [{ from_ := 0, mode := .held }] } 3).begin 0, rfl,
    by decide +kernel⟩,
   ⟨0, 0, 0, { setC [(0x7120, 1, 1)] eth1 with audio := { next := [(0, some 0)] } },
    ({ setC [(0x7120, 1, 1)] eth1 with audio := { next := [(0, some 0)] } }).begin 0, rfl, by decide +kernel⟩⟩

theorem test_meets_FlueLinksUpAndDown_1 :
    (∃ (lanes : Nat) (p : Fin 3) (s : State), s.flueServes p = true ∧ s.linkUp p = false ∧ (s.link p).trainedAt = none ∧
     (List.range 3).filter (fun l => lanes.testBit l && !(s.link p).retired.testBit l) = []) ∧
    (∃ (lanes : Nat) (p : Fin 3) (s : State) (a : Nat) (ls : List Nat), s.flueServes p = true ∧ s.linkUp p = false ∧
     (s.link p).trainedAt = none ∧ (List.range 3).filter (fun l => lanes.testBit l && !(s.link p).retired.testBit l) = a :: ls) ∧
    (∃ (t : Nat) (at_ : Nat) (p : Fin 3) (s : State) (m : State), m = s.begin t ∧ s.flueServes p = true ∧
     (s.link p).retryAt = some at_ ∧ at_ ≤ m.now) ∧
    (∃ (t : Nat) (at_ : Nat) (p : Fin 3) (s : State) (m : State), m = s.begin t ∧ s.flueServes p = true ∧
     (s.link p).trainedAt = some at_ ∧ (s.link p).admitted = false ∧ s.linkState p = 2 ∧ at_ + tuMs (s.lv 0x8100 0xA) ≤ m.now) ∧
    (∃ (ser : Nat) (p : Fin 3) (lane : Fin 3) (s : State), s.sys.boot ≠ .off ∧ s.linkUp p = true ∧ s.lv (0x8110 + p) 8 < ser ∧
     (s.link p).active.testBit lane = true ∧ (s.link p).spare ≠ 3) ∧
    (∃ (ser : Nat) (p : Fin 3) (s : State), s.sys.boot ≠ .off ∧ s.linkUp p = true ∧ ser ≤ s.lv (0x8110 + p) 8) ∧
    (∃ (p : Fin 3) (lane : Fin 3) (s : State), s.sys.boot ≠ .off ∧ s.linkUp p = true ∧ (s.link p).spare = lane) :=
  ⟨⟨2, 1, linked { signal := true, retired := 2 } 1, by decide +kernel⟩,
   ⟨7, 1, linked { signal := true } 1, 0, [1, 2], by decide +kernel⟩,
   ⟨0, 0, 1, linked { retryAt := some 0 } 5, (linked { retryAt := some 0 } 5).begin 0, rfl, by decide +kernel⟩,
   ⟨0, 0, 1,
    { linked { signal := true, trained := 7, active := 3, spare := 2, trainedAt := some 0, peer := some (9, 2, 0) } 2 with now := tuSec 100 },
    ({ linked { signal := true, trained := 7, active := 3, spare := 2, trainedAt := some 0, peer := some (9, 2, 0) } 2 with now := tuSec 100 }).begin 0,
    rfl, by decide +kernel⟩,
   ⟨1000, 1, 0, setL [(0x8111, 8, 10)] (linked { active := 3, spare := 2 } 3), by decide +kernel⟩,
   ⟨10, 1, setL [(0x8111, 8, 10)] (linked { active := 3, spare := 2 } 3), by decide +kernel⟩,
   ⟨1, 2, linked { active := 3, spare := 2 } 3, by decide +kernel⟩⟩

theorem test_meets_FlueLinksUpAndDown_2 :
    (∃ (p : Fin 3) (lane : Fin 3) (s : State), s.sys.boot ≠ .off ∧ s.linkUp p = true ∧ (s.link p).spare ≠ lane ∧
     (s.link p).active.testBit lane = true ∧ (s.link p).spare ≠ 3) ∧
    (∃ (p : Fin 3) (lane : Fin 3) (s : State), s.sys.boot ≠ .off ∧ s.linkUp p = true ∧ (s.link p).spare ≠ lane ∧
     (s.link p).active.testBit lane = true ∧ (s.link p).spare = 3 ∧ setBit (s.link p).active lane false ≠ 0) ∧
    (∃ (p : Fin 3) (s : State), s.sys.boot ≠ .off ∧ (s.link p).trainedAt.isSome = true) ∧
    (∃ (p : Fin 3) (s : State), s.sys.boot ≠ .off ∧ (s.link p).trainedAt.isSome = true ∧ (s.link p).badRun < 15) ∧
    (∃ (p : Fin 3) (s : State), s.sys.boot ≠ .off ∧ (s.link p).trainedAt.isSome = true ∧ 15 ≤ (s.link p).badRun) ∧
    (∃ (p : Fin 10) (s : State), s.portRuns p = true ∧ (s.ethPort p).link = true) :=
  ⟨⟨1, 0, linked { active := 3, spare := 2 } 3, by decide +kernel⟩,
   ⟨1, 0, linked { active := 3, spare := 3 } 3, by decide +kernel⟩,
   ⟨1, linked { active := 3, trainedAt := some 0, admitted := true } 3, by decide +kernel⟩,
   ⟨1, linked { active := 3, trainedAt := some 0, badRun := 14 } 3, by decide +kernel⟩,
   ⟨1, linked { active := 3, trainedAt := some 0, badRun := 15 } 3, by decide +kernel⟩,
   ⟨0, eth1, by decide +kernel⟩⟩

theorem test_meets_AdvertsAndEnumeration :
    (∃ (t : Nat) (s : State) (m : State), m = s.begin t ∧ s.isUp = true ∧ s.flue.advertAt + tuMs 100 ≤ m.now ∧ s.flue.dups = [] ∧
     s.myId < 1024) ∧
    (∃ (p : Fin 3) (f : FlueFrame) (s : State), s.sys.boot ≠ .off ∧ s.linkUp p = true ∧ f.typ = 3 ∧ f.src < 1024 ∧
     f.src ≠ s.myId ∧ (f.hops = 0 ∨ (s.path f.src).port = p)) ∧
    (∃ (p : Fin 3) (f : FlueFrame) (given : List Nat) (s : State) (id : Nat), s.sys.boot ≠ .off ∧ s.linkUp p = true ∧
     f.typ = 0x41 ∧ s.flue.excess = false ∧ f.pay.getD 0 0 = 0 ∧ s.flue.lastPass ≠ (f.pay.getD 1 0, f.pay.getD 2 0) ∧
     s.flue.enumSt = none ∧ 1024 ≤ s.myId ∧ s.lv 0x8100 1 ≠ 0 ∧ given = (f.pay.drop 5).take (f.pay.getD 4 0) ∧
     pickId s.serial (f.pay.getD 3 0) ((pairsOf (f.pay.drop (6 + f.pay.getD 4 0))).take (f.pay.getD (5 + f.pay.getD 4 0) 0)) given = some id) ∧
    (∃ (p : Fin 3) (f : FlueFrame) (given : List Nat) (s : State), s.sys.boot ≠ .off ∧ s.linkUp p = true ∧ f.typ = 0x41 ∧
     s.flue.excess = false ∧ f.pay.getD 0 0 = 0 ∧ s.flue.lastPass ≠ (f.pay.getD 1 0, f.pay.getD 2 0) ∧ s.flue.enumSt = none ∧
     1024 ≤ s.myId ∧ s.lv 0x8100 1 ≠ 0 ∧ given = (f.pay.drop 5).take (f.pay.getD 4 0) ∧
     pickId s.serial (f.pay.getD 3 0) ((pairsOf (f.pay.drop (6 + f.pay.getD 4 0))).take (f.pay.getD (5 + f.pay.getD 4 0) 0)) given = none) :=
  ⟨⟨0, { linked { active := 3, trainedAt := some 0, admitted := true } 3 with now := tuMs 100 },
    ({ linked { active := 3, trainedAt := some 0, admitted := true } 3 with now := tuMs 100 }).begin 0, rfl, by decide +kernel⟩,
   ⟨1, { fr 0xFFFF 3 [9, 1, 2, 3, 4, 5, 6] with src := 3 }, linked { active := 3, trainedAt := some 0, admitted := true } 3,
    by decide +kernel⟩,
   ⟨1, enum1 1, [1], setL [(0x8100, 7, 0xFFFF), (0x8100, 1, 1)] (linked { active := 3, trainedAt := some 0 } 3), 2,
    by decide +kernel⟩,
   ⟨1, enum1 1024, [1], setL [(0x8100, 7, 0xFFFF), (0x8100, 1, 1)] (linked { active := 3, trainedAt := some 0 } 3),
    by decide +kernel⟩⟩

theorem test_meets_DramAccesses :
    (∃ (t : Nat) (ch : Fin 8) (sub : Fin 2) (r : DramReq) (p : Spot) (s : State) (m : State), m = s.begin t ∧
     s.dramIssues ch = true ∧ r.addr < 2 ^ 36 ∧ p = spotOf s.comm r.addr ∧ p.ch = ch ∧ p.sub = sub ∧ s.rankState ch = 1 ∧
     s.lv (dramIdx ch) 1 ≠ 2 ∧ (s.dramSub ch sub).owed = 0 ∧ (s.dramSub ch sub).reads = [] ∧ (s.dramSub ch sub).writes = [] ∧
     (s.dramSub ch sub).stalled = [] ∧ (s.dramSub ch sub).inOrder = [] ∧ (s.dramSub ch sub).mode = 0 ∧
     (∀ e ∈ (s.dramSub ch sub).rows, ∀ o, e.2 = some o → m.now < o.openAt + Config.trasMax ∧ (o.hint = 2 → m.now < o.usedAt + 1280)) ∧
     (s.dramSub ch sub).rows.get none p.bank = none) ∧
    (∃ (t : Nat) (ch : Fin 8) (sub : Fin 2) (r : DramReq) (p : Spot) (s : State) (m : State) (o : DRow), m = s.begin t ∧
     s.dramIssues ch = true ∧ r.addr < 2 ^ 36 ∧ p = spotOf s.comm r.addr ∧ p.ch = ch ∧ p.sub = sub ∧ s.rankState ch = 1 ∧
     s.lv (dramIdx ch) 1 ≠ 2 ∧ (s.dramSub ch sub).owed = 0 ∧ (s.dramSub ch sub).reads = [] ∧ (s.dramSub ch sub).writes = [] ∧
     (s.dramSub ch sub).stalled = [] ∧ (s.dramSub ch sub).inOrder = [] ∧ (s.dramSub ch sub).mode = 0 ∧
     (∀ e ∈ (s.dramSub ch sub).rows, ∀ o, e.2 = some o → m.now < o.openAt + Config.trasMax ∧ (o.hint = 2 → m.now < o.usedAt + 1280)) ∧
     (s.dramSub ch sub).rows.get none p.bank = some o ∧ o.row = p.row ∧ r.data = none) ∧
    (∃ (t : Nat) (ch : Fin 8) (sub : Fin 2) (r : DramReq) (p : Spot) (s : State) (m : State) (o : DRow) (bs : List Byte), m = s.begin t ∧
     s.dramIssues ch = true ∧ r.addr < 2 ^ 36 ∧ p = spotOf s.comm r.addr ∧ p.ch = ch ∧ p.sub = sub ∧ s.rankState ch = 1 ∧
     s.lv (dramIdx ch) 1 ≠ 2 ∧ (s.dramSub ch sub).owed = 0 ∧ (s.dramSub ch sub).reads = [] ∧ (s.dramSub ch sub).writes = [] ∧
     (s.dramSub ch sub).stalled = [] ∧ (s.dramSub ch sub).inOrder = [] ∧ (s.dramSub ch sub).mode = 0 ∧
     (∀ e ∈ (s.dramSub ch sub).rows, ∀ o, e.2 = some o → m.now < o.openAt + Config.trasMax ∧ (o.hint = 2 → m.now < o.usedAt + 1280)) ∧
     (s.dramSub ch sub).rows.get none p.bank = some o ∧ o.row = p.row ∧ r.data = some bs ∧ bs.length = 64) ∧
    (∃ (rs : List DramReq), (∃ r ∈ rs, 2 ^ 36 ≤ r.addr)) :=
  ⟨⟨0, 0, 0, wr1, ⟨0, 0, 0, 0, 0⟩, dram1, (dram1).begin 0, rfl, by decide +kernel⟩,
   ⟨0, 0, 0, ⟨0, 0, 0, none⟩, ⟨0, 0, 0, 0, 0⟩, open1, (open1).begin 0, ⟨0, 0, 1, 0⟩, rfl, by decide +kernel, by decide +kernel,
    by decide +kernel, by decide +kernel, by decide +kernel, by decide +kernel, by decide +kernel, by decide +kernel,
    by decide +kernel, by decide +kernel, by decide +kernel, by decide +kernel, by decide +kernel,
    by rintro e he o ho; obtain rfl := List.mem_singleton.1 (show e ∈ [(0, some (⟨0, 0, 1, 0⟩ : DRow))] from he); injection ho with ho; subst ho; exact ⟨Nat.lt_of_lt_of_le Nat.zero_lt_one (Nat.le_add_right ..), nofun⟩,
    by decide +kernel⟩,
   ⟨0, 0, 0, wr1, ⟨0, 0, 0, 0, 0⟩, open1, (open1).begin 0, ⟨0, 0, 1, 0⟩, List.replicate 64 7, rfl, by decide +kernel,
    by decide +kernel, by decide +kernel, by decide +kernel, by decide +kernel, by decide +kernel, by decide +kernel,
    by decide +kernel, by decide +kernel, by decide +kernel, by decide +kernel, by decide +kernel, by decide +kernel,
    by rintro e he o ho; obtain rfl := List.mem_singleton.1 (show e ∈ [(0, some (⟨0, 0, 1, 0⟩ : DRow))] from he); injection ho with ho; subst ho; exact ⟨Nat.lt_of_lt_of_le Nat.zero_lt_one (Nat.le_add_right ..), nofun⟩,
    by decide +kernel⟩,
   ⟨[⟨2 ^ 36, 0, 0, none⟩], by decide +kernel⟩⟩

theorem test_meets_DramBytesStayCanonical :
    ∃ (c : Instr) (s : State) (s' : State), ((∃ t ch sub rs, c = .dramCommandSlot t ch sub rs) ∨ (∃ t ch sub, c = .caParityAlert t ch sub) ∨ (∃ t ch, c = .scrubPass t ch) ∨ (∃ t ch sub, c = .dramRefreshDue t ch sub) ∨ (∃ t ch sub r b, c = .rfmDue t ch sub r b) ∨ (∃ t a n, c = .dramUncorrectable t a n)) ∧
     s.mem.wf = true ∧ exec c s = .next s' :=
  ⟨.dramCommandSlot 0 0 0 [wr1], open1, after (.dramCommandSlot 0 0 0 [wr1]) open1, (Or.inl ⟨0, 0, 0, [wr1], rfl⟩),
    by decide +kernel, (after_eq (by decide +kernel))⟩

theorem test_meets_MemoryErrors :
    (∃ (a : Nat) (s : State), s.dramAlive (spotOf s.comm a).ch = true ∧ a < 2 ^ 36) ∧
    (∃ (a : Nat) (s : State), s.dramAlive (spotOf s.comm a).ch = true ∧ a < 2 ^ 36 ∧ s.rankState (spotOf s.comm a).ch ≠ 1) ∧
    (∃ (a : Nat) (access : Nat) (s : State), s.dramAlive (spotOf s.comm a).ch = true ∧ a < 2 ^ 36 ∧
     s.rankState (spotOf s.comm a).ch = 1 ∧ access ≠ 5) ∧
    (∃ (a : Nat) (s : State), s.dramAlive (spotOf s.comm a).ch = true ∧ s.mem.poison.get false (lineBase a) = true) ∧
    (∃ (off : Nat) (s : State), s.sramOn off = true) ∧
    (∃ (off : Nat) (s : State), s.sramOn off = true ∧ sramRegion off ∈ [0, 2, 3, 4, 5, 8]) ∧
    (∃ (off : Nat) (s : State), s.sramOn off = true ∧ (sramRegion off = 6 ∨ sramRegion off = 7)) :=
  ⟨⟨0, dram1, by decide +kernel⟩,
   ⟨64, setL [(0x8010, 7, 2)] dram1, by decide +kernel⟩,
   ⟨64, 0, dram1, by decide +kernel⟩,
   ⟨64, { pipeOf (fun p => { p with slices := [slice0] }) dram1 with mem := { poison := [(64, true)] } }, by decide +kernel⟩,
   ⟨0x6FFFFFF, dram1, by decide +kernel⟩,
   ⟨0, dram1, by decide +kernel⟩,
   ⟨0x5800000, dram1, by decide +kernel⟩⟩

theorem test_meets_DramUpkeep_1 :
    (∃ (t : Nat) (ch : Fin 8) (sub : Fin 2) (s : State) (m : State), m = s.begin t ∧ s.dramAlive ch = true ∧
     (s.dramCh ch).scrubAt ≤ m.now ∧ s.pwr.sag = 0 ∧ sub.val = (s.dramCh ch).scrub / rankLines % 2 ∧
     (s.dramSub ch sub).stalled = [] ∧ (s.dramSub ch sub).reads.length < 128) ∧
    (∃ (ch : Fin 8) (s : State), s.dramIssues ch = true) ∧
    (∃ (ch : Fin 8) (s : State), s.sys.boot ≠ .off ∧ (s.dramCh ch).retraining = true) ∧
    (∃ (ch : Fin 8) (s : State), s.sys.boot ≠ .off ∧ (s.dramCh ch).retraining = true) ∧
    (∃ (ch : Fin 8) (s : State), s.dramAlive ch = true) :=
  ⟨⟨0, 0, 0, dram1, (dram1).begin 0, rfl, by decide +kernel⟩,
   ⟨0, dram1, by decide +kernel⟩,
   ⟨0, { dram1 with mem := { chans := [(0, { retraining := true })] } }, by decide +kernel⟩,
   ⟨0, { dram1 with mem := { chans := [(0, { retraining := true })] } }, by decide +kernel⟩,
   ⟨0, dram1, by decide +kernel⟩⟩

theorem test_meets_DramUpkeep_2 :
    (∃ (t : Nat) (ch : Fin 8) (sub : Fin 2) (s : State) (m : State), m = s.begin t ∧ s.dramIssues ch = true ∧
     (s.dramSub ch sub).refAt ≤ m.now ∧ (s.dramSub ch sub).owed ≤ 12 ∧
     ((s.dramSub ch sub).reads ++ (s.dramSub ch sub).writes).any (fun r => decide (r.req.cls < 2)) = true) ∧
    (∃ (t : Nat) (ch : Fin 8) (sub : Fin 2) (s : State) (m : State), m = s.begin t ∧ s.dramIssues ch = true ∧
     (s.dramSub ch sub).refAt ≤ m.now ∧ (s.dramSub ch sub).rows = [] ∧ 12 < (s.dramSub ch sub).owed ∧ s.cm 0x8000 2 = 1) ∧
    (∃ (ch : Fin 8) (sub : Fin 2) (rank : Fin 2) (bank : Fin 16) (s : State), s.dramIssues ch = true ∧
     Config.rfmThreshold ch sub ≤ (s.dramSub ch sub).acts.get 0 (16 * rank + bank)) ∧
    (∃ (ch : Fin 8) (s : State), s.sys.boot ≠ .off ∧ s.rankState ch = 2 ∧ rankLines ≤ (s.dramSub ch 0).copied ∧
     rankLines ≤ (s.dramSub ch 1).copied) :=
  ⟨⟨0, 0, 0, sub0 { owed := 12, reads := [⟨⟨0, 0, 0, none⟩, 0, 0, none⟩] } dram1,
    (sub0 { owed := 12, reads := [⟨⟨0, 0, 0, none⟩, 0, 0, none⟩] } dram1).begin 0, rfl, by decide +kernel⟩,
   ⟨0, 0, 0, sub0 { owed := 13 } (setC [(0x8000, 2, 1)] dram1), (sub0 { owed := 13 } (setC [(0x8000, 2, 1)] dram1)).begin 0, rfl,
    by decide +kernel⟩,
   ⟨0, 0, 0, 0, sub0 { acts := [(0, Config.rfmThreshold 0 0)] } dram1, by decide +kernel, (Nat.le_refl _)⟩,
   ⟨0, { setL [(0x8010, 7, 2)] dram1 with mem := { subs := [(0, { copied := rankLines }), (1, { copied := rankLines })] } },
    by decide +kernel⟩⟩

theorem test_meets_FaultsEndAndCheckersReport_1 :
    (∃ (s : State), s.sys.boot ≠ .off) ∧
    (∃ (t : Nat) (at_ : Nat) (dom : Fin 65536) (r : Recovery) (s : State) (m : State), m = s.begin t ∧ s.sys.boot ≠ .off ∧
     s.recoveryOf dom = some r ∧ r.quietEnd = some at_ ∧ at_ ≤ m.now ∧ r.host = false ∧ dom.val ≠ domModule ∧
     dom.val / 0x1000 ≠ 1 ∧ dom.val / 0x1000 ≠ 2 ∧ r.dom = dom) ∧
    (∃ (t : Nat) (at_ : Nat) (dom : Fin 65536) (r : Recovery) (s : State) (m : State), m = s.begin t ∧ s.sys.boot ≠ .off ∧
     s.recoveryOf dom = some r ∧ r.quietEnd = some at_ ∧ at_ ≤ m.now ∧ r.host = false ∧ dom.val = domModule ∧ r.dom = domModule ∧
     s.sys.mode = .damped ∧ s.sys.dampedFrom = .lit ∧ s.sys.stopInDamped = false) ∧
    (∃ (ws : List Nat) (s : State), s.sys.boot ≠ .off ∧ s.i3cLive = true ∧ s.dynAddr ≠ 0 ∧ s.gran.intOn = true ∧
     ws = s.flt.ibiWait.map (fun e => e.2 % 256) ++ (if s.gran.gaspIbi then [0x81] else []) ∧ ws ≠ []) ∧
    (∃ (s : State), s.sys.boot ≠ .off) ∧
    (∃ (s : State) (x : Crossing), s.domainRuns (crossingDomain x) = false) ∧
    (∃ (s : State) (b : Block), s.domainRuns (blockDomain b) = false) :=
  ⟨⟨{ lit1 with now := 9, flt := { present := [⟨src 1 0, 3, 2, some 9⟩, ⟨src 1 1, domModule, 2, none⟩] } }, by decide +kernel⟩,
   ⟨0, 0, 5, { dom := 5, cls := 1, cap := {}, quietEnd := some 0 },
    { lit1 with flt := { slots := [(0, some { dom := 5, cls := 1, cap := {}, quietEnd := some 0 })] } },
    ({ lit1 with flt := { slots := [(0, some { dom := 5, cls := 1, cap := {}, quietEnd := some 0 })] } }).begin 0, rfl,
    by decide +kernel⟩,
   ⟨0, 0, 0xF000, { dom := 0xF000, cls := 4, cap := {}, quietEnd := some 0 },
    { lit1 with sys := { lit1.sys with mode := .damped, dampedFrom := .lit }, flt := { module := some { dom := 0xF000, cls := 4, cap := {}, quietEnd := some 0 } } },
    ({ lit1 with sys := { lit1.sys with mode := .damped, dampedFrom := .lit }, flt := { module := some { dom := 0xF000, cls := 4, cap := {}, quietEnd := some 0 } } }).begin 0,
    rfl, by decide +kernel⟩,
   ⟨[0x83], { bus 9 .lit with flt := { ibiWait := [(3, 0x83)] } }, by decide +kernel⟩,
   ⟨bus 9 .lit, by decide +kernel⟩,
   ⟨on .banked, .eth 0, by decide +kernel⟩,
   ⟨on .banked, .shaper, by decide +kernel⟩⟩

theorem test_meets_FaultsEndAndCheckersReport_2 :
    (∃ (s : State) (n : Fin 2), s.domainRuns (crossingDomain (.eth n)) = true) ∧
    (∃ (s : State) (p : Fin 3), s.domainRuns (crossingDomain (.flue p)) = true) ∧
    (∃ (s : State) (p : Fin 2), s.domainRuns (crossingDomain (.hdmi p)) = true) ∧
    (∃ (s : State), s.domainRuns (crossingDomain .i3c) = true) ∧
    (∃ (s : State) (p : Fin 8), s.domainRuns (crossingDomain (.i2s p)) = true) ∧
    (∃ (s : State), s.domainRuns (crossingDomain .refPps) = true) ∧
    (∃ (s : State) (st : Fin 2), s.domainRuns (blockDomain (.rateCouncil st)) = true) :=
  ⟨⟨setC [(0x6001, 1, 1)] lit1, 1, by decide +kernel⟩,
   ⟨lit1, 2, by decide +kernel⟩,
   ⟨setC [(0x2001, 1, 1)] lit1, 1, by decide +kernel⟩,
   ⟨lit1, by decide +kernel⟩,
   ⟨setC [(0x7103, 1, 1)] lit1, 3, by decide +kernel⟩,
   ⟨lit1, by decide +kernel⟩,
   ⟨lit1, 0, by decide +kernel⟩⟩

theorem test_meets_FaultsEndAndCheckersReport_3 :
    (∃ (s : State) (st : Fin 2), s.domainRuns (blockDomain (.dieBridge st)) = true) ∧
    (∃ (s : State) (st : Fin 2), s.domainRuns (blockDomain (.standInBuilder st)) = true) ∧
    (∃ (s : State), s.domainRuns (blockDomain .shaper) = true) ∧
    (∃ (s : State), s.domainRuns (blockDomain .audio) = true) ∧
    (∃ (s : State) (n : Fin 2), s.domainRuns (blockDomain (.housekeeping n)) = true) ∧
    (∃ (s : State), s.domainRuns (blockDomain .tables) = true) ∧
    (∃ (s : State), s.domainRuns (blockDomain .collector) = true) :=
  ⟨⟨lit1, 1, by decide +kernel⟩,
   ⟨lit1, 1, by decide +kernel⟩,
   ⟨lit1, by decide +kernel⟩,
   ⟨setC [(0x7110, 1, 1)] lit1, by decide +kernel⟩,
   ⟨lit1, 1, by decide +kernel⟩,
   ⟨lit1, by decide +kernel⟩,
   ⟨lit1, by decide +kernel⟩⟩

theorem test_meets_KeysLedsAndTouch_1 :
    (∃ (k : Fin 8) (s : State), s.operOn = true ∧ (s.oper.keys.get {} k).pressed = none) ∧
    (∃ (at_ : Nat) (k : Fin 8) (s : State), s.operOn = true ∧ (s.oper.keys.get {} k).pressed = some at_ ∧
     (s.oper.keys.get {} k).long = false) ∧
    (∃ (t : Nat) (at_ : Nat) (k : Fin 8) (s : State) (m : State), m = s.begin t ∧ s.operOn = true ∧
     (s.oper.keys.get {} k).pressed = some at_ ∧ (s.oper.keys.get {} k).long = false ∧ at_ + tuMs (s.lv 0xB000 3) ≤ m.now ∧
     (s.lv 0xB000 1).testBit k = true) ∧
    (∃ (t : Nat) (on : Nat) (off : Nat) (n : Fin 4) (b : Bool) (at_ : Nat) (s : State) (m : State), m = s.begin t ∧
     s.running = true ∧ s.ledPhases n = some (on, off) ∧ on ≠ 0 ∧ off ≠ 0 ∧ s.oper.leds.get (true, 0) n = (b, at_) ∧
     at_ + (if b then on else off) ≤ m.now) ∧
    (∃ (s : State), s.running = true ∧ s.lv 0xB002 9 = 2 ∧ s.cm 0xB002 5 = 0) ∧
    (∃ (s : State), s.running = true ∧ s.lv 0xB002 9 = 2 ∧ s.cm 0xB002 5 = 0) ∧
    (∃ (t : Nat) (s : State) (m : State), m = s.begin t ∧ s.running = true ∧ s.lv 0xB002 9 = 2 ∧ s.cm 0xB002 5 ≠ 0 ∧
     s.oper.polledAt + tuMs (s.cm 0xB002 5) ≤ m.now) ∧
    (∃ (s : State), s.running = true ∧ s.lv 0xB002 9 = 2 ∧ s.cm 0xB002 5 ≠ 0) :=
  ⟨⟨7, lit1, by decide +kernel⟩,
   ⟨0, 2, setL [(0xB000, 1, 4)] { lit1 with oper := { keys := [(2, { pressed := some 0 })] } }, by decide +kernel⟩,
   ⟨0, 0, 2, setL [(0xB000, 1, 4)] { lit1 with now := tuSec 10, oper := { keys := [(2, { pressed := some 0 })] } },
    (setL [(0xB000, 1, 4)] { lit1 with now := tuSec 10, oper := { keys := [(2, { pressed := some 0 })] } }).begin 0, rfl,
    by decide +kernel⟩,
   ⟨0, tuMs 500, tuMs 500, 1, true, 0, setL [(0xB009, 1, 2)] { on .laid with now := tuMs 500 },
    (setL [(0xB009, 1, 2)] { on .laid with now := tuMs 500 }).begin 0, rfl, by decide +kernel⟩,
   ⟨panel {} 2, by decide +kernel⟩,
   ⟨panel {} 2, by decide +kernel⟩,
   ⟨(tuMs 10), setC [(0xB002, 5, 10)] (panel {} 2), (setC [(0xB002, 5, 10)] (panel {} 2)).begin (tuMs 10), rfl, by decide +kernel⟩,
   ⟨setC [(0xB002, 5, 10)] (panel {} 2), by decide +kernel⟩⟩

theorem test_meets_KeysLedsAndTouch_2 :
    (∃ (s : State), s.sys.boot ≠ .off ∧ s.oper.reading = true ∧ s.lv 0xB002 9 = 2) ∧
    (∃ (s : State), s.sys.boot ≠ .off ∧ s.oper.reading = true ∧ s.lv 0xB002 9 = 2 ∧ s.oper.fails < 2) ∧
    (∃ (s : State) (d : TouchDev) (len : Nat) (p : TouchPoint), s.sys.boot ≠ .off ∧ s.oper.reading = true ∧ s.lv 0xB002 9 = 2 ∧
     s.oper.dev = some d ∧ len ≤ d.maxLen ∧ s.oper.contacts = [] ∧ p.tip = true) ∧
    (∃ (t : Nat) (c : Nat) (z : Nat) (k : Contact) (b : List Byte) (s : State) (m : State), m = s.begin t ∧ s.sys.boot ≠ .off ∧
     s.oper.contacts.find? (fun k => decide (k.id = c)) = some k ∧ k.zone = some (z, b) ∧ zoneTrigger b % 4 = 1 ∧
     k.inside = true ∧ k.fired = false ∧ k.downAt + tuMs (s.lv 0xB000 3) ≤ m.now ∧ s.cm 0xB002 6 < 16) ∧
    (∃ (t : Nat) (s : State) (m : State), m = s.begin t ∧ s.running = true ∧ s.lv 0xB002 9 = 3 ∧ s.oper.retryAt ≤ m.now ∧
     s.cm 0xB002 1 ≠ 0) ∧
    (∃ (t : Nat) (s : State) (m : State) (d : TouchDev), m = s.begin t ∧ s.running = true ∧ s.lv 0xB002 9 = 3 ∧
     s.oper.retryAt ≤ m.now ∧ s.cm 0xB002 1 ≠ 0 ∧ d.supported = true) ∧
    (∃ (t : Nat) (s : State) (m : State) (d : TouchDev), m = s.begin t ∧ s.running = true ∧ s.lv 0xB002 9 = 3 ∧
     s.oper.retryAt ≤ m.now ∧ s.cm 0xB002 1 ≠ 0 ∧ d.supported = false) :=
  ⟨⟨panel { reading := true } 2, by decide +kernel⟩,
   ⟨panel { reading := true, fails := 1 } 2, by decide +kernel⟩,
   ⟨panel { reading := true, dev := some dev1 } 2, dev1, 64, ⟨3, true, 2048, 1024⟩, by decide +kernel⟩,
   ⟨0, 3, 0, ⟨3, 5, 6, some (0, zone1), 0, true, false⟩, zone1,
    { panel { contacts := [⟨3, 5, 6, some (0, zone1), 0, true, false⟩] } 2 with now := tuSec 10 },
    ({ panel { contacts := [⟨3, 5, 6, some (0, zone1), 0, true, false⟩] } 2 with now := tuSec 10 }).begin 0, rfl,
    by decide +kernel⟩,
   ⟨0, setC [(0xB002, 1, 1)] (panel {} 3), (setC [(0xB002, 1, 1)] (panel {} 3)).begin 0, rfl, by decide +kernel⟩,
   ⟨0, setC [(0xB002, 1, 1)] (panel {} 3), (setC [(0xB002, 1, 1)] (panel {} 3)).begin 0, dev1, rfl, by decide +kernel⟩,
   ⟨0, setC [(0xB002, 1, 1)] (panel {} 3), (setC [(0xB002, 1, 1)] (panel {} 3)).begin 0, { dev1 with supported := false }, rfl,
    by decide +kernel⟩⟩

theorem test_meets_I3cTarget_1 :
    (∃ (s : State) (a : Fin 128), s.i3cLive = true ∧ s.dynAddr = 0 ∧ 0x08 ≤ a.val ∧ a.val ≤ 0x7D) ∧
    (∃ (s : State), s.i3cLive = true ∧ s.dynAddr ≠ 0) ∧
    (∃ (s : State), s.i3cLive = true) ∧
    (∃ (s : State), s.i3cLive = true) ∧
    (∃ (s : State), s.i3cLive = true) ∧
    (∃ (s : State) (n : Nat), s.i3cLive = true ∧ 16 ≤ n ∧ n ≤ 4110) ∧
    (∃ (s : State) (n : Nat), s.i3cLive = true ∧ (n < 16 ∨ 4110 < n)) :=
  ⟨⟨bus 0 .lit, 0x7D, by decide +kernel⟩,
   ⟨bus 9 .lit, by decide +kernel⟩,
   ⟨bus 9 .lit, by decide +kernel⟩,
   ⟨bus 9 .lit, by decide +kernel⟩,
   ⟨bus 9 .lit, by decide +kernel⟩,
   ⟨bus 9 .lit, 4110, by decide +kernel⟩,
   ⟨bus 9 .lit, 15, by decide +kernel⟩⟩

theorem test_meets_I3cTarget_2 :
    (∃ (s : State) (n : Nat), s.i3cLive = true ∧ 16 ≤ n ∧ n ≤ 4110) ∧
    (∃ (s : State), s.i3cLive = true) ∧
    (∃ (s : State), s.i3cLive = true) ∧
    (∃ (s : State) (a : Fin 128), s.i3cLive = true ∧ s.dynAddr ≠ 0 ∧ 0x08 ≤ a.val ∧ a.val ≤ 0x7D) ∧
    (∃ (s : State), s.i3cLive = true ∧ s.dynAddr ≠ 0) ∧
    (∃ (s : State), s.i3cLive = true ∧ s.dynAddr ≠ 0) ∧
    (∃ (s : State), s.i3cLive = true ∧ s.dynAddr ≠ 0) :=
  ⟨⟨bus 9 .lit, 16, by decide +kernel⟩,
   ⟨bus 9 .lit, by decide +kernel⟩,
   ⟨bus 9 .lit, by decide +kernel⟩,
   ⟨bus 9 .lit, 8, by decide +kernel⟩,
   ⟨bus 9 .lit, by decide +kernel⟩,
   ⟨bus 9 .lit, by decide +kernel⟩,
   ⟨bus 9 .lit, by decide +kernel⟩⟩

theorem test_meets_I3cTarget_3 :
    (∃ (s : State), s.i3cLive = true ∧ s.dynAddr ≠ 0) ∧
    (∃ (s : State), s.i3cLive = true ∧ s.dynAddr ≠ 0) ∧
    (∃ (s : State), s.i3cLive = true ∧ s.dynAddr ≠ 0) ∧
    (∃ (s : State), s.i3cLive = true ∧ s.dynAddr ≠ 0) ∧
    (∃ (s : State) (b : List Byte), s.i3cLive = true ∧ s.dynAddr ≠ 0 ∧ s.gran.resp = some b) ∧
    (∃ (s : State), s.i3cLive = true ∧ s.dynAddr ≠ 0 ∧ s.gran.resp = none) ∧
    (∃ (s : State) (b : List Byte), s.i3cLive = true ∧ s.dynAddr ≠ 0 ∧ s.gran.hdr = true ∧ s.gran.resp = some b) :=
  ⟨⟨bus 9 .lit, by decide +kernel⟩,
   ⟨bus 9 .lit, by decide +kernel⟩,
   ⟨bus 9 .lit, by decide +kernel⟩,
   ⟨bus 9 .lit, by decide +kernel⟩,
   ⟨(bus 9 .lit).updGran (fun g => { g with resp := some [1, 2, 3] }), [1, 2, 3], by decide +kernel⟩,
   ⟨bus 9 .lit, by decide +kernel⟩,
   ⟨(bus 9 .lit).updGran (fun g => { g with hdr := true, resp := some [1, 2, 3] }), [1, 2, 3], by decide +kernel⟩⟩

theorem test_meets_I3cTarget_4 :
    (∃ (s : State), s.i3cLive = true ∧ s.dynAddr ≠ 0 ∧ s.gran.hdr = true) ∧
    (∃ (s : State), s.isUp = true ∧ s.sys.mode = .banked ∧ s.dynAddr ≠ 0 ∧ s.sys.rstLow = false) ∧
    (∃ (s : State), s.isUp = true ∧ s.sys.mode = .banked ∧ s.dynAddr ≠ 0 ∧ s.sys.rstLow = false) ∧
    (∃ (t : Nat) (s : State) (m : State), m = s.begin t ∧ s.i3cLive = true ∧ s.dynAddr = 0 ∧ s.lv 0x1110 5 = 1 ∧
     s.gran.hjOn = true ∧ s.gran.hotJoinAt ≤ m.now) :=
  ⟨⟨(bus 9 .lit).updGran (fun g => { g with hdr := true }), by decide +kernel⟩,
   ⟨bus 9 .banked, by decide +kernel⟩,
   ⟨bus 9 .banked, by decide +kernel⟩,
   ⟨0, setL [(0x1110, 5, 1)] (bus 0 .lit), (setL [(0x1110, 5, 1)] (bus 0 .lit)).begin 0, rfl, by decide +kernel⟩⟩

theorem test_meets_SessionsTimeOut :
    (∃ (t : Nat) (p : Path) (s : State) (m : State), m = s.begin t ∧ s.sys.boot ≠ .off ∧ m.overdue (s.sess (whoOf p)) = true) ∧
    (∃ (s : State), s.isUp = true) ∧
    (∃ (t : Nat) (u : Nat) (p : Path) (s : State) (m : State), m = s.begin t ∧ s.sys.boot ≠ .off ∧
     (s.sess (whoOf p)).lockUntil = some u ∧ u ≤ m.now) ∧
    (∃ (t : Nat) (n : Nat) (p : Path) (x : Sess) (s : State) (m : State), m = s.begin t ∧ s.sys.boot ≠ .off ∧
     s.findSess (whoOf p) = some x ∧ m.idleLimit (whoOf p) = some n ∧ x.seen + n ≤ m.now) ∧
    (∃ (t : Nat) (p : Fin 3) (f : FlueFrame) (e : Fwd) (s : State) (m : State), m = s.begin t ∧ s.serving = true ∧
     s.linkUp p = true ∧ f.typ = 0x40 ∧ wholeAnswer (f.pay.map (BitVec.ofNat 8)) = true ∧ (s.isMine f = true ∨ f.dest = 0xFFFE) ∧
     m.fwdOf p f.src (f.pay.map (BitVec.ofNat 8)) = some e) ∧
    (∃ (s : State), s.isUp = true ∧ s.lv 0x1F11 1 = 2) :=
  ⟨⟨0, .i3c,
    { (bus 9 .lit).updGran (fun g => { g with sessions := [{ who := .i3c, level := 2, xfer := some { key := 0x100001, write := true, total := 4, data := [], next := 0, last := 0 } }] }) with now := tuSec 100 },
    ({ (bus 9 .lit).updGran (fun g => { g with sessions := [{ who := .i3c, level := 2, xfer := some { key := 0x100001, write := true, total := 4, data := [], next := 0, last := 0 } }] }) with now := tuSec 100 }).begin 0,
    rfl, by decide +kernel⟩,
   ⟨{ (bus 9 .lit).updGran (fun g => { g with fwd := [fwd1] }) with now := tuSec 100 }, by decide +kernel⟩,
   ⟨0, 5, .i3c, { (bus 9 .lit).updGran (fun g => { g with sessions := [{ who := .i3c, lockUntil := some 5 }] }) with now := 5 },
    ({ (bus 9 .lit).updGran (fun g => { g with sessions := [{ who := .i3c, lockUntil := some 5 }] }) with now := 5 }).begin 0,
    rfl, by decide +kernel⟩,
   ⟨0, tuSec 10, .flue 1 2 3, { who := .flue 2 3 },
    { (bus 9 .lit).updGran (fun g => { g with sessions := [{ who := .flue 2 3 }] }) with now := tuSec 10 },
    ({ (bus 9 .lit).updGran (fun g => { g with sessions := [{ who := .flue 2 3 }] }) with now := tuSec 10 }).begin 0, rfl,
    by decide +kernel⟩,
   ⟨0, 1, { fr 1 0x40 (ansFrame.map BitVec.toNat) with src := 3 }, fwd1, (flued lit1).updGran (fun g => { g with fwd := [fwd1] }),
    ((flued lit1).updGran (fun g => { g with fwd := [fwd1] })).begin 0, rfl, by decide +kernel⟩,
   ⟨setL [(0x1F11, 1, 2)] (on .kindling), by decide +kernel⟩⟩

theorem test_meets_TestPort :
    (∃ (s : State), s.isUp = true) ∧
    (∃ (s : State), s.sys.boot = .off) ∧
    (∃ (s : State), s.tapLive = true) ∧
    (∃ (s : State), s.tapLive = true) ∧
    (∃ (s : State), s.tapLive = true) ∧
    (∃ (s : State), s.sys.boot ≠ .off ∧ s.sys.testRstHigh = false) ∧
    (∃ (s : State), s.sys.boot ≠ .off ∧ s.sys.testRstHigh = false) ∧
    (∃ (s : State), s.sys.boot ≠ .off ∧ s.sys.testRstHigh = false) :=
  ⟨⟨on .laid, by decide +kernel⟩,
   ⟨State.reset, by decide +kernel⟩,
   ⟨port1 (on .kindling), by decide +kernel⟩,
   ⟨port1 (on .kindling), by decide +kernel⟩,
   ⟨talk 3 (port1 (on .kindling)), by decide +kernel⟩,
   ⟨on .laid, by decide +kernel⟩,
   ⟨on .laid, by decide +kernel⟩,
   ⟨on .laid, by decide +kernel⟩⟩

theorem test_meets_RequestsRefusedByStep_1 :
    (∃ (c : Instr) (t : Nat) (op : Nat) (idx : Nat) (sub : Nat) (r : Req) (s : State), Asks c t op idx sub r ∧ s.sys.boot ≠ .off ∧
     s.serving = false) ∧
    (∃ (c : Instr) (t : Nat) (op : Nat) (idx : Nat) (sub : Nat) (r : Req) (s : State), Asks c t op idx sub r ∧ s.sys.boot ≠ .off ∧
     s.serving = true ∧ s.pathServes r.path = true ∧ s.foreign r = false ∧ s.allowed r.path = false) ∧
    (∃ (c : Instr) (t : Nat) (op : Nat) (idx : Nat) (sub : Nat) (r : Req) (s : State), Asks c t op idx sub r ∧ s.sys.boot ≠ .off ∧
     Hears s r ∧ s.frameOk op idx sub r = false) ∧
    (∃ (c : Instr) (t : Nat) (op : Nat) (idx : Nat) (sub : Nat) (r : Req) (s : State) (m : State) (e : State) (x : Sess), Asks c t op idx sub r ∧
     m = s.begin t ∧ s.sys.boot ≠ .off ∧ Hears s r ∧ s.frameOk op idx sub r = true ∧ e = m.found r ∧ (m.letIn r).2 = true ∧
     x = e.sess (whoOf r.path) ∧ x.lastReq = some (r.seq, r.crc) ∧ (∀ q, r.route = some q → q.dest ≠ 0xFFFF)) ∧
    (∃ (c : Instr) (t : Nat) (op : Nat) (idx : Nat) (sub : Nat) (r : Req) (e : State) (x : Sess) (s : State) (m : State), Asks c t op idx sub r ∧
     m = s.begin t ∧ Heard m op idx sub r e x ∧ nameCode idx sub ≠ 0) ∧
    (∃ (c : Instr) (t : Nat) (op : Nat) (idx : Nat) (sub : Nat) (r : Req) (e : State) (x : Sess) (s : State) (m : State), Asks c t op idx sub r ∧
     m = s.begin t ∧ Heard m op idx sub r e x ∧ nameCode idx sub = 0 ∧ op = 0x20 ∧ mayWrite idx sub x.level = false) :=
  ⟨⟨.granilRead 0 (ask 0x10 0x1000 1 0 []) 0x1000 1, 0, 0x10, 0x1000, 1, ask 0x10 0x1000 1 0 [],
    hosted 2 { lit1 with sys := { lit1.sys with banking := true } }, by constructor, by decide +kernel⟩,
   ⟨.granilRead 0 (askOn (.mgmt 0 1 2 3) 0x10 0x1000 1 0 []) 0x1000 1, 0, 0x10, 0x1000, 1,
    askOn (.mgmt 0 1 2 3) 0x10 0x1000 1 0 [], setC [(0x1120, 1, 1), (0x1120, 3, 1), (0x1120, 4, 0x200A000000)] eth1,
    by constructor, by decide +kernel⟩,
   ⟨.granilRead 0 { ask 0x10 0x1000 1 0 [] with crc := 0 } 0x1000 1, 0, 0x10, 0x1000, 1, { ask 0x10 0x1000 1 0 [] with crc := 0 },
    hosted 2 lit1, by constructor, by decide +kernel, (hears_of (by decide +kernel)), by decide +kernel⟩,
   ⟨.granilRead 0 (ask 0x10 0x1000 1 0 []) 0x1000 1, 0, 0x10, 0x1000, 1, ask 0x10 0x1000 1 0 [],
    (hosted 2 lit1).updGran (fun g => { g with sessions := [{ who := .i3c, level := 2, lastReq := some (1, (ask 0x10 0x1000 1 0 []).crc), lastResp := [1, 2] }] }),
    ((hosted 2 lit1).updGran (fun g => { g with sessions := [{ who := .i3c, level := 2, lastReq := some (1, (ask 0x10 0x1000 1 0 []).crc), lastResp := [1, 2] }] })).begin 0,
    (((hosted 2 lit1).updGran (fun g => { g with sessions := [{ who := .i3c, level := 2, lastReq := some (1, (ask 0x10 0x1000 1 0 []).crc), lastResp := [1, 2] }] })).begin 0).found (ask 0x10 0x1000 1 0 []),
    ((((hosted 2 lit1).updGran (fun g => { g with sessions := [{ who := .i3c, level := 2, lastReq := some (1, (ask 0x10 0x1000 1 0 []).crc), lastResp := [1, 2] }] })).begin 0).found (ask 0x10 0x1000 1 0 [])).sess (whoOf (ask 0x10 0x1000 1 0 []).path),
    by constructor, rfl, by decide +kernel, (hears_of (by decide +kernel)), by decide +kernel, rfl, by decide +kernel, rfl,
    by decide +kernel, (fun _ h => nomatch h)⟩,
   ⟨.granilRead 0 (ask 0x10 0x1000 0xFF 0 []) 0x1000 0xFF, 0, 0x10, 0x1000, 0xFF, ask 0x10 0x1000 0xFF 0 [],
    ((hosted 2 lit1).begin 0).found (ask 0x10 0x1000 0xFF 0 []),
    (((hosted 2 lit1).begin 0).found (ask 0x10 0x1000 0xFF 0 [])).sess (whoOf (ask 0x10 0x1000 0xFF 0 []).path), hosted 2 lit1,
    (hosted 2 lit1).begin 0, by constructor, rfl,
    (heard_ask (by decide +kernel) (by decide +kernel) (by decide +kernel) (by decide +kernel)), by decide +kernel⟩,
   ⟨.granilWrite 0 (ask 0x20 0x1000 1 0 [1]) 0x20 0x1000 1, 0, 0x20, 0x1000, 1, ask 0x20 0x1000 1 0 [1],
    ((hosted 2 lit1).begin 0).found (ask 0x20 0x1000 1 0 [1]),
    (((hosted 2 lit1).begin 0).found (ask 0x20 0x1000 1 0 [1])).sess (whoOf (ask 0x20 0x1000 1 0 [1]).path), hosted 2 lit1,
    (hosted 2 lit1).begin 0, by constructor, rfl,
    (heard_ask (by decide +kernel) (by decide +kernel) (by decide +kernel) (by decide +kernel)), by decide +kernel⟩⟩

theorem test_meets_RequestsRefusedByStep_2 :
    (∃ (c : Instr) (t : Nat) (op : Nat) (idx : Nat) (sub : Nat) (r : Req) (e : State) (x : Sess) (s : State) (m : State), Asks c t op idx sub r ∧
     m = s.begin t ∧ Heard m op idx sub r e x ∧ nameCode idx sub = 0 ∧ op = 0x20 ∧ mayWrite idx sub x.level = true ∧
     r.len ≤ 4096 ∧ (objRow idx sub).sizeOk r.data.length = false) ∧
    (∃ (c : Instr) (t : Nat) (op : Nat) (idx : Nat) (sub : Nat) (r : Req) (e : State) (x : Sess) (s : State) (m : State), Asks c t op idx sub r ∧
     m = s.begin t ∧ Heard m op idx sub r e x ∧ nameCode idx sub = 0 ∧ op = 0x20 ∧ mayWrite idx sub x.level = true ∧
     r.len ≤ 4096 ∧ (objRow idx sub).sizeOk r.data.length = true ∧ e.writeGate (objRow idx sub) idx sub ≠ 0) ∧
    (∃ (c : Instr) (t : Nat) (op : Nat) (idx : Nat) (sub : Nat) (r : Req) (e : State) (x : Sess) (s : State) (m : State), Asks c t op idx sub r ∧
     m = s.begin t ∧ Heard m op idx sub r e x ∧ nameCode idx sub = 0 ∧ op = 0x10 ∧ mayRead idx sub x.level = false) ∧
    (∃ (c : Instr) (t : Nat) (op : Nat) (idx : Nat) (sub : Nat) (r : Req) (e : State) (x : Sess) (s : State) (m : State), Asks c t op idx sub r ∧
     m = s.begin t ∧ Heard m op idx sub r e x ∧ nameCode idx sub = 0 ∧ op = 0x10 ∧ mayRead idx sub x.level = true ∧ r.len ≤ 4096 ∧
     (e.readBytes x idx sub (r.flags.testBit 1)).length ≤ e.respLimit r.path ∧ r.data ≠ []) ∧
    (∃ (c : Instr) (t : Nat) (op : Nat) (idx : Nat) (sub : Nat) (r : Req) (e : State) (x : Sess) (s : State) (m : State), Asks c t op idx sub r ∧
     m = s.begin t ∧ Heard m op idx sub r e x ∧ nameCode idx sub = 0 ∧ op = 0x10 ∧ mayRead idx sub x.level = true ∧ r.len ≤ 4096 ∧
     (e.readBytes x idx sub (r.flags.testBit 1)).length ≤ e.respLimit r.path ∧ r.data = [] ∧ e.served idx sub false = false) :=
  ⟨⟨.granilWrite 0 (ask 0x20 0x4000 3 0 [1]) 0x20 0x4000 3, 0, 0x20, 0x4000, 3, ask 0x20 0x4000 3 0 [1],
    ((hosted 2 lit1).begin 0).found (ask 0x20 0x4000 3 0 [1]),
    (((hosted 2 lit1).begin 0).found (ask 0x20 0x4000 3 0 [1])).sess (whoOf (ask 0x20 0x4000 3 0 [1]).path), hosted 2 lit1,
    (hosted 2 lit1).begin 0, by constructor, rfl,
    (heard_ask (by decide +kernel) (by decide +kernel) (by decide +kernel) (by decide +kernel)), by decide +kernel⟩,
   ⟨.granilWrite 0 (ask 0x20 0x4000 3 0 [1, 0]) 0x20 0x4000 3, 0, 0x20, 0x4000, 3, ask 0x20 0x4000 3 0 [1, 0],
    ((hosted 2 { lit1 with sys := { lit1.sys with validating := some (0, []) } }).begin 0).found (ask 0x20 0x4000 3 0 [1, 0]),
    (((hosted 2 { lit1 with sys := { lit1.sys with validating := some (0, []) } }).begin 0).found (ask 0x20 0x4000 3 0 [1, 0])).sess (whoOf (ask 0x20 0x4000 3 0 [1, 0]).path),
    hosted 2 { lit1 with sys := { lit1.sys with validating := some (0, []) } },
    (hosted 2 { lit1 with sys := { lit1.sys with validating := some (0, []) } }).begin 0, by constructor, rfl,
    (heard_ask (by decide +kernel) (by decide +kernel) (by decide +kernel) (by decide +kernel)), by decide +kernel⟩,
   ⟨.granilRead 0 (ask 0x10 0xF000 2 0 []) 0xF000 2, 0, 0x10, 0xF000, 2, ask 0x10 0xF000 2 0 [],
    ((hosted 0 lit1).begin 0).found (ask 0x10 0xF000 2 0 []),
    (((hosted 0 lit1).begin 0).found (ask 0x10 0xF000 2 0 [])).sess (whoOf (ask 0x10 0xF000 2 0 []).path), hosted 0 lit1,
    (hosted 0 lit1).begin 0, by constructor, rfl,
    (heard_ask (by decide +kernel) (by decide +kernel) (by decide +kernel) (by decide +kernel)), by decide +kernel⟩,
   ⟨.granilRead 0 (ask 0x10 0x1001 1 0 [1]) 0x1001 1, 0, 0x10, 0x1001, 1, ask 0x10 0x1001 1 0 [1],
    ((hosted 2 lit1).begin 0).found (ask 0x10 0x1001 1 0 [1]),
    (((hosted 2 lit1).begin 0).found (ask 0x10 0x1001 1 0 [1])).sess (whoOf (ask 0x10 0x1001 1 0 [1]).path), hosted 2 lit1,
    (hosted 2 lit1).begin 0, by constructor, rfl,
    (heard_ask (by decide +kernel) (by decide +kernel) (by decide +kernel) (by decide +kernel)), by decide +kernel⟩,
   ⟨.granilRead 0 (ask 0x10 0x4000 3 0 []) 0x4000 3, 0, 0x10, 0x4000, 3, ask 0x10 0x4000 3 0 [],
    ((hosted 2 { lit1 with sys := { lit1.sys with fwRuns := false } }).begin 0).found (ask 0x10 0x4000 3 0 []),
    (((hosted 2 { lit1 with sys := { lit1.sys with fwRuns := false } }).begin 0).found (ask 0x10 0x4000 3 0 [])).sess (whoOf (ask 0x10 0x4000 3 0 []).path),
    hosted 2 { lit1 with sys := { lit1.sys with fwRuns := false } },
    (hosted 2 { lit1 with sys := { lit1.sys with fwRuns := false } }).begin 0, by constructor, rfl,
    (heard_ask (by decide +kernel) (by decide +kernel) (by decide +kernel) (by decide +kernel)), by decide +kernel⟩⟩

theorem test_meets_ReadsAndWrites :
    (∃ (t : Nat) (idx : Nat) (sub : Nat) (r : Req) (e : State) (x : Sess) (s : State) (m : State), m = s.begin t ∧
     Reads m idx sub r e x) ∧
    (∃ (t : Nat) (idx : Nat) (sub : Nat) (r : Req) (e : State) (x : Sess) (s : State) (m : State) (v : Val), m = s.begin t ∧
     Writes m idx sub r e x v ∧ e.effectSpecial x.who idx sub v = none ∧ (objRow idx sub).acc = .rs) ∧
    (∃ (t : Nat) (idx : Nat) (sub : Nat) (r : Req) (e : State) (x : Sess) (s : State) (m : State) (v : Val), m = s.begin t ∧
     Writes m idx sub r e x v ∧ e.effectSpecial x.who idx sub v = none ∧ (objRow idx sub).acc = .rw ∧
     (r.path = .i3c ∨ r.path = .ddr) ∧ (∀ c : Fin 16, m.atFrames c = true → waitsFor c (key idx sub) true = false) ∧
     (∀ p : Fin 2, idx = 0x2000 + p → (m.hdmi p).locked = false)) ∧
    (∃ (t : Nat) (idx : Nat) (sub : Nat) (r : Req) (e : State) (x : Sess) (s : State) (m : State) (v : Val), m = s.begin t ∧
     Writes m idx sub r e x v ∧ e.effectSpecial x.who idx sub v = none ∧ (objRow idx sub).acc = .rw ∧
     (r.path = .i3c ∨ r.path = .ddr) ∧
     ((∃ c : Fin 16, m.atFrames c = true ∧ waitsFor c (key idx sub) true = true) ∨ (∃ p : Fin 2, idx = 0x2000 + p ∧ (m.hdmi p).locked = true))) :=
  ⟨⟨0, 0x1001, 1, ask 0x10 0x1001 1 0 [], ((hosted 2 lit1).begin 0).found (ask 0x10 0x1001 1 0 []),
    (((hosted 2 lit1).begin 0).found (ask 0x10 0x1001 1 0 [])).sess (whoOf (ask 0x10 0x1001 1 0 []).path), hosted 2 lit1,
    (hosted 2 lit1).begin 0, rfl,
    (reads_of (heard_ask (by decide +kernel) (by decide +kernel) (by decide +kernel) (by decide +kernel)) (by decide +kernel))⟩,
   ⟨0, 0x4000, 3, ask 0x20 0x4000 3 0 [128, 7], ((hosted 2 lit1).begin 0).found (ask 0x20 0x4000 3 0 [128, 7]),
    (((hosted 2 lit1).begin 0).found (ask 0x20 0x4000 3 0 [128, 7])).sess (whoOf (ask 0x20 0x4000 3 0 [128, 7]).path),
    hosted 2 lit1, (hosted 2 lit1).begin 0, .n 1920, rfl,
    (writes_of (heard_ask (by decide +kernel) (by decide +kernel) (by decide +kernel) (by decide +kernel)) (by decide +kernel)),
    by decide +kernel⟩,
   ⟨0, 0xB000, 3, ask 0x20 0xB000 3 0 [88, 2], ((hosted 2 lit1).begin 0).found (ask 0x20 0xB000 3 0 [88, 2]),
    (((hosted 2 lit1).begin 0).found (ask 0x20 0xB000 3 0 [88, 2])).sess (whoOf (ask 0x20 0xB000 3 0 [88, 2]).path),
    hosted 2 lit1, (hosted 2 lit1).begin 0, .n 600, rfl,
    (writes_of (heard_ask (by decide +kernel) (by decide +kernel) (by decide +kernel) (by decide +kernel)) (by decide +kernel)),
    by decide +kernel⟩,
   ⟨0, 0x3100, 0xD, ask 0x20 0x3100 0xD 0 [0], ((hosted 2 lit1).begin 0).found (ask 0x20 0x3100 0xD 0 [0]),
    (((hosted 2 lit1).begin 0).found (ask 0x20 0x3100 0xD 0 [0])).sess (whoOf (ask 0x20 0x3100 0xD 0 [0]).path), hosted 2 lit1,
    (hosted 2 lit1).begin 0, .n 0, rfl,
    (writes_of (heard_ask (by decide +kernel) (by decide +kernel) (by decide +kernel) (by decide +kernel)) (by decide +kernel)),
    by decide +kernel⟩⟩

theorem test_meets_CounterWritesClear :
    (∃ (t : Nat) (idx : Nat) (sub : Nat) (r : Req) (e : State) (x : Sess) (v : Val) (s : State) (m : State), m = s.begin t ∧
     (r.path = .i3c ∨ r.path = .ddr) ∧ Heard m 0x20 idx sub r e x ∧ nameCode idx sub = 0 ∧ mayWrite idx sub x.level = true ∧
     r.len ≤ 4096 ∧ (objRow idx sub).sizeOk r.data.length = true ∧ v = (objRow idx sub).ty.read r.data ∧
     e.writeGate (objRow idx sub) idx sub = 0 ∧ (objRow idx sub).acc = .rc ∧ (idx < 0x9000 ∨ 0x9014 ≤ idx) ∧ v.nat = 1) ∧
    (∃ (t : Nat) (idx : Nat) (sub : Nat) (r : Req) (e : State) (x : Sess) (v : Val) (s : State) (m : State), m = s.begin t ∧
     (r.path = .i3c ∨ r.path = .ddr) ∧ Heard m 0x20 idx sub r e x ∧ nameCode idx sub = 0 ∧ mayWrite idx sub x.level = true ∧
     r.len ≤ 4096 ∧ (objRow idx sub).sizeOk r.data.length = true ∧ v = (objRow idx sub).ty.read r.data ∧
     e.writeGate (objRow idx sub) idx sub = 0 ∧ (objRow idx sub).acc = .rc ∧ (idx < 0x9000 ∨ 0x9014 ≤ idx) ∧ v.nat ≠ 1) ∧
    (∃ (t : Nat) (idx : Nat) (sub : Nat) (r : Req) (e : State) (x : Sess) (v : Val) (s : State) (m : State), m = s.begin t ∧
     (r.path = .i3c ∨ r.path = .ddr) ∧ Heard m 0x20 idx sub r e x ∧ nameCode idx sub = 0 ∧ mayWrite idx sub x.level = true ∧
     r.len ≤ 4096 ∧ (objRow idx sub).sizeOk r.data.length = true ∧ v = (objRow idx sub).ty.read r.data ∧
     e.writeGate (objRow idx sub) idx sub = 0 ∧ (objRow idx sub).acc = .rc ∧ 0x9000 ≤ idx ∧ idx < 0x9014) :=
  ⟨⟨0, 0x1100, 6, ask 0x20 0x1100 6 0 [1, 0, 0, 0],
    ((hosted 2 (setL [(0x1100, 6, 7)] lit1)).begin 0).found (ask 0x20 0x1100 6 0 [1, 0, 0, 0]),
    (((hosted 2 (setL [(0x1100, 6, 7)] lit1)).begin 0).found (ask 0x20 0x1100 6 0 [1, 0, 0, 0])).sess (whoOf (ask 0x20 0x1100 6 0 [1, 0, 0, 0]).path),
    .n 1, hosted 2 (setL [(0x1100, 6, 7)] lit1), (hosted 2 (setL [(0x1100, 6, 7)] lit1)).begin 0, rfl, by decide +kernel,
    (heard_ask (by decide +kernel) (by decide +kernel) (by decide +kernel) (by decide +kernel)), by decide +kernel⟩,
   ⟨0, 0x1100, 6, ask 0x20 0x1100 6 0 [2, 0, 0, 0],
    ((hosted 2 (setL [(0x1100, 6, 7)] lit1)).begin 0).found (ask 0x20 0x1100 6 0 [2, 0, 0, 0]),
    (((hosted 2 (setL [(0x1100, 6, 7)] lit1)).begin 0).found (ask 0x20 0x1100 6 0 [2, 0, 0, 0])).sess (whoOf (ask 0x20 0x1100 6 0 [2, 0, 0, 0]).path),
    .n 2, hosted 2 (setL [(0x1100, 6, 7)] lit1), (hosted 2 (setL [(0x1100, 6, 7)] lit1)).begin 0, rfl, by decide +kernel,
    (heard_ask (by decide +kernel) (by decide +kernel) (by decide +kernel) (by decide +kernel)), by decide +kernel⟩,
   ⟨0, 0x9001, 1, ask 0x20 0x9001 1 0 [0xFF, 0, 0, 0],
    ((hosted 2 (setL [(0x9001, 1, 7)] (present 1 0 domModule lit1))).begin 0).found (ask 0x20 0x9001 1 0 [0xFF, 0, 0, 0]),
    (((hosted 2 (setL [(0x9001, 1, 7)] (present 1 0 domModule lit1))).begin 0).found (ask 0x20 0x9001 1 0 [0xFF, 0, 0, 0])).sess (whoOf (ask 0x20 0x9001 1 0 [0xFF, 0, 0, 0]).path),
    .n 255, hosted 2 (setL [(0x9001, 1, 7)] (present 1 0 domModule lit1)),
    (hosted 2 (setL [(0x9001, 1, 7)] (present 1 0 domModule lit1))).begin 0, rfl, by decide +kernel,
    (heard_ask (by decide +kernel) (by decide +kernel) (by decide +kernel) (by decide +kernel)), by decide +kernel⟩⟩

theorem test_meets_SegmentedTransfers :
    (∃ (t : Nat) (idx : Nat) (sub : Nat) (r : Req) (e : State) (x : Sess) (s : State) (m : State), m = s.begin t ∧
     nameCode idx sub = 0 ∧ r.len ≤ 4096 ∧ Heard m 0x30 idx sub r e x ∧ r.flags.testBit 3 = false ∧
     mayWrite idx sub x.level = true ∧ r.data.length = 4 ∧ leNat r.data ≤ (objRow idx sub).buffer idx ∧
     (objRow idx sub).sizeOk (leNat r.data) = true ∧ e.initStop idx sub = 0 ∧ e.xferBusy x (key idx sub) = false) ∧
    (∃ (t : Nat) (idx : Nat) (sub : Nat) (r : Req) (e : State) (x : Sess) (s : State) (m : State), m = s.begin t ∧
     nameCode idx sub = 0 ∧ r.len ≤ 4096 ∧ Heard m 0x30 idx sub r e x ∧ r.flags.testBit 3 = true ∧
     mayRead idx sub x.level = true ∧ r.data = [] ∧ e.served idx sub false = true ∧ e.readStop x idx sub = 0 ∧ x.xfer = none) ∧
    (∃ (t : Nat) (idx : Nat) (sub : Nat) (r : Req) (e : State) (x : Sess) (s : State) (m : State) (f : Xfer), m = s.begin t ∧
     nameCode idx sub = 0 ∧ r.len ≤ 4096 ∧ x.xfer = some f ∧ f.key = key idx sub ∧ f.next = r.seq % 256 ∧ f.write = true ∧
     mayWrite idx sub x.level = true ∧ Heard m 0x31 idx sub r e x ∧ f.data.length + r.data.length ≤ f.total) ∧
    (∃ (t : Nat) (idx : Nat) (sub : Nat) (r : Req) (e : State) (x : Sess) (s : State) (m : State) (f : Xfer), m = s.begin t ∧
     nameCode idx sub = 0 ∧ r.len ≤ 4096 ∧ x.xfer = some f ∧ f.key = key idx sub ∧ f.next = r.seq % 256 ∧ f.write = true ∧
     mayWrite idx sub x.level = true ∧ Heard m 0x31 idx sub r e x ∧ f.total < f.data.length + r.data.length) ∧
    (∃ (t : Nat) (idx : Nat) (sub : Nat) (r : Req) (e : State) (x : Sess) (s : State) (m : State) (f : Xfer), m = s.begin t ∧
     nameCode idx sub = 0 ∧ r.len ≤ 4096 ∧ x.xfer = some f ∧ f.key = key idx sub ∧ f.next = r.seq % 256 ∧ f.write = true ∧
     mayWrite idx sub x.level = true ∧ Heard m 0x32 idx sub r e x ∧ r.data = [] ∧ f.total ≤ f.data.length ∧
     (objRow idx sub).acc = .rs ∧ idx ≠ 0x1F10 ∧ e.effectSpecial x.who idx sub ((objRow idx sub).ty.read f.data) = none ∧
     e.writeGate (objRow idx sub) idx sub = 0 ∧ e.rangeOk (objRow idx sub) idx sub ((objRow idx sub).ty.read f.data) = true) ∧
    (∃ (t : Nat) (idx : Nat) (sub : Nat) (r : Req) (e : State) (x : Sess) (s : State) (m : State) (f : Xfer), m = s.begin t ∧
     nameCode idx sub = 0 ∧ r.len ≤ 4096 ∧ x.xfer = some f ∧ f.key = key idx sub ∧ f.next = r.seq % 256 ∧ f.write = false ∧
     Heard m 0x31 idx sub r e x ∧ r.data.length = 2 ∧ 0 < leNat r.data ∧ leNat r.data ≤ e.respLimit r.path) ∧
    (∃ (t : Nat) (idx : Nat) (sub : Nat) (r : Req) (e : State) (x : Sess) (s : State) (m : State) (f : Xfer), m = s.begin t ∧
     nameCode idx sub = 0 ∧ r.len ≤ 4096 ∧ x.xfer = some f ∧ f.key = key idx sub ∧ f.next = r.seq % 256 ∧ f.write = false ∧
     Heard m 0x32 idx sub r e x ∧ r.data = []) ∧
    (∃ (t : Nat) (idx : Nat) (sub : Nat) (r : Req) (e : State) (x : Sess) (s : State) (m : State) (f : Xfer), m = s.begin t ∧
     nameCode idx sub = 0 ∧ r.len ≤ 4096 ∧ x.xfer = some f ∧ f.key = key idx sub ∧ f.next = r.seq % 256 ∧
     Heard m 0x3F idx sub r e x) :=
  ⟨⟨0, 0x4000, 3, ask 0x30 0x4000 3 0 [2, 0, 0, 0], ((hosted 2 lit1).begin 0).found (ask 0x30 0x4000 3 0 [2, 0, 0, 0]),
    (((hosted 2 lit1).begin 0).found (ask 0x30 0x4000 3 0 [2, 0, 0, 0])).sess (whoOf (ask 0x30 0x4000 3 0 [2, 0, 0, 0]).path),
    hosted 2 lit1, (hosted 2 lit1).begin 0, rfl, by decide +kernel, by decide +kernel,
    (heard_ask (by decide +kernel) (by decide +kernel) (by decide +kernel) (by decide +kernel)), by decide +kernel⟩,
   ⟨0, 0x1001, 1, ask 0x30 0x1001 1 8 [], ((hosted 2 lit1).begin 0).found (ask 0x30 0x1001 1 8 []),
    (((hosted 2 lit1).begin 0).found (ask 0x30 0x1001 1 8 [])).sess (whoOf (ask 0x30 0x1001 1 8 []).path), hosted 2 lit1,
    (hosted 2 lit1).begin 0, rfl, by decide +kernel, by decide +kernel,
    (heard_ask (by decide +kernel) (by decide +kernel) (by decide +kernel) (by decide +kernel)), by decide +kernel⟩,
   ⟨0, 0x4000, 3, ask 0x31 0x4000 3 0 [1, 0],
    (((hosted 2 lit1).updGran (fun g => { g with sessions := [{ who := .i3c, level := 2, xfer := some { key := key 0x4000 3, write := true, total := 2, next := 1 } }] })).begin 0).found (ask 0x31 0x4000 3 0 [1, 0]),
    ((((hosted 2 lit1).updGran (fun g => { g with sessions := [{ who := .i3c, level := 2, xfer := some { key := key 0x4000 3, write := true, total := 2, next := 1 } }] })).begin 0).found (ask 0x31 0x4000 3 0 [1, 0])).sess (whoOf (ask 0x31 0x4000 3 0 [1, 0]).path),
    (hosted 2 lit1).updGran (fun g => { g with sessions := [{ who := .i3c, level := 2, xfer := some { key := key 0x4000 3, write := true, total := 2, next := 1 } }] }),
    ((hosted 2 lit1).updGran (fun g => { g with sessions := [{ who := .i3c, level := 2, xfer := some { key := key 0x4000 3, write := true, total := 2, next := 1 } }] })).begin 0,
    { key := key 0x4000 3, write := true, total := 2, next := 1 }, rfl, by decide +kernel, by decide +kernel, by decide +kernel,
    by decide +kernel, by decide +kernel, by decide +kernel, by decide +kernel,
    (heard_ask (by decide +kernel) (by decide +kernel) (by decide +kernel) (by decide +kernel)), by decide +kernel⟩,
   ⟨0, 0x4000, 3, ask 0x31 0x4000 3 0 [1, 0, 3],
    (((hosted 2 lit1).updGran (fun g => { g with sessions := [{ who := .i3c, level := 2, xfer := some { key := key 0x4000 3, write := true, total := 2, next := 1 } }] })).begin 0).found (ask 0x31 0x4000 3 0 [1, 0, 3]),
    ((((hosted 2 lit1).updGran (fun g => { g with sessions := [{ who := .i3c, level := 2, xfer := some { key := key 0x4000 3, write := true, total := 2, next := 1 } }] })).begin 0).found (ask 0x31 0x4000 3 0 [1, 0, 3])).sess (whoOf (ask 0x31 0x4000 3 0 [1, 0, 3]).path),
    (hosted 2 lit1).updGran (fun g => { g with sessions := [{ who := .i3c, level := 2, xfer := some { key := key 0x4000 3, write := true, total := 2, next := 1 } }] }),
    ((hosted 2 lit1).updGran (fun g => { g with sessions := [{ who := .i3c, level := 2, xfer := some { key := key 0x4000 3, write := true, total := 2, next := 1 } }] })).begin 0,
    { key := key 0x4000 3, write := true, total := 2, next := 1 }, rfl, by decide +kernel, by decide +kernel, by decide +kernel,
    by decide +kernel, by decide +kernel, by decide +kernel, by decide +kernel,
    (heard_ask (by decide +kernel) (by decide +kernel) (by decide +kernel) (by decide +kernel)), by decide +kernel⟩,
   ⟨0, 0x4000, 3, ask 0x32 0x4000 3 0 [],
    (((hosted 2 lit1).updGran (fun g => { g with sessions := [{ who := .i3c, level := 2, xfer := some { key := key 0x4000 3, write := true, total := 2, next := 1, data := [128, 7] } }] })).begin 0).found (ask 0x32 0x4000 3 0 []),
    ((((hosted 2 lit1).updGran (fun g => { g with sessions := [{ who := .i3c, level := 2, xfer := some { key := key 0x4000 3, write := true, total := 2, next := 1, data := [128, 7] } }] })).begin 0).found (ask 0x32 0x4000 3 0 [])).sess (whoOf (ask 0x32 0x4000 3 0 []).path),
    (hosted 2 lit1).updGran (fun g => { g with sessions := [{ who := .i3c, level := 2, xfer := some { key := key 0x4000 3, write := true, total := 2, next := 1, data := [128, 7] } }] }),
    ((hosted 2 lit1).updGran (fun g => { g with sessions := [{ who := .i3c, level := 2, xfer := some { key := key 0x4000 3, write := true, total := 2, next := 1, data := [128, 7] } }] })).begin 0,
    { key := key 0x4000 3, write := true, total := 2, next := 1, data := [128, 7] }, rfl, by decide +kernel, by decide +kernel,
    by decide +kernel, by decide +kernel, by decide +kernel, by decide +kernel, by decide +kernel,
    (heard_ask (by decide +kernel) (by decide +kernel) (by decide +kernel) (by decide +kernel)), by decide +kernel⟩,
   ⟨0, 0x4000, 3, ask 0x31 0x4000 3 0 [1, 0],
    (((hosted 2 lit1).updGran (fun g => { g with sessions := [{ who := .i3c, level := 2, xfer := some { key := key 0x4000 3, write := false, total := 2, next := 1, data := [128, 7] } }] })).begin 0).found (ask 0x31 0x4000 3 0 [1, 0]),
    ((((hosted 2 lit1).updGran (fun g => { g with sessions := [{ who := .i3c, level := 2, xfer := some { key := key 0x4000 3, write := false, total := 2, next := 1, data := [128, 7] } }] })).begin 0).found (ask 0x31 0x4000 3 0 [1, 0])).sess (whoOf (ask 0x31 0x4000 3 0 [1, 0]).path),
    (hosted 2 lit1).updGran (fun g => { g with sessions := [{ who := .i3c, level := 2, xfer := some { key := key 0x4000 3, write := false, total := 2, next := 1, data := [128, 7] } }] }),
    ((hosted 2 lit1).updGran (fun g => { g with sessions := [{ who := .i3c, level := 2, xfer := some { key := key 0x4000 3, write := false, total := 2, next := 1, data := [128, 7] } }] })).begin 0,
    { key := key 0x4000 3, write := false, total := 2, next := 1, data := [128, 7] }, rfl, by decide +kernel, by decide +kernel,
    by decide +kernel, by decide +kernel, by decide +kernel, by decide +kernel,
    (heard_ask (by decide +kernel) (by decide +kernel) (by decide +kernel) (by decide +kernel)), by decide +kernel⟩,
   ⟨0, 0x4000, 3, ask 0x32 0x4000 3 0 [],
    (((hosted 2 lit1).updGran (fun g => { g with sessions := [{ who := .i3c, level := 2, xfer := some { key := key 0x4000 3, write := false, total := 2, next := 1, data := [] } }] })).begin 0).found (ask 0x32 0x4000 3 0 []),
    ((((hosted 2 lit1).updGran (fun g => { g with sessions := [{ who := .i3c, level := 2, xfer := some { key := key 0x4000 3, write := false, total := 2, next := 1, data := [] } }] })).begin 0).found (ask 0x32 0x4000 3 0 [])).sess (whoOf (ask 0x32 0x4000 3 0 []).path),
    (hosted 2 lit1).updGran (fun g => { g with sessions := [{ who := .i3c, level := 2, xfer := some { key := key 0x4000 3, write := false, total := 2, next := 1, data := [] } }] }),
    ((hosted 2 lit1).updGran (fun g => { g with sessions := [{ who := .i3c, level := 2, xfer := some { key := key 0x4000 3, write := false, total := 2, next := 1, data := [] } }] })).begin 0,
    { key := key 0x4000 3, write := false, total := 2, next := 1, data := [] }, rfl, by decide +kernel, by decide +kernel,
    by decide +kernel, by decide +kernel, by decide +kernel, by decide +kernel,
    (heard_ask (by decide +kernel) (by decide +kernel) (by decide +kernel) (by decide +kernel)), by decide +kernel⟩,
   ⟨0, 0x4000, 3, ask 0x3F 0x4000 3 0 [],
    (((hosted 2 lit1).updGran (fun g => { g with sessions := [{ who := .i3c, level := 2, xfer := some { key := key 0x4000 3, write := true, total := 2, next := 1 } }] })).begin 0).found (ask 0x3F 0x4000 3 0 []),
    ((((hosted 2 lit1).updGran (fun g => { g with sessions := [{ who := .i3c, level := 2, xfer := some { key := key 0x4000 3, write := true, total := 2, next := 1 } }] })).begin 0).found (ask 0x3F 0x4000 3 0 [])).sess (whoOf (ask 0x3F 0x4000 3 0 []).path),
    (hosted 2 lit1).updGran (fun g => { g with sessions := [{ who := .i3c, level := 2, xfer := some { key := key 0x4000 3, write := true, total := 2, next := 1 } }] }),
    ((hosted 2 lit1).updGran (fun g => { g with sessions := [{ who := .i3c, level := 2, xfer := some { key := key 0x4000 3, write := true, total := 2, next := 1 } }] })).begin 0,
    { key := key 0x4000 3, write := true, total := 2, next := 1 }, rfl, by decide +kernel, by decide +kernel, by decide +kernel,
    by decide +kernel, by decide +kernel,
    (heard_ask (by decide +kernel) (by decide +kernel) (by decide +kernel) (by decide +kernel))⟩⟩

theorem test_meets_StateRequests_1 :
    (∃ (t : Nat) (r : Req) (e : State) (x : Sess) (v : Val) (s : State) (m : State), m = s.begin t ∧ Writes m 0x1F00 1 r e x v ∧
     s.sys.mode ≠ .damped ∧ s.sys.mode ≠ .cold ∧ (s.sys.mode = .kindling → s.sys.fwRuns = true) ∧ s.lv 0x1F00 2 ≠ 4) ∧
    (∃ (t : Nat) (r : Req) (e : State) (x : Sess) (v : Val) (s : State) (m : State), m = s.begin t ∧ Writes m 0x1F00 3 r e x v ∧
     s.sys.mode = .laid ∧ s.sys.startFrom = none ∧ s.sys.holdN = false) ∧
    (∃ (t : Nat) (r : Req) (e : State) (x : Sess) (v : Val) (s : State) (m : State), m = s.begin t ∧ Writes m 0x1F00 3 r e x v ∧
     s.sys.mode = .laid ∧ s.sys.startFrom = none ∧ s.sys.holdN = true) ∧
    (∃ (t : Nat) (r : Req) (e : State) (x : Sess) (v : Val) (s : State) (m : State), m = s.begin t ∧ Writes m 0x1F00 4 r e x v ∧
     s.sys.mode = .damped ∧ s.sys.startFrom = none) ∧
    (∃ (t : Nat) (r : Req) (e : State) (x : Sess) (v : Val) (s : State) (m : State), m = s.begin t ∧ Writes m 0x1F00 4 r e x v ∧
     s.sys.mode = .lit ∧ s.sys.stopping = false ∧ (∃ c : Fin 16, s.chRunning c = true)) ∧
    (∃ (t : Nat) (r : Req) (e : State) (x : Sess) (v : Val) (s : State) (m : State), m = s.begin t ∧ Writes m 0x1F00 4 r e x v ∧
     s.sys.mode = .laid ∧ s.sys.startFrom = none) :=
  ⟨⟨0, ask 0x20 0x1F00 1 0 [0, 0, 0, 0], ((hosted 3 (lit1)).begin 0).found (ask 0x20 0x1F00 1 0 [0, 0, 0, 0]),
    (((hosted 3 (lit1)).begin 0).found (ask 0x20 0x1F00 1 0 [0, 0, 0, 0])).sess (whoOf (ask 0x20 0x1F00 1 0 [0, 0, 0, 0]).path),
    .n 0, hosted 3 (lit1), (hosted 3 (lit1)).begin 0, rfl,
    (writes_of (heard_ask (by decide +kernel) (by decide +kernel) (by decide +kernel) (by decide +kernel)) (by decide +kernel)),
    by decide +kernel⟩,
   ⟨0, ask 0x20 0x1F00 3 0 one, ((hosted 3 (on .laid)).begin 0).found (ask 0x20 0x1F00 3 0 one),
    (((hosted 3 (on .laid)).begin 0).found (ask 0x20 0x1F00 3 0 one)).sess (whoOf (ask 0x20 0x1F00 3 0 one).path), .n 1,
    hosted 3 (on .laid), (hosted 3 (on .laid)).begin 0, rfl,
    (writes_of (heard_ask (by decide +kernel) (by decide +kernel) (by decide +kernel) (by decide +kernel)) (by decide +kernel)),
    by decide +kernel⟩,
   ⟨0, ask 0x20 0x1F00 3 0 one,
    ((hosted 3 ({ on .laid with sys := { (on .laid).sys with holdN := true } })).begin 0).found (ask 0x20 0x1F00 3 0 one),
    (((hosted 3 ({ on .laid with sys := { (on .laid).sys with holdN := true } })).begin 0).found (ask 0x20 0x1F00 3 0 one)).sess (whoOf (ask 0x20 0x1F00 3 0 one).path),
    .n 1, hosted 3 ({ on .laid with sys := { (on .laid).sys with holdN := true } }),
    (hosted 3 ({ on .laid with sys := { (on .laid).sys with holdN := true } })).begin 0, rfl,
    (writes_of (heard_ask (by decide +kernel) (by decide +kernel) (by decide +kernel) (by decide +kernel)) (by decide +kernel)),
    by decide +kernel⟩,
   ⟨0, ask 0x20 0x1F00 4 0 one,
    ((hosted 3 ({ lit1 with sys := { lit1.sys with mode := .damped } })).begin 0).found (ask 0x20 0x1F00 4 0 one),
    (((hosted 3 ({ lit1 with sys := { lit1.sys with mode := .damped } })).begin 0).found (ask 0x20 0x1F00 4 0 one)).sess (whoOf (ask 0x20 0x1F00 4 0 one).path),
    .n 1, hosted 3 ({ lit1 with sys := { lit1.sys with mode := .damped } }),
    (hosted 3 ({ lit1 with sys := { lit1.sys with mode := .damped } })).begin 0, rfl,
    (writes_of (heard_ask (by decide +kernel) (by decide +kernel) (by decide +kernel) (by decide +kernel)) (by decide +kernel)),
    by decide +kernel⟩,
   ⟨0, ask 0x20 0x1F00 4 0 one, ((hosted 3 (lit1)).begin 0).found (ask 0x20 0x1F00 4 0 one),
    (((hosted 3 (lit1)).begin 0).found (ask 0x20 0x1F00 4 0 one)).sess (whoOf (ask 0x20 0x1F00 4 0 one).path), .n 1,
    hosted 3 (lit1), (hosted 3 (lit1)).begin 0, rfl,
    (writes_of (heard_ask (by decide +kernel) (by decide +kernel) (by decide +kernel) (by decide +kernel)) (by decide +kernel)),
    by decide +kernel⟩,
   ⟨0, ask 0x20 0x1F00 4 0 one, ((hosted 3 (on .laid)).begin 0).found (ask 0x20 0x1F00 4 0 one),
    (((hosted 3 (on .laid)).begin 0).found (ask 0x20 0x1F00 4 0 one)).sess (whoOf (ask 0x20 0x1F00 4 0 one).path), .n 1,
    hosted 3 (on .laid), (hosted 3 (on .laid)).begin 0, rfl,
    (writes_of (heard_ask (by decide +kernel) (by decide +kernel) (by decide +kernel) (by decide +kernel)) (by decide +kernel)),
    by decide +kernel⟩⟩

theorem test_meets_StateRequests_2 :
    (∃ (t : Nat) (r : Req) (e : State) (x : Sess) (v : Val) (s : State) (m : State), m = s.begin t ∧ Writes m 0x1F00 5 r e x v ∧
     s.sys.mode = .laid ∧ s.sys.startFrom = none) ∧
    (∃ (t : Nat) (r : Req) (e : State) (x : Sess) (v : Val) (s : State) (m : State), m = s.begin t ∧ Writes m 0x1F00 6 r e x v ∧
     s.sys.mode ≠ .cold) ∧
    (∃ (t : Nat) (r : Req) (e : State) (x : Sess) (v : Val) (s : State) (m : State), m = s.begin t ∧ Writes m 0x1002 2 r e x v ∧
     onFlue r.path = false ∧ (∀ u, x.lockUntil = some u → u ≤ m.now) ∧ v.nat / 2 ^ 32 ≤ 3 ∧
     (v.nat / 2 ^ 32 = 3 → x.level < 3 → s.sys.mode = .kindling) ∧
     (x.level < v.nat / 2 ^ 32 → (whoOf r.path).isMgmt = true → s.lv 0x1002 (2 + v.nat / 2 ^ 32) ≠ 0 ∧ v.nat % 2 ^ 32 = s.lv 0x1002 (2 + v.nat / 2 ^ 32))) ∧
    (∃ (t : Nat) (r : Req) (e : State) (x : Sess) (v : Val) (s : State) (m : State), m = s.begin t ∧ Writes m 0x1002 2 r e x v ∧
     onFlue r.path = false ∧ (∀ u, x.lockUntil = some u → u ≤ m.now) ∧ v.nat / 2 ^ 32 ≤ 3 ∧
     (v.nat / 2 ^ 32 = 3 → x.level < 3 → s.sys.mode = .kindling) ∧ x.level < v.nat / 2 ^ 32 ∧ (whoOf r.path).isMgmt = true ∧
     (s.lv 0x1002 (2 + v.nat / 2 ^ 32) = 0 ∨ v.nat % 2 ^ 32 ≠ s.lv 0x1002 (2 + v.nat / 2 ^ 32))) ∧
    (∃ (t : Nat) (r : Req) (e : State) (x : Sess) (s : State) (m : State) (b : List Byte), m = s.begin t ∧
     Writes m 0x1F20 1 r e x (.b b) ∧ s.wearCheck b = 0) ∧
    (∃ (t : Nat) (r : Req) (e : State) (x : Sess) (s : State) (m : State) (b : List Byte), m = s.begin t ∧
     Writes m 0x1F20 1 r e x (.b b) ∧ (s.wearCheck b = 7 ∨ s.wearCheck b = 5 ∨ s.wearCheck b = 0xB)) :=
  ⟨⟨0, ask 0x20 0x1F00 5 0 one, ((hosted 3 (on .laid)).begin 0).found (ask 0x20 0x1F00 5 0 one),
    (((hosted 3 (on .laid)).begin 0).found (ask 0x20 0x1F00 5 0 one)).sess (whoOf (ask 0x20 0x1F00 5 0 one).path), .n 1,
    hosted 3 (on .laid), (hosted 3 (on .laid)).begin 0, rfl,
    (writes_of (heard_ask (by decide +kernel) (by decide +kernel) (by decide +kernel) (by decide +kernel)) (by decide +kernel)),
    by decide +kernel⟩,
   ⟨0, ask 0x20 0x1F00 6 0 one, ((hosted 3 (lit1)).begin 0).found (ask 0x20 0x1F00 6 0 one),
    (((hosted 3 (lit1)).begin 0).found (ask 0x20 0x1F00 6 0 one)).sess (whoOf (ask 0x20 0x1F00 6 0 one).path), .n 1,
    hosted 3 (lit1), (hosted 3 (lit1)).begin 0, rfl,
    (writes_of (heard_ask (by decide +kernel) (by decide +kernel) (by decide +kernel) (by decide +kernel)) (by decide +kernel)),
    by decide +kernel⟩,
   ⟨0, askOn web 0x20 0x1002 2 0 (leBytes 8 (2 ^ 32 + 77)),
    ((served1).begin 0).found (askOn web 0x20 0x1002 2 0 (leBytes 8 (2 ^ 32 + 77))),
    (((served1).begin 0).found (askOn web 0x20 0x1002 2 0 (leBytes 8 (2 ^ 32 + 77)))).sess (whoOf (askOn web 0x20 0x1002 2 0 (leBytes 8 (2 ^ 32 + 77))).path),
    .n (2 ^ 32 + 77), served1, (served1).begin 0, rfl,
    (writes_of (heard_ask (by decide +kernel) (by decide +kernel) (by decide +kernel) (by decide +kernel)) (by decide +kernel)),
    by decide +kernel,
    (fun u h => by have e : (((((served1).begin 0).found (askOn web 0x20 0x1002 2 0 (leBytes 8 (2 ^ 32 + 77)))).sess (whoOf (askOn web 0x20 0x1002 2 0 (leBytes 8 (2 ^ 32 + 77))).path))).lockUntil = none := (by decide +kernel); rw [e] at h; cases h),
    by decide +kernel⟩,
   ⟨0, askOn web 0x20 0x1002 2 0 (leBytes 8 (2 ^ 32 + 78)),
    ((served1).begin 0).found (askOn web 0x20 0x1002 2 0 (leBytes 8 (2 ^ 32 + 78))),
    (((served1).begin 0).found (askOn web 0x20 0x1002 2 0 (leBytes 8 (2 ^ 32 + 78)))).sess (whoOf (askOn web 0x20 0x1002 2 0 (leBytes 8 (2 ^ 32 + 78))).path),
    .n (2 ^ 32 + 78), served1, (served1).begin 0, rfl,
    (writes_of (heard_ask (by decide +kernel) (by decide +kernel) (by decide +kernel) (by decide +kernel)) (by decide +kernel)),
    by decide +kernel,
    (fun u h => by have e : (((((served1).begin 0).found (askOn web 0x20 0x1002 2 0 (leBytes 8 (2 ^ 32 + 78)))).sess (whoOf (askOn web 0x20 0x1002 2 0 (leBytes 8 (2 ^ 32 + 78))).path))).lockUntil = none := (by decide +kernel); rw [e] at h; cases h),
    by decide +kernel⟩,
   ⟨0, ask 0x20 0x1F20 1 0 wearRec, ((hosted 3 (on .kindling)).begin 0).found (ask 0x20 0x1F20 1 0 wearRec),
    (((hosted 3 (on .kindling)).begin 0).found (ask 0x20 0x1F20 1 0 wearRec)).sess (whoOf (ask 0x20 0x1F20 1 0 wearRec).path),
    hosted 3 (on .kindling), (hosted 3 (on .kindling)).begin 0, wearRec, rfl,
    (writes_of (heard_ask (by decide +kernel) (by decide +kernel) (by decide +kernel) (by decide +kernel)) (by decide +kernel)),
    by decide +kernel⟩,
   ⟨0, ask 0x20 0x1F20 1 0 wearRec, ((hosted 3 (lit1)).begin 0).found (ask 0x20 0x1F20 1 0 wearRec),
    (((hosted 3 (lit1)).begin 0).found (ask 0x20 0x1F20 1 0 wearRec)).sess (whoOf (ask 0x20 0x1F20 1 0 wearRec).path),
    hosted 3 (lit1), (hosted 3 (lit1)).begin 0, wearRec, rfl,
    (writes_of (heard_ask (by decide +kernel) (by decide +kernel) (by decide +kernel) (by decide +kernel)) (by decide +kernel)),
    by decide +kernel⟩⟩

theorem test_meets_FaultRequests_1 :
    (∃ (t : Nat) (r : Req) (e : State) (x : Sess) (v : Val) (s : State) (m : State) (g : Fin 20), m = s.begin t ∧
     onFlue r.path = false ∧ Writes m (0x9000 + g) 1 r e x v) ∧
    (∃ (t : Nat) (r : Req) (e : State) (x : Sess) (v : Val) (s : State) (m : State) (g : Fin 20), m = s.begin t ∧
     onFlue r.path = false ∧ Writes m (0x9000 + g) 6 r e x v) ∧
    (∃ (t : Nat) (r : Req) (e : State) (x : Sess) (v : Val) (s : State) (m : State) (cls : Fin 2) (q : Recovery), m = s.begin t ∧
     onFlue r.path = false ∧ Writes m (0x9103 + cls) 6 r e x v ∧ v.nat ≠ 0xFFFF ∧ v.nat ≠ domModule ∧ v.nat / 0x1000 ≠ 1 ∧
     v.nat / 0x1000 ≠ 2 ∧ s.recoveryOf v.nat = some q ∧ q.dom = v.nat ∧ q.cls = 3 + cls ∧ q.awaiting = true ∧
     s.holdsBack q = false) ∧
    (∃ (t : Nat) (r : Req) (e : State) (x : Sess) (v : Val) (s : State) (m : State) (cls : Fin 2) (q : Recovery), m = s.begin t ∧
     onFlue r.path = false ∧ Writes m (0x9103 + cls) 6 r e x v ∧ v.nat ≠ 0xFFFF ∧ v.nat ≠ domModule ∧ v.nat / 0x1000 ≠ 1 ∧
     v.nat / 0x1000 ≠ 2 ∧ s.recoveryOf v.nat = some q ∧ q.dom = v.nat ∧ q.awaiting = false) ∧
    (∃ (t : Nat) (r : Req) (e : State) (x : Sess) (s : State) (m : State) (a : AshRec) (as : List AshRec), m = s.begin t ∧
     onFlue r.path = false ∧ Reads m 0x9400 2 r e x ∧ s.flt.ash = a :: as ∧ a.seq = s.lv 0x9400 1 ∧ as.length < 128) :=
  ⟨⟨0, ask 0x20 0x9001 1 0 [3, 0, 0, 0],
    ((hosted 3 (setL [(0x9001, 1, 3)] (present 1 0 domModule lit1))).begin 0).found (ask 0x20 0x9001 1 0 [3, 0, 0, 0]),
    (((hosted 3 (setL [(0x9001, 1, 3)] (present 1 0 domModule lit1))).begin 0).found (ask 0x20 0x9001 1 0 [3, 0, 0, 0])).sess (whoOf (ask 0x20 0x9001 1 0 [3, 0, 0, 0]).path),
    .n 3, hosted 3 (setL [(0x9001, 1, 3)] (present 1 0 domModule lit1)),
    (hosted 3 (setL [(0x9001, 1, 3)] (present 1 0 domModule lit1))).begin 0, 1, rfl, by decide +kernel,
    (writes_of (heard_ask (by decide +kernel) (by decide +kernel) (by decide +kernel) (by decide +kernel)) (by decide +kernel))⟩,
   ⟨0, ask 0x20 0x9001 6 0 one,
    ((hosted 3 ({ lit1 with flt := { captures := [(1, {})] } })).begin 0).found (ask 0x20 0x9001 6 0 one),
    (((hosted 3 ({ lit1 with flt := { captures := [(1, {})] } })).begin 0).found (ask 0x20 0x9001 6 0 one)).sess (whoOf (ask 0x20 0x9001 6 0 one).path),
    .n 1, hosted 3 ({ lit1 with flt := { captures := [(1, {})] } }),
    (hosted 3 ({ lit1 with flt := { captures := [(1, {})] } })).begin 0, 1, rfl, by decide +kernel,
    (writes_of (heard_ask (by decide +kernel) (by decide +kernel) (by decide +kernel) (by decide +kernel)) (by decide +kernel))⟩,
   ⟨0, ask 0x20 0x9103 6 0 [5, 0], ((hosted 3 (recovering (rec1 3 true))).begin 0).found (ask 0x20 0x9103 6 0 [5, 0]),
    (((hosted 3 (recovering (rec1 3 true))).begin 0).found (ask 0x20 0x9103 6 0 [5, 0])).sess (whoOf (ask 0x20 0x9103 6 0 [5, 0]).path),
    .n 5, hosted 3 (recovering (rec1 3 true)), (hosted 3 (recovering (rec1 3 true))).begin 0, 0, rec1 3 true, rfl,
    by decide +kernel,
    (writes_of (heard_ask (by decide +kernel) (by decide +kernel) (by decide +kernel) (by decide +kernel)) (by decide +kernel)),
    by decide +kernel⟩,
   ⟨0, ask 0x20 0x9103 6 0 [5, 0], ((hosted 3 (recovering (rec1 3 false))).begin 0).found (ask 0x20 0x9103 6 0 [5, 0]),
    (((hosted 3 (recovering (rec1 3 false))).begin 0).found (ask 0x20 0x9103 6 0 [5, 0])).sess (whoOf (ask 0x20 0x9103 6 0 [5, 0]).path),
    .n 5, hosted 3 (recovering (rec1 3 false)), (hosted 3 (recovering (rec1 3 false))).begin 0, 0, rec1 3 false, rfl,
    by decide +kernel,
    (writes_of (heard_ask (by decide +kernel) (by decide +kernel) (by decide +kernel) (by decide +kernel)) (by decide +kernel)),
    by decide +kernel⟩,
   ⟨0, ask 0x10 0x9400 2 0 [],
    ((hosted 3 ({ lit1 with flt := { ash := [ash1], nextSeq := 1 } })).begin 0).found (ask 0x10 0x9400 2 0 []),
    (((hosted 3 ({ lit1 with flt := { ash := [ash1], nextSeq := 1 } })).begin 0).found (ask 0x10 0x9400 2 0 [])).sess (whoOf (ask 0x10 0x9400 2 0 []).path),
    hosted 3 ({ lit1 with flt := { ash := [ash1], nextSeq := 1 } }),
    (hosted 3 ({ lit1 with flt := { ash := [ash1], nextSeq := 1 } })).begin 0, ash1, [], rfl, by decide +kernel,
    (reads_of (heard_ask (by decide +kernel) (by decide +kernel) (by decide +kernel) (by decide +kernel)) (by decide +kernel)),
    by decide +kernel⟩⟩

theorem test_meets_FaultRequests_2 :
    (∃ (t : Nat) (r : Req) (e : State) (x : Sess) (v : Val) (s : State) (m : State), m = s.begin t ∧ onFlue r.path = false ∧
     Writes m 0x9400 5 r e x v) ∧
    (∃ (t : Nat) (r : Req) (e : State) (x : Sess) (v : Val) (s : State) (m : State) (i : Fin 4), m = s.begin t ∧
     onFlue r.path = false ∧ Writes m (0xF010 + i) 4 r e x v ∧ v.nat = 0) ∧
    (∃ (t : Nat) (r : Req) (e : State) (x : Sess) (v : Val) (s : State) (m : State) (i : Fin 4), m = s.begin t ∧
     onFlue r.path = false ∧ Writes m (0xF010 + i) 4 r e x v ∧ v.nat ≠ 0 ∧ injTargetOk (s.lv (0xF010 + i) 1) = true ∧
     injPatternOk (s.lv (0xF010 + i) 1) (s.lv (0xF010 + i) 2) = true ∧
     (∀ j : Fin 4, j ≠ i → s.lv (0xF010 + j) 4 = 1 → s.lv (0xF010 + j) 1 ≠ s.lv (0xF010 + i) 1)) ∧
    (∃ (t : Nat) (r : Req) (e : State) (x : Sess) (v : Val) (s : State) (m : State) (i : Fin 4), m = s.begin t ∧
     onFlue r.path = false ∧ Writes m (0xF010 + i) 4 r e x v ∧ v.nat ≠ 0 ∧ injTargetOk (s.lv (0xF010 + i) 1) = false) ∧
    (∃ (t : Nat) (r : Req) (e : State) (x : Sess) (v : Val) (s : State) (m : State), m = s.begin t ∧ onFlue r.path = false ∧
     Writes m 0xF000 1 r e x v) :=
  ⟨⟨0, ask 0x20 0x9400 5 0 one,
    ((hosted 3 ({ lit1 with flt := { ash := [ash1], nextSeq := 1 } })).begin 0).found (ask 0x20 0x9400 5 0 one),
    (((hosted 3 ({ lit1 with flt := { ash := [ash1], nextSeq := 1 } })).begin 0).found (ask 0x20 0x9400 5 0 one)).sess (whoOf (ask 0x20 0x9400 5 0 one).path),
    .n 1, hosted 3 ({ lit1 with flt := { ash := [ash1], nextSeq := 1 } }),
    (hosted 3 ({ lit1 with flt := { ash := [ash1], nextSeq := 1 } })).begin 0, rfl, by decide +kernel,
    (writes_of (heard_ask (by decide +kernel) (by decide +kernel) (by decide +kernel) (by decide +kernel)) (by decide +kernel))⟩,
   ⟨0, ask 0x20 0xF012 4 0 [0], ((hosted 3 (lit1)).begin 0).found (ask 0x20 0xF012 4 0 [0]),
    (((hosted 3 (lit1)).begin 0).found (ask 0x20 0xF012 4 0 [0])).sess (whoOf (ask 0x20 0xF012 4 0 [0]).path), .n 0,
    hosted 3 (lit1), (hosted 3 (lit1)).begin 0, 2, rfl, by decide +kernel,
    (writes_of (heard_ask (by decide +kernel) (by decide +kernel) (by decide +kernel) (by decide +kernel)) (by decide +kernel)),
    by decide +kernel⟩,
   ⟨0, ask 0x20 0xF012 4 0 one, ((hosted 3 (setL [(0xF012, 1, 0x05000003)] lit1)).begin 0).found (ask 0x20 0xF012 4 0 one),
    (((hosted 3 (setL [(0xF012, 1, 0x05000003)] lit1)).begin 0).found (ask 0x20 0xF012 4 0 one)).sess (whoOf (ask 0x20 0xF012 4 0 one).path),
    .n 1, hosted 3 (setL [(0xF012, 1, 0x05000003)] lit1), (hosted 3 (setL [(0xF012, 1, 0x05000003)] lit1)).begin 0, 2, rfl,
    by decide +kernel,
    (writes_of (heard_ask (by decide +kernel) (by decide +kernel) (by decide +kernel) (by decide +kernel)) (by decide +kernel)),
    by decide +kernel⟩,
   ⟨0, ask 0x20 0xF012 4 0 one, ((hosted 3 (lit1)).begin 0).found (ask 0x20 0xF012 4 0 one),
    (((hosted 3 (lit1)).begin 0).found (ask 0x20 0xF012 4 0 one)).sess (whoOf (ask 0x20 0xF012 4 0 one).path), .n 1,
    hosted 3 (lit1), (hosted 3 (lit1)).begin 0, 2, rfl, by decide +kernel,
    (writes_of (heard_ask (by decide +kernel) (by decide +kernel) (by decide +kernel) (by decide +kernel)) (by decide +kernel)),
    by decide +kernel⟩,
   ⟨0, ask 0x20 0xF000 1 0 one, ((hosted 3 (lit1)).begin 0).found (ask 0x20 0xF000 1 0 one),
    (((hosted 3 (lit1)).begin 0).found (ask 0x20 0xF000 1 0 one)).sess (whoOf (ask 0x20 0xF000 1 0 one).path), .n 1,
    hosted 3 (lit1), (hosted 3 (lit1)).begin 0, rfl, by decide +kernel,
    (writes_of (heard_ask (by decide +kernel) (by decide +kernel) (by decide +kernel) (by decide +kernel)) (by decide +kernel))⟩⟩

theorem test_meets_PartRequests_1 :
    (∃ (t : Nat) (r : Req) (e : State) (x : Sess) (v : Val) (s : State) (m : State) (w : Fin 288), m = s.begin t ∧
     Writes m 0xC041 1 r e x v ∧ v.nat = withyInit w ∧ s.wState w = 0 ∧
     28 ≤ sumList ((List.range 4).map (fun i => s.skeinAfter (4 * withyHearth w + i) w))) ∧
    (∃ (t : Nat) (r : Req) (e : State) (x : Sess) (v : Val) (s : State) (m : State) (w : Fin 288), m = s.begin t ∧
     Writes m 0xC041 1 r e x v ∧ v.nat = withyInit w ∧ s.wState w = 0 ∧
     sumList ((List.range 4).map (fun i => s.skeinAfter (4 * withyHearth w + i) w)) < 28) ∧
    (∃ (t : Nat) (r : Req) (e : State) (x : Sess) (v : Val) (s : State) (m : State) (p : Fin 3) (lane : Fin 3), m = s.begin t ∧
     Writes m (0x8110 + p) 9 r e x v ∧ v.nat = lane ∧ (s.link p).active.testBit lane = true ∧ (s.link p).spare ≠ 3) ∧
    (∃ (t : Nat) (r : Req) (e : State) (x : Sess) (v : Val) (s : State) (m : State) (p : Fin 3) (lane : Fin 3), m = s.begin t ∧
     Writes m (0x8110 + p) 9 r e x v ∧ v.nat = lane ∧ (s.link p).active.testBit lane = true ∧ (s.link p).spare = 3) ∧
    (∃ (t : Nat) (r : Req) (e : State) (x : Sess) (v : Val) (s : State) (m : State), m = s.begin t ∧ Writes m 0x8100 6 r e x v ∧
     s.lv 0x8100 3 = 0) ∧
    (∃ (t : Nat) (r : Req) (e : State) (x : Sess) (v : Val) (s : State) (m : State), m = s.begin t ∧ Writes m 0x8100 6 r e x v ∧
     s.lv 0x8100 3 ≠ 0 ∧ s.myId < 1024 ∧ s.flue.excess = false) :=
  ⟨⟨0, ask 0x20 0xC041 1 0 [0, 0], ((hosted 3 (lit1)).begin 0).found (ask 0x20 0xC041 1 0 [0, 0]),
    (((hosted 3 (lit1)).begin 0).found (ask 0x20 0xC041 1 0 [0, 0])).sess (whoOf (ask 0x20 0xC041 1 0 [0, 0]).path), .n 0,
    hosted 3 (lit1), (hosted 3 (lit1)).begin 0, 0, rfl,
    (writes_of (heard_ask (by decide +kernel) (by decide +kernel) (by decide +kernel) (by decide +kernel)) (by decide +kernel)),
    by decide +kernel⟩,
   ⟨0, ask 0x20 0xC041 1 0 [0, 0],
    ((hosted 3 (pipeOf (fun p => { p with withies := [30, 31, 32, 33, 34, 35].map (fun w => (w, { st := 4 })) }) lit1)).begin 0).found (ask 0x20 0xC041 1 0 [0, 0]),
    (((hosted 3 (pipeOf (fun p => { p with withies := [30, 31, 32, 33, 34, 35].map (fun w => (w, { st := 4 })) }) lit1)).begin 0).found (ask 0x20 0xC041 1 0 [0, 0])).sess (whoOf (ask 0x20 0xC041 1 0 [0, 0]).path),
    .n 0, hosted 3 (pipeOf (fun p => { p with withies := [30, 31, 32, 33, 34, 35].map (fun w => (w, { st := 4 })) }) lit1),
    (hosted 3 (pipeOf (fun p => { p with withies := [30, 31, 32, 33, 34, 35].map (fun w => (w, { st := 4 })) }) lit1)).begin 0, 0,
    rfl,
    (writes_of (heard_ask (by decide +kernel) (by decide +kernel) (by decide +kernel) (by decide +kernel)) (by decide +kernel)),
    by decide +kernel⟩,
   ⟨0, ask 0x20 0x8111 9 0 [0], ((hosted 3 (linked { active := 3, spare := 2 } 3)).begin 0).found (ask 0x20 0x8111 9 0 [0]),
    (((hosted 3 (linked { active := 3, spare := 2 } 3)).begin 0).found (ask 0x20 0x8111 9 0 [0])).sess (whoOf (ask 0x20 0x8111 9 0 [0]).path),
    .n 0, hosted 3 (linked { active := 3, spare := 2 } 3), (hosted 3 (linked { active := 3, spare := 2 } 3)).begin 0, 1, 0, rfl,
    (writes_of (heard_ask (by decide +kernel) (by decide +kernel) (by decide +kernel) (by decide +kernel)) (by decide +kernel)),
    by decide +kernel⟩,
   ⟨0, ask 0x20 0x8111 9 0 [0], ((hosted 3 (linked { active := 3, spare := 3 } 3)).begin 0).found (ask 0x20 0x8111 9 0 [0]),
    (((hosted 3 (linked { active := 3, spare := 3 } 3)).begin 0).found (ask 0x20 0x8111 9 0 [0])).sess (whoOf (ask 0x20 0x8111 9 0 [0]).path),
    .n 0, hosted 3 (linked { active := 3, spare := 3 } 3), (hosted 3 (linked { active := 3, spare := 3 } 3)).begin 0, 1, 0, rfl,
    (writes_of (heard_ask (by decide +kernel) (by decide +kernel) (by decide +kernel) (by decide +kernel)) (by decide +kernel)),
    by decide +kernel⟩,
   ⟨0, ask 0x20 0x8100 6 0 one, ((hosted 3 (on .kindling)).begin 0).found (ask 0x20 0x8100 6 0 one),
    (((hosted 3 (on .kindling)).begin 0).found (ask 0x20 0x8100 6 0 one)).sess (whoOf (ask 0x20 0x8100 6 0 one).path), .n 1,
    hosted 3 (on .kindling), (hosted 3 (on .kindling)).begin 0, rfl,
    (writes_of (heard_ask (by decide +kernel) (by decide +kernel) (by decide +kernel) (by decide +kernel)) (by decide +kernel)),
    by decide +kernel⟩,
   ⟨0, ask 0x20 0x8100 6 0 one,
    ((hosted 3 (setL [(0x8100, 3, 1), (0x8100, 7, 2)] (on .kindling))).begin 0).found (ask 0x20 0x8100 6 0 one),
    (((hosted 3 (setL [(0x8100, 3, 1), (0x8100, 7, 2)] (on .kindling))).begin 0).found (ask 0x20 0x8100 6 0 one)).sess (whoOf (ask 0x20 0x8100 6 0 one).path),
    .n 1, hosted 3 (setL [(0x8100, 3, 1), (0x8100, 7, 2)] (on .kindling)),
    (hosted 3 (setL [(0x8100, 3, 1), (0x8100, 7, 2)] (on .kindling))).begin 0, rfl,
    (writes_of (heard_ask (by decide +kernel) (by decide +kernel) (by decide +kernel) (by decide +kernel)) (by decide +kernel)),
    by decide +kernel⟩⟩

theorem test_meets_PartRequests_2 :
    (∃ (t : Nat) (r : Req) (e : State) (x : Sess) (v : Val) (s : State) (m : State) (i : Fin 4), m = s.begin t ∧
     Writes m 0x8200 6 r e x v ∧ v.nat = i ∧ s.pairState i = 1 ∧ s.paired = true ∧ s.handsAway i = false) ∧
    (∃ (t : Nat) (r : Req) (e : State) (x : Sess) (v : Val) (s : State) (m : State) (i : Fin 4), m = s.begin t ∧
     Writes m 0x8200 6 r e x v ∧ v.nat = i ∧ s.pairState i = 1 ∧ s.handsAway i = true) ∧
    (∃ (t : Nat) (r : Req) (e : State) (x : Sess) (v : Val) (s : State) (m : State) (i : Fin 4), m = s.begin t ∧
     Writes m 0x8200 6 r e x v ∧ v.nat = i ∧ s.pairState i ≠ 1) ∧
    (∃ (t : Nat) (r : Req) (e : State) (x : Sess) (v : Val) (s : State) (m : State), m = s.begin t ∧ Writes m 0x8210 0xF r e x v ∧
     s.lv 0x8210 8 = 1) ∧
    (∃ (t : Nat) (r : Req) (e : State) (x : Sess) (v : Val) (s : State) (m : State), m = s.begin t ∧ Writes m 0x8210 0xF r e x v ∧
     s.lv 0x8210 8 ≠ 1) ∧
    (∃ (t : Nat) (r : Req) (e : State) (x : Sess) (v : Val) (s : State) (m : State) (ch : Fin 8), m = s.begin t ∧
     Writes m 0x8000 5 r e x v ∧ v.nat = ch ∧ s.rankState ch = 1) :=
  ⟨⟨0, ask 0x20 0x8200 6 0 [0],
    ((hosted 3 (setL [(0x8201, 1, 1)] (setC [(0x8200, 1, 1)] lit1))).begin 0).found (ask 0x20 0x8200 6 0 [0]),
    (((hosted 3 (setL [(0x8201, 1, 1)] (setC [(0x8200, 1, 1)] lit1))).begin 0).found (ask 0x20 0x8200 6 0 [0])).sess (whoOf (ask 0x20 0x8200 6 0 [0]).path),
    .n 0, hosted 3 (setL [(0x8201, 1, 1)] (setC [(0x8200, 1, 1)] lit1)),
    (hosted 3 (setL [(0x8201, 1, 1)] (setC [(0x8200, 1, 1)] lit1))).begin 0, 0, rfl,
    (writes_of (heard_ask (by decide +kernel) (by decide +kernel) (by decide +kernel) (by decide +kernel)) (by decide +kernel)),
    by decide +kernel⟩,
   ⟨0, ask 0x20 0x8200 6 0 [0],
    ((hosted 3 (setL [(0x8201, 1, 1), (0x8210, 7, 0), (0x8210, 8, 1)] (setC [(0x8200, 1, 1), (0x8210, 1, 1), (0x8210, 2, 2), (0x8210, 4, 1)] { lit1 with pair := { hand := [(0, some ⟨0, 4⟩)] } }))).begin 0).found (ask 0x20 0x8200 6 0 [0]),
    (((hosted 3 (setL [(0x8201, 1, 1), (0x8210, 7, 0), (0x8210, 8, 1)] (setC [(0x8200, 1, 1), (0x8210, 1, 1), (0x8210, 2, 2), (0x8210, 4, 1)] { lit1 with pair := { hand := [(0, some ⟨0, 4⟩)] } }))).begin 0).found (ask 0x20 0x8200 6 0 [0])).sess (whoOf (ask 0x20 0x8200 6 0 [0]).path),
    .n 0,
    hosted 3 (setL [(0x8201, 1, 1), (0x8210, 7, 0), (0x8210, 8, 1)] (setC [(0x8200, 1, 1), (0x8210, 1, 1), (0x8210, 2, 2), (0x8210, 4, 1)] { lit1 with pair := { hand := [(0, some ⟨0, 4⟩)] } })),
    (hosted 3 (setL [(0x8201, 1, 1), (0x8210, 7, 0), (0x8210, 8, 1)] (setC [(0x8200, 1, 1), (0x8210, 1, 1), (0x8210, 2, 2), (0x8210, 4, 1)] { lit1 with pair := { hand := [(0, some ⟨0, 4⟩)] } }))).begin 0,
    0, rfl,
    (writes_of (heard_ask (by decide +kernel) (by decide +kernel) (by decide +kernel) (by decide +kernel)) (by decide +kernel)),
    by decide +kernel⟩,
   ⟨0, ask 0x20 0x8200 6 0 [0],
    ((hosted 3 (setL [(0x8201, 1, 2)] (setC [(0x8200, 1, 1)] lit1))).begin 0).found (ask 0x20 0x8200 6 0 [0]),
    (((hosted 3 (setL [(0x8201, 1, 2)] (setC [(0x8200, 1, 1)] lit1))).begin 0).found (ask 0x20 0x8200 6 0 [0])).sess (whoOf (ask 0x20 0x8200 6 0 [0]).path),
    .n 0, hosted 3 (setL [(0x8201, 1, 2)] (setC [(0x8200, 1, 1)] lit1)),
    (hosted 3 (setL [(0x8201, 1, 2)] (setC [(0x8200, 1, 1)] lit1))).begin 0, 0, rfl,
    (writes_of (heard_ask (by decide +kernel) (by decide +kernel) (by decide +kernel) (by decide +kernel)) (by decide +kernel)),
    by decide +kernel⟩,
   ⟨0, ask 0x20 0x8210 0xF 0 one, ((hosted 3 (twin 0 1)).begin 0).found (ask 0x20 0x8210 0xF 0 one),
    (((hosted 3 (twin 0 1)).begin 0).found (ask 0x20 0x8210 0xF 0 one)).sess (whoOf (ask 0x20 0x8210 0xF 0 one).path), .n 1,
    hosted 3 (twin 0 1), (hosted 3 (twin 0 1)).begin 0, rfl,
    (writes_of (heard_ask (by decide +kernel) (by decide +kernel) (by decide +kernel) (by decide +kernel)) (by decide +kernel)),
    by decide +kernel⟩,
   ⟨0, ask 0x20 0x8210 0xF 0 one, ((hosted 3 (twin 0 2)).begin 0).found (ask 0x20 0x8210 0xF 0 one),
    (((hosted 3 (twin 0 2)).begin 0).found (ask 0x20 0x8210 0xF 0 one)).sess (whoOf (ask 0x20 0x8210 0xF 0 one).path), .n 1,
    hosted 3 (twin 0 2), (hosted 3 (twin 0 2)).begin 0, rfl,
    (writes_of (heard_ask (by decide +kernel) (by decide +kernel) (by decide +kernel) (by decide +kernel)) (by decide +kernel)),
    by decide +kernel⟩,
   ⟨0, ask 0x20 0x8000 5 0 [0], ((hosted 3 (dram1)).begin 0).found (ask 0x20 0x8000 5 0 [0]),
    (((hosted 3 (dram1)).begin 0).found (ask 0x20 0x8000 5 0 [0])).sess (whoOf (ask 0x20 0x8000 5 0 [0]).path), .n 0,
    hosted 3 (dram1), (hosted 3 (dram1)).begin 0, 0, rfl,
    (writes_of (heard_ask (by decide +kernel) (by decide +kernel) (by decide +kernel) (by decide +kernel)) (by decide +kernel)),
    by decide +kernel⟩⟩

theorem test_meets_TimeAndTrafficRequests_1 :
    (∃ (t : Nat) (r : Req) (e : State) (x : Sess) (v : Val) (s : State) (m : State), m = s.begin t ∧ Writes m 0x7000 2 r e x v ∧
     s.sourceNow = 0 ∧ s.sys.mode ≠ .lit ∧ 0 ≤ (m.mono : Int) + m.clk.off) ∧
    (∃ (t : Nat) (r : Req) (e : State) (x : Sess) (v : Val) (s : State) (m : State), m = s.begin t ∧ Writes m 0x7000 3 r e x v ∧
     s.sourceNow = 0 ∧ s.sys.mode ≠ .lit) ∧
    (∃ (t : Nat) (r : Req) (e : State) (x : Sess) (v : Val) (s : State) (m : State), m = s.begin t ∧ Writes m 0x7000 2 r e x v ∧
     s.sourceNow ≠ 0) ∧
    (∃ (t : Nat) (r : Req) (e : State) (x : Sess) (v : Val) (s : State) (m : State), m = s.begin t ∧ Writes m 0x7001 0x12 r e x v) ∧
    (∃ (t : Nat) (r : Req) (e : State) (x : Sess) (v : Val) (s : State) (m : State) (q : Fin 2), m = s.begin t ∧
     Writes m (0x6808 + q) 1 r e x v ∧ (r.path = .i3c ∨ r.path = .ddr) ∧ s.cm (0x7010 + q) 1 = 2 ∧
     (m.ptpTxFrame q v.blk).2 = true ∧ (s.ethPort (s.ptpPort q)).link = true ∧ s.lv (0x6200 + s.ptpPort q) 1 = 0) :=
  ⟨⟨0, ask 0x20 0x7000 2 0 (leBytes 12 (5 * 2 ^ 48)),
    ((hosted 3 (on .laid)).begin 0).found (ask 0x20 0x7000 2 0 (leBytes 12 (5 * 2 ^ 48))),
    (((hosted 3 (on .laid)).begin 0).found (ask 0x20 0x7000 2 0 (leBytes 12 (5 * 2 ^ 48)))).sess (whoOf (ask 0x20 0x7000 2 0 (leBytes 12 (5 * 2 ^ 48))).path),
    .n (5 * 2 ^ 48), hosted 3 (on .laid), (hosted 3 (on .laid)).begin 0, rfl,
    (writes_of (heard_ask (by decide +kernel) (by decide +kernel) (by decide +kernel) (by decide +kernel)) (by decide +kernel)),
    by decide +kernel⟩,
   ⟨0, ask 0x20 0x7000 3 0 (leBytes 8 (2 ^ 64 - 3)),
    ((hosted 3 (on .laid)).begin 0).found (ask 0x20 0x7000 3 0 (leBytes 8 (2 ^ 64 - 3))),
    (((hosted 3 (on .laid)).begin 0).found (ask 0x20 0x7000 3 0 (leBytes 8 (2 ^ 64 - 3)))).sess (whoOf (ask 0x20 0x7000 3 0 (leBytes 8 (2 ^ 64 - 3))).path),
    .n (2 ^ 64 - 3), hosted 3 (on .laid), (hosted 3 (on .laid)).begin 0, rfl,
    (writes_of (heard_ask (by decide +kernel) (by decide +kernel) (by decide +kernel) (by decide +kernel)) (by decide +kernel)),
    by decide +kernel⟩,
   ⟨0, ask 0x20 0x7000 2 0 (leBytes 12 (5 * 2 ^ 48)),
    ((hosted 3 (setL [(0x7001, 0xD, 1)] (on .laid))).begin 0).found (ask 0x20 0x7000 2 0 (leBytes 12 (5 * 2 ^ 48))),
    (((hosted 3 (setL [(0x7001, 0xD, 1)] (on .laid))).begin 0).found (ask 0x20 0x7000 2 0 (leBytes 12 (5 * 2 ^ 48)))).sess (whoOf (ask 0x20 0x7000 2 0 (leBytes 12 (5 * 2 ^ 48))).path),
    .n (5 * 2 ^ 48), hosted 3 (setL [(0x7001, 0xD, 1)] (on .laid)), (hosted 3 (setL [(0x7001, 0xD, 1)] (on .laid))).begin 0, rfl,
    (writes_of (heard_ask (by decide +kernel) (by decide +kernel) (by decide +kernel) (by decide +kernel)) (by decide +kernel)),
    by decide +kernel⟩,
   ⟨0, ask 0x20 0x7001 0x12 0 (leBytes 8 (2 ^ 64 - 3)),
    ((hosted 3 (on .laid)).begin 0).found (ask 0x20 0x7001 0x12 0 (leBytes 8 (2 ^ 64 - 3))),
    (((hosted 3 (on .laid)).begin 0).found (ask 0x20 0x7001 0x12 0 (leBytes 8 (2 ^ 64 - 3)))).sess (whoOf (ask 0x20 0x7001 0x12 0 (leBytes 8 (2 ^ 64 - 3))).path),
    .n (2 ^ 64 - 3), hosted 3 (on .laid), (hosted 3 (on .laid)).begin 0, rfl,
    (writes_of (heard_ask (by decide +kernel) (by decide +kernel) (by decide +kernel) (by decide +kernel)) (by decide +kernel))⟩,
   ⟨0, ask 0x20 0x6808 1 0 (List.replicate 12 0 ++ [0x88, 0xF7] ++ List.replicate 50 0),
    ((hosted 3 (eth1)).begin 0).found (ask 0x20 0x6808 1 0 (List.replicate 12 0 ++ [0x88, 0xF7] ++ List.replicate 50 0)),
    (((hosted 3 (eth1)).begin 0).found (ask 0x20 0x6808 1 0 (List.replicate 12 0 ++ [0x88, 0xF7] ++ List.replicate 50 0))).sess (whoOf (ask 0x20 0x6808 1 0 (List.replicate 12 0 ++ [0x88, 0xF7] ++ List.replicate 50 0)).path),
    .b (List.replicate 12 0 ++ [0x88, 0xF7] ++ List.replicate 50 0), hosted 3 (eth1), (hosted 3 (eth1)).begin 0, 0, rfl,
    (writes_of (heard_ask (by decide +kernel) (by decide +kernel) (by decide +kernel) (by decide +kernel)) (by decide +kernel)),
    by decide +kernel⟩⟩

theorem test_meets_TimeAndTrafficRequests_2 :
    (∃ (t : Nat) (r : Req) (e : State) (x : Sess) (s : State) (m : State) (q : Fin 2), m = s.begin t ∧
     Reads m (0x6808 + q) 2 r e x) ∧
    (∃ (t : Nat) (r : Req) (e : State) (x : Sess) (s : State) (m : State) (q : Fin 5), m = s.begin t ∧
     Reads m (0x6800 + q) 1 r e x) ∧
    (∃ (t : Nat) (r : Req) (e : State) (x : Sess) (v : Val) (s : State) (m : State) (p : Fin 10), m = s.begin t ∧
     Writes m (0x6200 + p) 7 r e x v ∧ s.sys.mode ≠ .laid ∧ s.sys.mode ≠ .lit ∧ gatesOk (s.lvb (0x6200 + p) 3) = true ∧
     400 ≤ (m.adminList p).cycle ∧ (m.adminList p).cycle ≤ 400000000 ∧ (m.adminList p).ext ≤ (m.adminList p).cycle ∧
     m.ctrNow + usCtr 1 ≤ (m.adminList p).base) ∧
    (∃ (t : Nat) (r : Req) (e : State) (x : Sess) (v : Val) (s : State) (m : State) (k : Fin 1024) (sub : Nat), m = s.begin t ∧
     Writes m (0x6400 + k) sub r e x v ∧ sub ≤ 0xB) :=
  ⟨⟨0, ask 0x10 0x6808 2 0 [],
    ((hosted 3 ({ eth1 with servo := { rx := [(0, [[1, 2]])] } })).begin 0).found (ask 0x10 0x6808 2 0 []),
    (((hosted 3 ({ eth1 with servo := { rx := [(0, [[1, 2]])] } })).begin 0).found (ask 0x10 0x6808 2 0 [])).sess (whoOf (ask 0x10 0x6808 2 0 []).path),
    hosted 3 ({ eth1 with servo := { rx := [(0, [[1, 2]])] } }),
    (hosted 3 ({ eth1 with servo := { rx := [(0, [[1, 2]])] } })).begin 0, 0, rfl,
    (reads_of (heard_ask (by decide +kernel) (by decide +kernel) (by decide +kernel) (by decide +kernel)) (by decide +kernel))⟩,
   ⟨0, ask 0x10 0x6801 1 0 [],
    ((hosted 3 ({ setC [(0x7011, 1, 2)] lit1 with servo := { tsq := [(1, [⟨0, 5, 6, 7⟩])] } })).begin 0).found (ask 0x10 0x6801 1 0 []),
    (((hosted 3 ({ setC [(0x7011, 1, 2)] lit1 with servo := { tsq := [(1, [⟨0, 5, 6, 7⟩])] } })).begin 0).found (ask 0x10 0x6801 1 0 [])).sess (whoOf (ask 0x10 0x6801 1 0 []).path),
    hosted 3 ({ setC [(0x7011, 1, 2)] lit1 with servo := { tsq := [(1, [⟨0, 5, 6, 7⟩])] } }),
    (hosted 3 ({ setC [(0x7011, 1, 2)] lit1 with servo := { tsq := [(1, [⟨0, 5, 6, 7⟩])] } })).begin 0, 1, rfl,
    (reads_of (heard_ask (by decide +kernel) (by decide +kernel) (by decide +kernel) (by decide +kernel)) (by decide +kernel))⟩,
   ⟨0, ask 0x20 0x6200 7 0 one,
    ((hosted 3 ((setL [(0x6200, 6, 5 * 2 ^ 48)] { eth1 with sys := { eth1.sys with mode := .damped } }).setB 0x6200 3 [100, 0, 0, 0, 0, 0, 1, 0])).begin 0).found (ask 0x20 0x6200 7 0 one),
    (((hosted 3 ((setL [(0x6200, 6, 5 * 2 ^ 48)] { eth1 with sys := { eth1.sys with mode := .damped } }).setB 0x6200 3 [100, 0, 0, 0, 0, 0, 1, 0])).begin 0).found (ask 0x20 0x6200 7 0 one)).sess (whoOf (ask 0x20 0x6200 7 0 one).path),
    .n 1,
    hosted 3 ((setL [(0x6200, 6, 5 * 2 ^ 48)] { eth1 with sys := { eth1.sys with mode := .damped } }).setB 0x6200 3 [100, 0, 0, 0, 0, 0, 1, 0]),
    (hosted 3 ((setL [(0x6200, 6, 5 * 2 ^ 48)] { eth1 with sys := { eth1.sys with mode := .damped } }).setB 0x6200 3 [100, 0, 0, 0, 0, 0, 1, 0])).begin 0,
    0, rfl,
    (writes_of (heard_ask (by decide +kernel) (by decide +kernel) (by decide +kernel) (by decide +kernel)) (by decide +kernel)),
    by decide +kernel⟩,
   ⟨0, ask 0x20 0x6400 4 0 [4, 3, 2, 1], ((hosted 3 (lit1)).begin 0).found (ask 0x20 0x6400 4 0 [4, 3, 2, 1]),
    (((hosted 3 (lit1)).begin 0).found (ask 0x20 0x6400 4 0 [4, 3, 2, 1])).sess (whoOf (ask 0x20 0x6400 4 0 [4, 3, 2, 1]).path),
    .n 0x01020304, hosted 3 (lit1), (hosted 3 (lit1)).begin 0, 0, 4, rfl,
    (writes_of (heard_ask (by decide +kernel) (by decide +kernel) (by decide +kernel) (by decide +kernel)) (by decide +kernel)),
    by decide +kernel⟩⟩

theorem test_meets_ContentRequests_1 :
    (∃ (t : Nat) (r : Req) (e : State) (x : Sess) (v : Val) (s : State) (m : State), m = s.begin t ∧ Writes m 0x2300 0xC r e x v ∧
     m.itemAlloc.2 = 0) ∧
    (∃ (t : Nat) (r : Req) (e : State) (x : Sess) (s : State) (m : State) (b : List Byte) (c : ItemCopy) (row : List Nat), m = s.begin t ∧
     Writes m 0x2300 0xF r e x (.b b) ∧ s.pwr.sag = 0 ∧ (s.item (s.lv 0x2300 3)).target = some c ∧
     cutLines (c.w * samplesPerPixel c.format * 2) b = [row] ∧ b.length = c.w * samplesPerPixel c.format * 2 ∧
     row.all (fun k => decide (k < 1024)) = true ∧ s.lv 0x2300 0xD * c.h + s.lv 0x2300 0xE < c.frames * c.h) ∧
    (∃ (t : Nat) (r : Req) (e : State) (x : Sess) (v : Val) (s : State) (m : State) (c : ItemCopy), m = s.begin t ∧
     Writes m 0x2300 0x10 r e x v ∧ (s.item (s.lv 0x2300 3)).target = some c ∧ c.frames * c.h ≤ c.lines.length) ∧
    (∃ (t : Nat) (r : Req) (e : State) (x : Sess) (v : Val) (s : State) (m : State) (c : ItemCopy), m = s.begin t ∧
     Writes m 0x2300 0x10 r e x v ∧ (s.item (s.lv 0x2300 3)).target = some c ∧ c.lines.length < c.frames * c.h) ∧
    (∃ (t : Nat) (r : Req) (e : State) (x : Sess) (v : Val) (s : State) (m : State), m = s.begin t ∧
     Writes m 0x2300 0x11 r e x v ∧ itemUsed s.comm (s.lv 0x2300 3) = false) ∧
    (∃ (t : Nat) (r : Req) (e : State) (x : Sess) (v : Val) (s : State) (m : State), m = s.begin t ∧
     Writes m 0x2300 0x11 r e x v ∧ itemUsed s.comm (s.lv 0x2300 3) = true) ∧
    (∃ (t : Nat) (r : Req) (e : State) (x : Sess) (v : Val) (s : State) (m : State) (p : Fin 2), m = s.begin t ∧
     Writes m (0x2000 + p) 2 r e x v ∧ (s.hdmi p).locked = false) ∧
    (∃ (t : Nat) (r : Req) (e : State) (x : Sess) (v : Val) (s : State) (m : State) (sub : Nat), m = s.begin t ∧
     Writes m 0x2200 sub r e x v ∧ (sub = 2 ∨ sub = 3 ∨ sub = 4)) :=
  ⟨⟨0, ask 0x20 0x2300 0xC 0 one,
    ((hosted 3 (setL [(0x2300, 4, 16), (0x2300, 5, 2)] (setC [(0x2300, 1, 2)] lit1))).begin 0).found (ask 0x20 0x2300 0xC 0 one),
    (((hosted 3 (setL [(0x2300, 4, 16), (0x2300, 5, 2)] (setC [(0x2300, 1, 2)] lit1))).begin 0).found (ask 0x20 0x2300 0xC 0 one)).sess (whoOf (ask 0x20 0x2300 0xC 0 one).path),
    .n 1, hosted 3 (setL [(0x2300, 4, 16), (0x2300, 5, 2)] (setC [(0x2300, 1, 2)] lit1)),
    (hosted 3 (setL [(0x2300, 4, 16), (0x2300, 5, 2)] (setC [(0x2300, 1, 2)] lit1))).begin 0, rfl,
    (writes_of (heard_ask (by decide +kernel) (by decide +kernel) (by decide +kernel) (by decide +kernel)) (by decide +kernel)),
    by decide +kernel⟩,
   ⟨0, ask 0x20 0x2300 0xF 0 [1, 0, 2, 0, 3, 0, 4, 0],
    ((hosted 3 (item0 [] lit1)).begin 0).found (ask 0x20 0x2300 0xF 0 [1, 0, 2, 0, 3, 0, 4, 0]),
    (((hosted 3 (item0 [] lit1)).begin 0).found (ask 0x20 0x2300 0xF 0 [1, 0, 2, 0, 3, 0, 4, 0])).sess (whoOf (ask 0x20 0x2300 0xF 0 [1, 0, 2, 0, 3, 0, 4, 0]).path),
    hosted 3 (item0 [] lit1), (hosted 3 (item0 [] lit1)).begin 0, [1, 0, 2, 0, 3, 0, 4, 0], copy1 [], [1, 2, 3, 4], rfl,
    (writes_of (heard_ask (by decide +kernel) (by decide +kernel) (by decide +kernel) (by decide +kernel)) (by decide +kernel)),
    by decide +kernel⟩,
   ⟨0, ask 0x20 0x2300 0x10 0 one, ((hosted 3 (item0 [(0, some [1, 2, 3, 4])] lit1)).begin 0).found (ask 0x20 0x2300 0x10 0 one),
    (((hosted 3 (item0 [(0, some [1, 2, 3, 4])] lit1)).begin 0).found (ask 0x20 0x2300 0x10 0 one)).sess (whoOf (ask 0x20 0x2300 0x10 0 one).path),
    .n 1, hosted 3 (item0 [(0, some [1, 2, 3, 4])] lit1), (hosted 3 (item0 [(0, some [1, 2, 3, 4])] lit1)).begin 0,
    copy1 [(0, some [1, 2, 3, 4])], rfl,
    (writes_of (heard_ask (by decide +kernel) (by decide +kernel) (by decide +kernel) (by decide +kernel)) (by decide +kernel)),
    by decide +kernel⟩,
   ⟨0, ask 0x20 0x2300 0x10 0 one, ((hosted 3 (item0 [] lit1)).begin 0).found (ask 0x20 0x2300 0x10 0 one),
    (((hosted 3 (item0 [] lit1)).begin 0).found (ask 0x20 0x2300 0x10 0 one)).sess (whoOf (ask 0x20 0x2300 0x10 0 one).path),
    .n 1, hosted 3 (item0 [] lit1), (hosted 3 (item0 [] lit1)).begin 0, copy1 [], rfl,
    (writes_of (heard_ask (by decide +kernel) (by decide +kernel) (by decide +kernel) (by decide +kernel)) (by decide +kernel)),
    by decide +kernel⟩,
   ⟨0, ask 0x20 0x2300 0x11 0 one, ((hosted 3 (item0 [] lit1)).begin 0).found (ask 0x20 0x2300 0x11 0 one),
    (((hosted 3 (item0 [] lit1)).begin 0).found (ask 0x20 0x2300 0x11 0 one)).sess (whoOf (ask 0x20 0x2300 0x11 0 one).path),
    .n 1, hosted 3 (item0 [] lit1), (hosted 3 (item0 [] lit1)).begin 0, rfl,
    (writes_of (heard_ask (by decide +kernel) (by decide +kernel) (by decide +kernel) (by decide +kernel)) (by decide +kernel)),
    by decide +kernel⟩,
   ⟨0, ask 0x20 0x2300 0x11 0 one,
    ((hosted 3 (item0 [] (setC [(0x3000, 7, 0)] lit1))).begin 0).found (ask 0x20 0x2300 0x11 0 one),
    (((hosted 3 (item0 [] (setC [(0x3000, 7, 0)] lit1))).begin 0).found (ask 0x20 0x2300 0x11 0 one)).sess (whoOf (ask 0x20 0x2300 0x11 0 one).path),
    .n 1, hosted 3 (item0 [] (setC [(0x3000, 7, 0)] lit1)), (hosted 3 (item0 [] (setC [(0x3000, 7, 0)] lit1))).begin 0, rfl,
    (writes_of (heard_ask (by decide +kernel) (by decide +kernel) (by decide +kernel) (by decide +kernel)) (by decide +kernel)),
    by decide +kernel⟩,
   ⟨0, ask 0x20 0x2000 2 0 (List.replicate 512 0),
    ((hosted 3 (on .laid)).begin 0).found (ask 0x20 0x2000 2 0 (List.replicate 512 0)),
    (((hosted 3 (on .laid)).begin 0).found (ask 0x20 0x2000 2 0 (List.replicate 512 0))).sess (whoOf (ask 0x20 0x2000 2 0 (List.replicate 512 0)).path),
    .b (List.replicate 512 0), hosted 3 (on .laid), (hosted 3 (on .laid)).begin 0, 0, rfl,
    (writes_of (heard_ask (by decide +kernel) (by decide +kernel) (by decide +kernel) (by decide +kernel)) (by decide +kernel)),
    by decide +kernel⟩,
   ⟨0, ask 0x20 0x2200 2 0 one, ((hosted 3 (on .laid)).begin 0).found (ask 0x20 0x2200 2 0 one),
    (((hosted 3 (on .laid)).begin 0).found (ask 0x20 0x2200 2 0 one)).sess (whoOf (ask 0x20 0x2200 2 0 one).path), .n 1,
    hosted 3 (on .laid), (hosted 3 (on .laid)).begin 0, 2, rfl,
    (writes_of (heard_ask (by decide +kernel) (by decide +kernel) (by decide +kernel) (by decide +kernel)) (by decide +kernel)),
    by decide +kernel⟩⟩

theorem test_meets_ContentRequests_2 :
    (∃ (t : Nat) (r : Req) (e : State) (x : Sess) (v : Val) (s : State) (m : State) (c : Fin 16), m = s.begin t ∧
     Writes m (0x3000 + c) 8 r e x v ∧ s.atFrames c = true) ∧
    (∃ (t : Nat) (r : Req) (e : State) (x : Sess) (v : Val) (s : State) (m : State) (c : Fin 16), m = s.begin t ∧
     Writes m (0x3000 + c) 8 r e x v ∧ s.atFrames c = false) ∧
    (∃ (t : Nat) (r : Req) (e : State) (x : Sess) (v : Val) (s : State) (m : State) (c : Fin 16), m = s.begin t ∧
     Writes m (0x3900 + c) 2 r e x v ∧ s.atFrames c = false) ∧
    (∃ (t : Nat) (r : Req) (e : State) (x : Sess) (v : Val) (s : State) (m : State), m = s.begin t ∧ Writes m 0x4211 2 r e x v ∧
     s.runningChans ≠ []) ∧
    (∃ (t : Nat) (r : Req) (e : State) (x : Sess) (v : Val) (s : State) (m : State), m = s.begin t ∧ Writes m 0x4211 2 r e x v ∧
     s.runningChans = []) ∧
    (∃ (t : Nat) (r : Req) (e : State) (x : Sess) (v : Val) (s : State) (m : State), m = s.begin t ∧ Writes m 0xB030 2 r e x v ∧
     s.runningChans.find? (fun c => decide (chan s.comm c 2 = fieldAt v.blk 11 10)) = none) ∧
    (∃ (t : Nat) (r : Req) (e : State) (x : Sess) (v : Val) (s : State) (m : State) (c : Nat), m = s.begin t ∧
     Writes m 0xB030 2 r e x v ∧ s.runningChans.find? (fun c => decide (chan s.comm c 2 = fieldAt v.blk 11 10)) = some c ∧
     s.atFrames c = true) :=
  ⟨⟨0, ask 0x20 0x3000 8 0 one, ((hosted 3 (lit1)).begin 0).found (ask 0x20 0x3000 8 0 one),
    (((hosted 3 (lit1)).begin 0).found (ask 0x20 0x3000 8 0 one)).sess (whoOf (ask 0x20 0x3000 8 0 one).path), .n 1,
    hosted 3 (lit1), (hosted 3 (lit1)).begin 0, 0, rfl,
    (writes_of (heard_ask (by decide +kernel) (by decide +kernel) (by decide +kernel) (by decide +kernel)) (by decide +kernel)),
    by decide +kernel⟩,
   ⟨0, ask 0x20 0x3000 8 0 one, ((hosted 3 (on .laid)).begin 0).found (ask 0x20 0x3000 8 0 one),
    (((hosted 3 (on .laid)).begin 0).found (ask 0x20 0x3000 8 0 one)).sess (whoOf (ask 0x20 0x3000 8 0 one).path), .n 1,
    hosted 3 (on .laid), (hosted 3 (on .laid)).begin 0, 0, rfl,
    (writes_of (heard_ask (by decide +kernel) (by decide +kernel) (by decide +kernel) (by decide +kernel)) (by decide +kernel)),
    by decide +kernel⟩,
   ⟨0, ask 0x20 0x3900 2 0 (List.replicate 256 0),
    ((hosted 3 (on .laid)).begin 0).found (ask 0x20 0x3900 2 0 (List.replicate 256 0)),
    (((hosted 3 (on .laid)).begin 0).found (ask 0x20 0x3900 2 0 (List.replicate 256 0))).sess (whoOf (ask 0x20 0x3900 2 0 (List.replicate 256 0)).path),
    .b (List.replicate 256 0), hosted 3 (on .laid), (hosted 3 (on .laid)).begin 0, 0, rfl,
    (writes_of (heard_ask (by decide +kernel) (by decide +kernel) (by decide +kernel) (by decide +kernel)) (by decide +kernel)),
    by decide +kernel⟩,
   ⟨0, ask 0x20 0x4211 2 0 one, ((hosted 3 (lit1)).begin 0).found (ask 0x20 0x4211 2 0 one),
    (((hosted 3 (lit1)).begin 0).found (ask 0x20 0x4211 2 0 one)).sess (whoOf (ask 0x20 0x4211 2 0 one).path), .n 1,
    hosted 3 (lit1), (hosted 3 (lit1)).begin 0, rfl,
    (writes_of (heard_ask (by decide +kernel) (by decide +kernel) (by decide +kernel) (by decide +kernel)) (by decide +kernel)),
    by decide +kernel⟩,
   ⟨0, ask 0x20 0x4211 2 0 one, ((hosted 3 (on .laid)).begin 0).found (ask 0x20 0x4211 2 0 one),
    (((hosted 3 (on .laid)).begin 0).found (ask 0x20 0x4211 2 0 one)).sess (whoOf (ask 0x20 0x4211 2 0 one).path), .n 1,
    hosted 3 (on .laid), (hosted 3 (on .laid)).begin 0, rfl,
    (writes_of (heard_ask (by decide +kernel) (by decide +kernel) (by decide +kernel) (by decide +kernel)) (by decide +kernel)),
    by decide +kernel⟩,
   ⟨0, ask 0x20 0xB030 2 0 (act1 9), ((hosted 3 (lit1)).begin 0).found (ask 0x20 0xB030 2 0 (act1 9)),
    (((hosted 3 (lit1)).begin 0).found (ask 0x20 0xB030 2 0 (act1 9))).sess (whoOf (ask 0x20 0xB030 2 0 (act1 9)).path),
    .b (act1 9), hosted 3 (lit1), (hosted 3 (lit1)).begin 0, rfl,
    (writes_of (heard_ask (by decide +kernel) (by decide +kernel) (by decide +kernel) (by decide +kernel)) (by decide +kernel)),
    by decide +kernel⟩,
   ⟨0, ask 0x20 0xB030 2 0 (act1 7), ((hosted 3 (lit1)).begin 0).found (ask 0x20 0xB030 2 0 (act1 7)),
    (((hosted 3 (lit1)).begin 0).found (ask 0x20 0xB030 2 0 (act1 7))).sess (whoOf (ask 0x20 0xB030 2 0 (act1 7)).path),
    .b (act1 7), hosted 3 (lit1), (hosted 3 (lit1)).begin 0, 0, rfl,
    (writes_of (heard_ask (by decide +kernel) (by decide +kernel) (by decide +kernel) (by decide +kernel)) (by decide +kernel)),
    by decide +kernel⟩⟩

end Sys2Proof.Tests
end

section
/-!
Scope: what a READ of `1001:01 STATE` carries (R2).
-/
namespace Sys2Proof.Machine

/-- An object that the module computes as it is read carries the bytes of that value (R370). -/
theorem State.readBytes_of_viewOwn {s : State} {x : Sess} {idx sub : Nat} {v : Val} (committed : Bool)
    (hsub : sub ≠ 0) (hview : s.viewOwn x idx sub = some v) :
    s.readBytes x idx sub committed = valBytes v (objRow idx sub).ty := by
  simp only [State.readBytes, if_neg hsub, State.view, hview]

theorem valBytes_u8 (n : Nat) : valBytes (.n n) .u8 = [BitVec.ofNat 8 n] := rfl

theorem State.viewOwn_state (s : State) (x : Sess) : s.viewOwn x 0x1001 1 = some (.n s.sys.mode.code) := rfl

/-- STATE is a UINT8 in the object dictionary. -/
theorem objRow_state_ty : (objRow 0x1001 1).ty = .u8 := by decide +kernel

/-- STATE reads as one byte, the code of the state the module is in, whichever copy the request names. -/
theorem State.readBytes_state (s : State) (x : Sess) (committed : Bool) :
    s.readBytes x 0x1001 1 committed = [BitVec.ofNat 8 s.sys.mode.code] := by
  rw [State.readBytes_of_viewOwn committed (by decide) (s.viewOwn_state x), objRow_state_ty, valBytes_u8]

theorem Mode.code_bounds (m : Mode) : 1 ≤ m.code ∧ m.code ≤ 6 := by
  cases m <;> decide

/-- A state's code fits in the byte that carries it. -/
theorem Mode.toNat_ofNat_code (m : Mode) : (BitVec.ofNat 8 m.code).toNat = m.code := by
  obtain ⟨_, hle⟩ := m.code_bounds
  rw [BitVec.toNat_ofNat, Nat.mod_eq_of_lt (by omega)]

/-- Settles O6: STATE reads as the code of the module's state, and the six states have the codes 0x01 to 0x06. -/
theorem stateReportsOnlyItsCodes : Obligations.StateReportsOnlyItsCodes := by
  intro s x committed
  obtain ⟨hlo, hhi⟩ := s.sys.mode.code_bounds
  refine ⟨_, s.readBytes_state x committed, ?_⟩
  rw [s.sys.mode.toNat_ofNat_code]
  exact ⟨hlo, hhi⟩

end Sys2Proof.Machine
end

section
/-!
Scope: the lending of allowance between the stoves in a tick of the power loop (R29, R342).
-/
namespace Sys2Proof.Machine

/-- What a tick of the power loop leaves alone: it may change power, and what an event at a fault source changes. -/
def TickFrame (s s' : State) : Prop :=
  s' = { s with out := s'.out, live := s'.live, sys := s'.sys, flt := s'.flt, pwr := s'.pwr, pair := s'.pair, mem := s'.mem, flue := s'.flue }

theorem TickFrame.trans {a b c : State} (h : TickFrame a b) (k : TickFrame b c) : TickFrame a c := by
  unfold TickFrame at h k ⊢
  rw [k, h]

/-- A step of the power loop within a tick that leaves the lend and all that bounds it as they stand. -/
structure LendKept (s s' : State) : Prop where
  frame : TickFrame s s'
  lend : s'.pwr.lend = s.pwr.lend
  baseA : s'.pwr.baseA = s.pwr.baseA
  baseB : s'.pwr.baseB = s.pwr.baseB
  heatA : s'.pwr.heatA = s.pwr.heatA
  heatB : s'.pwr.heatB = s.pwr.heatB

theorem LendKept.refl (s : State) : LendKept s s := ⟨rfl, rfl, rfl, rfl, rfl, rfl⟩

theorem LendKept.trans {a b c : State} (h : LendKept a b) (k : LendKept b c) : LendKept a c where
  frame := h.frame.trans k.frame
  lend := k.lend.trans h.lend
  baseA := k.baseA.trans h.baseA
  baseB := k.baseB.trans h.baseB
  heatA := k.heatA.trans h.heatA
  heatB := k.heatB.trans h.heatB

theorem LendKept.ite {s a b : State} {p : Prop} [Decidable p] (ha : LendKept s a) (hb : LendKept s b) :
    LendKept s (if p then a else b) := by split <;> assumption

/-- What wraps a command's effect sets its instant and the queue, which a step of the power loop leaves as they are, and `sys`, which
the frame leaves open. -/
theorem LendKept.restore {s s' : State} {now : Nat} {pending : List Instr} (h : LendKept s s') (hnow : now = s.now)
    (hpending : pending = s.pending) (sys : Sys) : LendKept s { s' with now := now, pending := pending, sys := sys } where
  frame := by
    have frame := h.frame
    unfold TickFrame at frame ⊢
    rw [frame, hnow, hpending]
  lend := h.lend
  baseA := h.baseA
  baseB := h.baseB
  heatA := h.heatA
  heatB := h.heatB

/-- An occurrence at a fault source does not touch power. -/
theorem FaultFrame.pwr {s s' : State} (h : FaultFrame s s') : s'.pwr = s.pwr := by rw [h]

theorem FaultFrame.tickFrame {s s' : State} (h : FaultFrame s s') : TickFrame s s' := by
  unfold TickFrame
  rw [h]

theorem FaultFrame.lendKept {s s' : State} (h : FaultFrame s s') : LendKept s s' := by
  refine ⟨h.tickFrame, ?_, ?_, ?_, ?_, ?_⟩ <;> rw [h.pwr]

theorem eachBelow_lendKept (n : Nat) (f : Nat → State → State) (h : ∀ i s, LendKept s (f i s)) (s : State) :
    LendKept s (eachBelow n f s) := by
  unfold eachBelow
  induction List.range n generalizing s with
  | nil => exact .refl s
  | cons i is ih => exact (h i s).trans (ih _)

/-! The rest of a tick (R341): the power demands. -/

theorem setUnder_lendKept (s : State) (st n : Nat) :
    LendKept s (s.updPwr (fun p => { p with under := p.under.set st n })) := ⟨rfl, rfl, rfl, rfl, rfl, rfl⟩

theorem lowerOne_lendKept (s : State) (st : Nat) : LendKept s (s.lowerOne st) := by
  unfold State.lowerOne
  simp only []
  split
  · exact ⟨rfl, rfl, rfl, rfl, rfl, rfl⟩
  · have noted : LendKept s (s.updPwr (fun p => { p with overAt := p.overAt.set st (some s.now) })) :=
      ⟨rfl, rfl, rfl, rfl, rfl, rfl⟩
    exact .ite (noted.trans (raise_frame _ _).lendKept) (.refl s)

theorem raiseOne_lendKept (s : State) (st : Nat) (busts : List Bool) : LendKept s (s.raiseOne st busts) := by
  unfold State.raiseOne
  simp only []
  split
  · exact ⟨rfl, rfl, rfl, rfl, rfl, rfl⟩
  · exact .refl s

/-- What a tick does for one stove once the allowances are settled (R341): `busts` tells which stoves exceed theirs. -/
def State.adjustStove (busts : List Bool) (st : Nat) (s : State) : State :=
  if busts.getD st false then (s.lowerOne st).updPwr (fun p => { p with under := p.under.set st 0 })
  else if s.stovePower st + 5000 < s.allowance st then
    let n := s.pwr.under.getD st 0 + 1
    let s := s.updPwr (fun p => { p with under := p.under.set st n })
    if 100 ≤ n then s.raiseOne st busts else s
  else s.updPwr (fun p => { p with under := p.under.set st 0 })

theorem adjustStove_lendKept (busts : List Bool) (st : Nat) (s : State) : LendKept s (s.adjustStove busts st) := by
  unfold State.adjustStove
  simp only []
  have lowered := (lowerOne_lendKept s st).trans (setUnder_lendKept _ st 0)
  have counted := setUnder_lendKept s st (s.pwr.under.getD st 0 + 1)
  exact .ite lowered (.ite (.ite (counted.trans (raiseOne_lendKept _ st busts)) counted) (setUnder_lendKept s st 0))

/-! Lending (R29, R342). -/

theorem updPwr_tickFrame (s : State) (f : Power → Power) : TickFrame s (s.updPwr f) := rfl

theorem showAllowance_frame (s : State) : FaultFrame s s.showAllowance :=
  ((setN_frame s _ _ _).trans (setN_frame _ _ _ _)).trans (setN_frame _ _ _ _)

theorem lendStep_tickFrame (s : State) : TickFrame s s.lendStep :=
  (updPwr_tickFrame s _).trans (showAllowance_frame _).tickFrame

@[simp] theorem lendStep_baseA (s : State) : s.lendStep.pwr.baseA = s.pwr.baseA := rfl
@[simp] theorem lendStep_baseB (s : State) : s.lendStep.pwr.baseB = s.pwr.baseB := rfl
@[simp] theorem lendStep_heatA (s : State) : s.lendStep.pwr.heatA = s.pwr.heatA := rfl
@[simp] theorem lendStep_heatB (s : State) : s.lendStep.pwr.heatB = s.pwr.heatB := rfl

theorem lendable_le_quarter (base : Nat) (unused : List Int) : lendable base unused ≤ (base / 4 : Nat) := by
  unfold lendable
  split
  · omega
  · split
    · omega
    · exact Int.min_le_right _ _

/-- The lend after a lending step: the one in force goes on, none stands, or stove A or stove B begins one. A lend goes on or begins
only to a stove that is not in WARN, and one that begins is at most a quarter of the lender's allowance. -/
theorem lendStep_lend_cases (s : State) :
    (s.lendStep.pwr.lend = s.pwr.lend ∧ (0 < s.pwr.lend ∧ s.pwr.heatB.warn = false ∨ s.pwr.lend < 0 ∧ s.pwr.heatA.warn = false)) ∨
    s.lendStep.pwr.lend = 0 ∨
    (0 < s.lendStep.pwr.lend ∧ s.lendStep.pwr.lend ≤ (s.pwr.baseA / 4 : Nat) ∧ s.pwr.heatB.warn = false) ∨
    (s.lendStep.pwr.lend < 0 ∧ -((s.pwr.baseB / 4 : Nat) : Int) ≤ s.lendStep.pwr.lend ∧ s.pwr.heatA.warn = false) := by
  generalize after : s.lendStep.pwr.lend = lend
  simp only [State.lendStep, State.showAllowance, State.setN_pwr, State.updPwr_pwr] at after
  generalize ((s.pwr.baseA : Int) - s.stovePower 0 - 2000) :: s.pwr.unusedA.take 9 = ua at after
  generalize ((s.pwr.baseB : Int) - s.stovePower 1 - 2000) :: s.pwr.unusedB.take 9 = ub at after
  have leA := lendable_le_quarter s.pwr.baseA ua
  have leB := lendable_le_quarter s.pwr.baseB ub
  split at after
  next keep =>
    simp only [Bool.or_eq_true, Bool.and_eq_true, decide_eq_true_eq, Bool.not_eq_true'] at keep
    exact .inl ⟨after.symm, keep.imp (fun ⟨⟨lends, _⟩, calm⟩ => ⟨lends, calm⟩) (fun ⟨⟨lends, _⟩, calm⟩ => ⟨lends, calm⟩)⟩
  split at after
  next ends => exact .inr (.inl after.symm)
  split at after
  next toB =>
    obtain ⟨_, calm, some_left⟩ := toB
    exact .inr (.inr (.inl ⟨by omega, by omega, calm⟩))
  split at after
  next toA =>
    obtain ⟨_, calm, some_left⟩ := toA
    exact .inr (.inr (.inr ⟨by omega, by omega, calm⟩))
  next => exact .inr (.inl after.symm)

/-- R342 for stove B: in WARN, stove A lends it nothing. -/
theorem lendStep_nonpos_of_warnB {s : State} (warn : s.pwr.heatB.warn = true) : s.lendStep.pwr.lend ≤ 0 := by
  have lendCases := lendStep_lend_cases s
  simp only [warn, reduceCtorEq, and_false, false_or] at lendCases
  omega

/-- R342 for stove A: in WARN, stove B lends it nothing. -/
theorem lendStep_nonneg_of_warnA {s : State} (warn : s.pwr.heatA.warn = true) : 0 ≤ s.lendStep.pwr.lend := by
  have lendCases := lendStep_lend_cases s
  simp only [warn, reduceCtorEq, and_false, or_false] at lendCases
  omega

/-- R29: where no lend stands, the one that begins is at most a quarter of its lender's allowance. -/
theorem lendStep_within_quarter {s : State} (none_stands : s.pwr.lend = 0) :
    -((s.pwr.baseB / 4 : Nat) : Int) ≤ s.lendStep.pwr.lend ∧ s.lendStep.pwr.lend ≤ ((s.pwr.baseA / 4 : Nat) : Int) := by
  have lendCases := lendStep_lend_cases s
  omega

/-! The command: lending first, then each stove's power demands. -/

/-- The stoves above their allowance, by number. -/
def State.busts (s : State) : List Bool := (List.range 2).map (fun st => decide (s.allowance st < s.stovePower st))

/-- The effect of a tick of the power loop on a running module. -/
def State.powerLoop (s : State) : State := eachBelow 2 (State.adjustStove s.lendStep.busts) s.lendStep

theorem powerLoop_lendKept (s : State) : LendKept s.lendStep s.powerLoop :=
  eachBelow_lendKept 2 _ (adjustStove_lendKept s.lendStep.busts) s.lendStep

theorem State.running_begin (s : State) (t : Nat) : (s.begin t).running = s.running := by
  simp only [State.running, State.isUp, State.begin_sys]
  rfl

theorem boot_of_running {s : State} (h : s.running = true) : s.sys.boot ≠ .off := by
  intro off
  simp only [State.running, State.isUp, off, reduceCtorEq, decide_false, Bool.false_and, Bool.false_eq_true] at h

theorem exec_powerLoopTick {s : State} (t : Nat) (run : s.running = true) :
    exec (.powerLoopTick t) s = .next { (s.begin t).powerLoop with
      now := max s.now t, pending := s.pending, sys := s.sys.keep (s.begin t).powerLoop.sys } := by
  have effect : exec (.powerLoopTick t) s = act t (fun s => if !s.running then s else s.powerLoop) s := rfl
  rw [effect, act_next (boot_of_running run)]
  simp only [State.running_begin, run, Bool.not_true, Bool.false_eq_true, if_false]

/-- A tick changes nothing but what `TickFrame` names, and the lend and its bounds are those that the lending step left. -/
theorem powerLoopTick_gives {s : State} {P : State → Prop} (t : Nat) (run : s.running = true)
    (h : ∀ s', LendKept (s.begin t).lendStep s' → P s') : Gives (.powerLoopTick t) s P := by
  have kept := powerLoop_lendKept (s.begin t)
  exact ⟨_, exec_powerLoopTick t run, h _ (kept.restore rfl rfl _)⟩

/-- Settles O11: the lending step lends nothing to a stove in WARN and begins no lend above a quarter, and the rest of the tick keeps
the lend. -/
theorem stoveInWarnIsLentNothing : Obligations.StoveInWarnIsLentNothing := by
  refine ⟨?_, ?_⟩
  · rintro t s _ rfl run
    refine powerLoopTick_gives t run (fun s' kept => ?_)
    refine ⟨fun warn => ?_, fun warn => ?_, kept.baseA.trans (lendStep_baseA _), kept.baseB.trans (lendStep_baseB _),
      kept.heatA.trans (lendStep_heatA _), kept.heatB.trans (lendStep_heatB _), (lendStep_tickFrame _).trans kept.frame⟩
    · rw [kept.lend]
      exact lendStep_nonpos_of_warnB warn
    · rw [kept.lend]
      exact lendStep_nonneg_of_warnA warn
  · rintro t s _ rfl run none_stands
    refine powerLoopTick_gives t run (fun s' kept => ?_)
    rw [kept.lend]
    exact lendStep_within_quarter none_stands

end Sys2Proof.Machine
end

section
/-!
Scope: a WRITE of 1 to `A000:02 VIN_MIN`, which sets it to VIN where other counters go to 0 (Table 14-11, R373).
-/
namespace Sys2Proof.Machine

/-- A write that passes the checks of Table 16-3 does its object's effect, whose code is the answer. -/
theorem run_of_writes {s e : State} {idx sub : Nat} {r : Req} {x : Sess} {v : Val} (h : Writes s idx sub r e x v) :
    e.run 0x20 idx sub r = ansOf (e.effect x.who (objRow idx sub) idx sub v) := by
  obtain ⟨heard, named, may, short, sized, value, gate, range⟩ := h
  obtain ⟨_, _, _, _, session, _, _, _, _, fresh, _⟩ := heard
  have written : e.writeValue x.who idx sub r.data = e.effect x.who (objRow idx sub) idx sub v := by
    simp [State.writeValue, ← value, gate, range]
  simp [State.run, State.writeReq, expire_none fresh, ← session, named, may, Nat.not_lt.mpr short, sized, written]

/-- An I3C request leaves every object as it is until it is executed: it is no Flue frame that gives a credit back. -/
theorem found_live {s : State} {r : Req} (path : r.path = .i3c ∨ r.path = .ddr) : (s.found r).live = s.live := by
  have arrived : (s.arrived r).live = s.live := by
    rcases path with h | h <;> simp [State.arrived, h, State.updGran]
  unfold State.found
  rw [letIn_gran]
  exact arrived

/-- Answering an accepted I3C request changes no object: no abort is counted. -/
theorem conclude_ok_live {s : State} {op idx sub : Nat} {r : Req} {d : List Byte} (path : r.path = .i3c ∨ r.path = .ddr) :
    (s.conclude op idx sub r false (.ok d)).live = s.live := by
  have sent (u : State) (b : List Byte) : (u.sendAnswer r b).live = u.live := by
    unfold State.sendAnswer
    rcases path with h | h <;> simp only [h] <;> split <;> rfl
  simp only [State.conclude, State.countAns, Bool.false_eq_true, if_false, sent]
  split <;> rfl

theorem AnswerFrame.sys_eq {s s' : State} (h : AnswerFrame s s') : s'.sys = s.sys := by rw [h]

theorem settle_live (a : State) {b : State} (powered : b.sys.boot ≠ .off) : (a.settle b).live = b.live := by
  rw [State.settle, if_neg powered]
  split <;> rfl

/-- Only a module with power hears a request. -/
theorem Heard.boot_up {s e : State} {op idx sub : Nat} {r : Req} {x : Sess} (h : Heard s op idx sub r e x) : s.sys.boot = .up := by
  obtain ⟨_, _, ⟨serving, _⟩, _⟩ := h
  simp only [State.serving, State.i3cLive, State.isUp, Bool.and_eq_true, decide_eq_true_eq] at serving
  exact serving.1.1.1

/-- A request heard over I3C and accepted leaves the objects as its execution left them. -/
theorem granilWrite_live {s s' e u : State} {t op idx sub : Nat} {r : Req} {x : Sess} {d : List Byte}
    (heard : Heard (s.begin t) op idx sub r e x) (path : r.path = .i3c ∨ r.path = .ddr) (run : e.run op idx sub r = (u, .ok d))
    (frame : AnswerFrame e u) (next : exec (.granilWrite t r op idx sub) s = .next s') : s'.live = u.live := by
  have requested : (s.begin t).request op idx sub r = u.conclude op idx sub r false (.ok d) := by
    rw [request_heard heard, run]
  have found : AnswerFrame (s.begin t) e := by
    obtain ⟨_, _, _, rfl, _⟩ := heard
    exact found_frame _ r
  have powered : (u.conclude op idx sub r false (.ok d)).sys.boot ≠ .off := by
    rw [((found.trans frame).trans (conclude_frame u _ _ _ r _ _)).sys_eq, heard.boot_up]
    decide
  have effect : exec (.granilWrite t r op idx sub) s = actAny t (fun s => s.request op idx sub r) s := rfl
  rw [effect, actAny_next] at next
  cases next
  show (s.settle ((s.begin t).request op idx sub r)).live = u.live
  rw [requested, settle_live s powered, conclude_ok_live path]

/-- A WRITE of VIN_MIN that is accepted stores VIN. -/
theorem effect_vinMin (s : State) (w : Who) {row : Row} (v : Val) (counter : row.acc = .rc) :
    s.effect w row 0xA000 2 v = (s.setN 0xA000 2 (s.lv 0xA000 1), 0) := by
  have plain : s.effectSpecial w 0xA000 2 v = none := by simp [State.effectSpecial]
  simp [State.effect, plain, counter]

theorem objRow_vinMin_acc : (objRow 0xA000 2).acc = .rc := by decide +kernel

/-- After an accepted WRITE over I3C, VIN_MIN is what VIN was. -/
theorem granilWrite_vinMin {s s' e : State} {t : Nat} {r : Req} {x : Sess} {v : Val} (writes : Writes (s.begin t) 0xA000 2 r e x v)
    (path : r.path = .i3c ∨ r.path = .ddr) (next : exec (.granilWrite t r 0x20 0xA000 2) s = .next s') :
    s'.lv 0xA000 2 = s.lv 0xA000 1 := by
  have heard := writes.1
  have run : e.run 0x20 0xA000 2 r = (e.setN 0xA000 2 (e.lv 0xA000 1), .ok []) := by
    rw [run_of_writes writes, effect_vinMin _ _ _ objRow_vinMin_acc]
    rfl
  have live := granilWrite_live heard path run (answer_setN e _ _ _) next
  have vin : e.live = s.live := by
    obtain ⟨_, _, _, rfl, _⟩ := heard
    exact found_live path
  simp [State.lv, live, vin]

/-- A module in LAID with I3C address 9, its input at 48 V. -/
def laidAt48V : State :=
  let laid := { State.reset with sys := { boot := .up, mode := .laid, fwRuns := true }, clk := { run := true } }
  (laid.setN 0x1110 1 9).setN 0xA000 1 48000

/-- The WRITE of 1 to VIN_MIN over I3C. -/
def clearVinMin : Req :=
  let data := leBytes 4 1
  { len := 4, data := data, crc := crc16 (granilBody 0x20 0 0xA000 2 4 0 none data) }

/-- The module in LAID accepts the WRITE. -/
theorem writes_clearVinMin : Writes (laidAt48V.begin 0) 0xA000 2 clearVinMin ((laidAt48V.begin 0).found clearVinMin)
    (((laidAt48V.begin 0).found clearVinMin).sess (whoOf clearVinMin.path)) (.n 1) := by
  have hears : Hears (laidAt48V.begin 0) clearVinMin := by unfold Hears; decide +kernel
  refine ⟨⟨by decide, by decide, hears, rfl, rfl, ?_, ?_, ?_, ?_, ?_, nofun⟩, ?_⟩ <;> decide +kernel

/-- Refutes O54: 1 written to VIN_MIN while VIN is 48 000 mV makes it 48 000, not 0. -/
theorem not_counterWritesClear : ¬ Obligations.CounterWritesClear := by
  intro h
  have writes := writes_clearVinMin
  obtain ⟨heard, named, may, short, sized, value, gate, _⟩ := writes_clearVinMin
  obtain ⟨clears, _⟩ := h 0 0xA000 2 clearVinMin _ _ _ laidAt48V _ rfl (.inl rfl) heard named may short sized value gate objRow_vinMin_acc
  obtain ⟨s', next, _, zero, _⟩ := clears (.inr (by decide)) rfl
  have vin := granilWrite_vinMin writes (.inl rfl) next
  rw [zero] at vin
  exact absurd vin (by decide +kernel)

end Sys2Proof.Machine
end

section
/-!
Scope: commands whose effect keeps what their clauses wrap: then the clauses add nothing.
-/
namespace Sys2Proof.Machine

/-- Settling changes nothing of a state that has power and is in COLD if the state before it was. -/
theorem settle_of_cold_kept {a b : State} (powered : b.sys.boot ≠ .off) (cold : a.sys.mode = .cold → b.sys.mode = .cold) :
    a.settle b = b := by
  by_cases ha : a.sys.mode = .cold
  · rw [State.settle, if_neg powered, if_pos ha, ← cold ha]
  · exact settle_on powered ha

/-- A command that may change power-up, whose effect keeps the module's power, COLD, the instant and the queue, gives that effect. -/
theorem actAny_next_effect {t : Nat} {f : State → State} {s u : State} (effect : f (s.begin t) = u) (powered : u.sys.boot ≠ .off)
    (cold : s.sys.mode = .cold → u.sys.mode = .cold) (now : u.now = (s.begin t).now) (pending : u.pending = s.pending) :
    actAny t f s = .next u := by
  rw [actAny_next, effect, settle_of_cold_kept powered cold, ← State.begin_now, ← now, ← pending]

/-- Chapter 17's hidden state is kept as it is where power-up stands as it stood and COLD stays COLD. -/
theorem Sys.keep_of_cold_kept {a b : Sys} (boot : b.boot = a.boot) (cold : a.mode = .cold → b.mode = .cold) : a.keep b = b := by
  by_cases ha : a.mode = .cold
  · rw [Sys.keep, if_pos ha, ← boot, ← cold ha]
  · rw [Sys.keep, if_neg ha, ← boot]

/-- Any other command on a powered module, whose effect keeps power-up, COLD, the instant and the queue, gives that effect. -/
theorem act_next_effect {t : Nat} {f : State → State} {s u : State} (effect : f (s.begin t) = u) (powered : s.sys.boot ≠ .off)
    (boot : u.sys.boot = s.sys.boot) (cold : s.sys.mode = .cold → u.sys.mode = .cold) (now : u.now = (s.begin t).now)
    (pending : u.pending = s.pending) : act t f s = .next u := by
  rw [act_next powered, effect, Sys.keep_of_cold_kept boot cold, ← State.begin_now, ← now, ← pending]

end Sys2Proof.Machine
end

section
/-!
Scope: RST_N during power-up (R400, Table 17-1).
-/
namespace Sys2Proof.Machine

/-- R400, R416: before the root PLL's lock, and in COLD, RST_N low leaves its mark and nothing else. -/
theorem exec_rstNLow_noted {s : State} (t : Nat) (powered : s.sys.boot ≠ .off)
    (early : s.sys.boot = .converting ∨ s.sys.boot = .pg ∨ s.sys.mode = .cold) :
    exec (.rstNLow t) s = .next { s.begin t with sys := { (s.begin t).sys with rstLow := true } } := by
  have noReset : ¬ (s.sys.mode ≠ .cold ∧ (s.sys.boot = .pll ∨ s.sys.boot = .up)) := by
    rintro ⟨warm, late⟩
    rcases early with h | h | h
    · simp [h] at late
    · simp [h] at late
    · exact warm h
  show execRstNLow t s = _
  exact actAny_next_effect (if_neg noReset) powered id rfl rfl

/-- R399: PG is asserted with RST_N at either level. -/
theorem exec_pgAsserted {s : State} (t : Nat) (converting : s.sys.boot = .converting) (warm : s.sys.mode ≠ .cold) :
    exec (.pgAsserted t) s = .next ({ s.begin t with sys := { (s.begin t).sys with boot := .pg } }.setN 0x1F00 8
      (if s.sys.holdN then 1 else 0)) :=
  actAny_next_effect (if_pos converting) nofun (absurd · warm) rfl rfl

/-- R400: the root PLL's lock does not count while RST_N is low. -/
theorem exec_rootPllLock_held {s : State} (t : Nat) (powered : s.sys.boot ≠ .off) (low : s.sys.rstLow = true) :
    exec (.rootPllLock t) s = .next (s.begin t) := by
  have held : ¬ (s.sys.boot = .pg ∧ s.sys.rstLow = false ∧ s.sys.mode ≠ .cold) := by simp [low]
  exact actAny_next_effect (if_neg held) powered id rfl rfl

/-- R400: KINDLING is not entered while RST_N is low. -/
theorem exec_kindlingEntered_held {s : State} (t : Nat) (test : SramTest) (powered : s.sys.boot ≠ .off) (low : s.sys.rstLow = true) :
    exec (.kindlingEntered t test) s = .next (s.begin t) := by
  have held : ¬ (s.sys.boot = .pll ∧ s.sys.rstLow = false ∧ s.sys.mode ≠ .cold) := by simp [low]
  exact actAny_next_effect (if_neg held) powered id rfl rfl

/-- R22, R400: with RST_N high the root PLL's lock is the next row of Table 17-1 after PG, and starts the time counter. -/
theorem exec_rootPllLock {s : State} (t : Nat) (pg : s.sys.boot = .pg) (high : s.sys.rstLow = false) (warm : s.sys.mode ≠ .cold) :
    exec (.rootPllLock t) s = .next { s.begin t with
      sys := { (s.begin t).sys with boot := .pll }, clk := { ({} : Clock) with at_ := (s.begin t).now, run := true } } :=
  actAny_next_effect (if_pos ⟨pg, high, warm⟩) nofun (absurd · warm) rfl rfl

/-- R400: the rise of RST_N on a powered module changes nothing but the contact's level. -/
theorem exec_rstNRelease {s : State} (t : Nat) (powered : s.sys.boot ≠ .off) :
    exec (.rstNRelease t) s = .next { s.begin t with sys := { (s.begin t).sys with rstLow := false } } := by
  show execRstNRelease t s = _
  exact (actPin_on powered).trans (act_next_effect rfl powered rfl id rfl rfl)

/-- Settles O18: with RST_N low each command of Table 17-1 after PG finds its condition false, and the lock is taken once RST_N rises. -/
theorem lowRstNHoldsPowerUp : Obligations.LowRstNHoldsPowerUp := by
  refine ⟨?_, ?_, ?_, ?_⟩
  · rintro t s _ rfl powered early
    exact ⟨_, exec_rstNLow_noted t powered early, rfl⟩
  · rintro t s _ rfl converting _ warm
    exact ⟨_, exec_pgAsserted t converting warm, rfl⟩
  · rintro t test s _ rfl powered low
    exact ⟨⟨_, exec_rootPllLock_held t powered low, rfl⟩, ⟨_, exec_kindlingEntered_held t test powered low, rfl⟩⟩
  · rintro t u s _ rfl pg _ warm
    have powered : s.sys.boot ≠ .off := by simp [pg]
    exact ⟨_, exec_rstNRelease t powered, rfl, _, exec_rootPllLock u pg rfl warm, rfl⟩

end Sys2Proof.Machine
end

section
/-!
Scope: what validation of a commit finds does not depend on what is being validated (R408, R409): `sys.validating` is read by no check.
-/
namespace Sys2Proof.Machine

/-- The state with the commit under validation decided. -/
def State.decided (s : State) : State := { s with sys := { s.sys with validating := none } }

theorem decided_linksTo (s : State) (d : Tbl Nat) (fuel id : Nat) : s.decided.linksTo d fuel id = s.linksTo d fuel id := by
  have next : s.decided.towardRoot d = s.towardRoot d := rfl
  induction fuel generalizing id with
  | zero => rfl
  | succ fuel ih => simp only [State.linksTo, next, ih]

theorem decided_farLinks (s : State) : s.decided.farLinks = s.farLinks := by
  funext dest
  simp only [State.farLinks, decided_linksTo]
  rfl

theorem decided_grant (s : State) (destOf : Reserve → List Nat) (held want : List Reserve) :
    s.decided.grant destOf held want = s.grant destOf held want := by
  simp only [State.grant, State.farLoad, decided_farLinks]
  rfl

theorem decided_checkChimney (s : State) (m : Tbl Val) : checkChimney s.decided m = checkChimney s m := by
  simp only [checkChimney, State.reservedBy, decided_grant]
  rfl

theorem decided_inconsistent (s : State) (m : Tbl Val) : s.decided.inconsistent m = s.inconsistent m := by
  simp only [State.inconsistent, decided_checkChimney]
  rfl

/-- The errors of a commit are those that it had before it was decided. -/
theorem decided_commitErrors (s : State) (req : Nat) (m : Tbl Val) : s.decided.commitErrors req m = s.commitErrors req m := by
  simp only [State.commitErrors, decided_inconsistent]
  rfl

end Sys2Proof.Machine
end

section
/-!
Scope: a class 0 occurrence of the collector's own (R316, R329): the objects and the state it touches, and its count.
-/
namespace Sys2Proof.Machine

/-- `s'` differs from `s` in objects and the collector alone, and of the objects only in those listed. -/
structure NoteFrame (ks : List Nat) (s s' : State) : Prop where
  rest : s' = { s with live := s'.live, flt := s'.flt }
  objects : ObjectsBut ks s s'

theorem NoteFrame.trans {ks : List Nat} {a b c : State} (h : NoteFrame ks a b) (k : NoteFrame ks b c) : NoteFrame ks a c where
  rest := by rw [k.rest, h.rest]
  objects x hx := (k.objects x hx).trans (h.objects x hx)

theorem NoteFrame.of_flt {ks : List Nat} {s s' : State} (rest : s' = { s with flt := s'.flt }) : NoteFrame ks s s' where
  rest := by rw [rest]
  objects _ _ := by rw [rest]

theorem NoteFrame.ite {ks : List Nat} {s a b : State} {p : Prop} [Decidable p] (ha : NoteFrame ks s a) (hb : NoteFrame ks s b) :
    NoteFrame ks s (if p then a else b) := by split <;> assumption

theorem setV_noteFrame {ks : List Nat} (s : State) (i j : Nat) (v : Val) (listed : key i j ∈ ks) : NoteFrame ks s (s.setV i j v) where
  rest := rfl
  objects _ hk := objGet_objPut_other _ v (fun h => hk (h ▸ listed))

theorem inc_noteFrame {ks : List Nat} (s : State) (i j : Nat) (listed : key i j ∈ ks) : NoteFrame ks s (s.inc i j) :=
  setV_noteFrame s i j _ listed

theorem askIbi_noteFrame {ks : List Nat} (s : State) (g b : Nat) : NoteFrame ks s (s.askIbi g b) := by
  unfold State.askIbi
  exact .ite (.of_flt rfl) (.of_flt rfl)

theorem mark_noteFrame {ks : List Nat} (s : State) (e : Nat) (listed : key (0x9000 + e / 32) 1 ∈ ks) : NoteFrame ks s (s.mark e) := by
  unfold State.mark
  have status := (setV_noteFrame s (0x9000 + e / 32) 1 (.n (s.lv (0x9000 + e / 32) 1 + 2 ^ (e % 32))) listed).trans
    (askIbi_noteFrame _ (e / 32) (e % 32))
  exact .trans (.ite (.of_flt rfl) status) (.of_flt rfl)

theorem capture_noteFrame {ks : List Nat} (s : State) (g : Nat) (c : Capture) : NoteFrame ks s (s.capture g c) := by
  unfold State.capture
  split <;> exact .of_flt rfl

theorem ashFault_noteFrame {ks : List Nat} (s : State) (c : Capture) (k : Nat) : NoteFrame ks s (s.ashFault c k).1 := by
  unfold State.ashFault
  split <;> exact .of_flt rfl

/-- Of the objects a note changes its group's STATUS, and, when an Ash record is lost, group 0's STATUS and the count of lost records. -/
theorem note_noteFrame {ks : List Nat} (s : State) (e : Nat) (own : key (0x9000 + e / 32) 1 ∈ ks) (group0 : key 0x9000 1 ∈ ks)
    (lost : key 0x9400 4 ∈ ks) : NoteFrame ks s (s.note e) := by
  unfold State.note
  simp only []
  generalize ({ ts := s.stamp, init := blockInit 0 58, source := e, access := 8, cls := 0 } : Capture) = c
  have present : NoteFrame ks s ((s.mark e).bePresent e domModule 0) := (mark_noteFrame s e own).trans (.of_flt rfl)
  have captured := present.trans (capture_noteFrame _ (e / 32) c)
  have recorded := captured.trans (ashFault_noteFrame _ c 1)
  have counted := (recorded.trans (inc_noteFrame _ 0x9400 4 lost)).trans (mark_noteFrame _ (src 0 7) group0)
  exact .ite (.ite (counted.trans (.of_flt rfl)) recorded) captured

/-- A note counts its own source once, but for the one that the loss of an Ash record counts as well. -/
theorem note_countOf_self (s : State) {e : Nat} (other : e ≠ src 0 7) : countOf (s.note e) e = satAdd 16 (countOf s e) 1 := by
  unfold State.note
  simp only []
  split
  · split <;> simp [mark_countOf, other]
  · simp [mark_countOf]

end Sys2Proof.Machine
end

section
/-!
Scope: a commit that validation refuses (R409, R410).
-/
namespace Sys2Proof.Machine

/-- A counter after it has been incremented depends on nothing but its value before. -/
theorem lv_inc_congr {s s' : State} {i j : Nat} (h : s.lv i j = s'.lv i j) : (s.inc i j).lv i j = (s'.inc i j).lv i j := by
  simp only [State.inc, State.addN, State.lv_setN_self, h]

/-- What a refused commit shows, before its event: COMMIT_STATUS, REFUSALS, COMMIT_ERRORS and its count. -/
def State.showRefusal (s : State) (es : List CErr) : State :=
  (((s.setN 0x1F00 2 3).inc 0x1F00 0xB).setB 0x1F01 1 ((es.take 16).flatMap CErr.bytes)).setN 0x1F01 2 (min 65535 es.length)

theorem refuseCommit_eq (s : State) (es : List CErr) : s.refuseCommit es = (s.showRefusal es).note (src 0 1) := rfl

/-- The objects that a refusal may change. -/
def refusalObjects : List Nat := [key 0x1F00 2, key 0x1F00 0xB, key 0x1F01 1, key 0x1F01 2, key 0x9000 1, key 0x9400 4]

theorem refuseCommit_frame (s : State) (es : List CErr) : NoteFrame refusalObjects s (s.refuseCommit es) := by
  have shown : NoteFrame refusalObjects s (s.showRefusal es) :=
    (((setV_noteFrame s _ _ _ (by decide)).trans (inc_noteFrame _ _ _ (by decide))).trans (setV_noteFrame _ _ _ _ (by decide))).trans
      (setV_noteFrame _ _ _ _ (by decide))
  rw [refuseCommit_eq]
  exact shown.trans (note_noteFrame _ _ (by decide) (by decide) (by decide))

/-- The refusal's event leaves every object of the commit as it was shown. -/
theorem refuseCommit_keeps_shown (s : State) (es : List CErr) {k : Nat} (below : k < key 0x9000 0) :
    objGet (s.refuseCommit es).live k = objGet (s.showRefusal es).live k := by
  have noted := note_noteFrame (ks := [key 0x9000 1, key 0x9400 4]) (s.showRefusal es) (src 0 1) (by decide) (by decide) (by decide)
  rw [refuseCommit_eq]
  refine noted.objects k ?_
  simp only [key, List.mem_cons, List.not_mem_nil, or_false, not_or] at below ⊢
  omega

theorem refuseCommit_lv (s : State) (es : List CErr) {i j : Nat} (below : key i j < key 0x9000 0) :
    (s.refuseCommit es).lv i j = (s.showRefusal es).lv i j := by
  simp only [State.lv, refuseCommit_keeps_shown s es below]

theorem refuseCommit_status (s : State) (es : List CErr) : (s.refuseCommit es).lv 0x1F00 2 = 3 := by
  rw [refuseCommit_lv s es (by decide)]
  simp [State.showRefusal, State.lv, State.inc, State.addN, objGet_objPut, key]

theorem refuseCommit_refusals (s : State) (es : List CErr) : (s.refuseCommit es).lv 0x1F00 0xB = (s.inc 0x1F00 0xB).lv 0x1F00 0xB := by
  have status : (s.setN 0x1F00 2 3).lv 0x1F00 0xB = s.lv 0x1F00 0xB := by simp [State.lv_setN, key]
  rw [refuseCommit_lv s es (by decide), State.showRefusal, State.lv_setN, if_neg (by decide), State.lv_setB_other _ _ _ _ _ _ (by decide)]
  exact lv_inc_congr status

theorem refuseCommit_errorCount (s : State) (es : List CErr) : (s.refuseCommit es).lv 0x1F01 2 = min 65535 es.length := by
  rw [refuseCommit_lv s es (by decide)]
  exact State.lv_setN_self _ _ _ _

theorem refuseCommit_errors (s : State) (es : List CErr) : (s.refuseCommit es).lvb 0x1F01 1 = (es.take 16).flatMap CErr.bytes := by
  rw [State.lvb, refuseCommit_keeps_shown s es (by decide)]
  simp [State.showRefusal, objGet_objPut, key]

theorem refuseCommit_countOf (s : State) (es : List CErr) :
    countOf (s.refuseCommit es) (src 0 1) = satAdd 16 (countOf s (src 0 1)) 1 := by
  have shown : countOf (s.showRefusal es) (src 0 1) = countOf s (src 0 1) := by simp [State.showRefusal]
  rw [refuseCommit_eq, note_countOf_self _ (by decide), shown]

/-- R409: validation that finds errors ends with the commit decided and refused with them. -/
theorem exec_commitValidationDone_refused {s : State} {t v : Nat} (dev : Option TouchDev) {new : Tbl Val} (powered : s.sys.boot ≠ .off)
    (validating : s.sys.validating = some (v, new)) (spares : s.awaitsSpares = false) (errors : (s.begin t).commitErrors v new ≠ []) :
    exec (.commitValidationDone t dev) s = .next ((s.begin t).decided.refuseCommit ((s.begin t).commitErrors v new)) := by
  have frame := (refuseCommit_frame (s.begin t).decided ((s.begin t).commitErrors v new)).rest
  have sys : ((s.begin t).decided.refuseCommit ((s.begin t).commitErrors v new)).sys = (s.begin t).decided.sys := by rw [frame]
  have found := decided_commitErrors (s.begin t) v new
  show execCommitValidationDone t dev s = _
  refine act_next_effect ?_ powered (by rw [sys]; rfl) (by rw [sys]; exact id) (by rw [frame]; rfl) (by rw [frame]; rfl)
  have tested : (s.begin t).awaitsSpares = false := spares
  simp only [State.begin_sys, validating, tested, Bool.false_eq_true, if_false]
  split
  next none_found => exact absurd (found.symm.trans none_found) errors
  next => exact congrArg _ found

/-- Settles O14: a refusal shows its errors and notes its event, and validation finds the errors of the state at the command's instant. -/
theorem refusedCommitChangesNothing : Obligations.RefusedCommitChangesNothing := by
  rintro t v dev new s _ rfl powered validating spares errors
  refine ⟨_, exec_commitValidationDone_refused dev powered validating spares errors, ?_⟩
  generalize (s.begin t).commitErrors v new = es
  have frame := refuseCommit_frame (s.begin t).decided es
  have rest := frame.rest
  refine ⟨refuseCommit_status _ es, refuseCommit_refusals _ es, refuseCommit_countOf _ es, ?_, ?_, ?_, ?_, refuseCommit_errors _ es,
    refuseCommit_errorCount _ es, ?_, frame.objects, ?_⟩ <;> rw [rest] <;> rfl

end Sys2Proof.Machine
end
